-- ==== Sys2Proof/Word.lean ====
section
/-!
DEFINITION. The word types of the model: bytes, 64-bit words, byte strings.
-/

namespace Sys2Proof

/-- A byte (R9). -/
abbrev Byte := BitVec 8

/-- A 64-bit word: a set-up register, a general register, an address while it is computed. -/
abbrev W := BitVec 64

/-- A byte string in rising address order (R8). -/
abbrev Bytes := List Byte

/-- A 64-byte structure of host memory read as one little-endian number (R7, R9): byte `k` is bits
`8 k + 7 .. 8 k`. Descriptors (R89, R90), admin entries (R67), dialogue contexts (R142) and command
blocks (R260) have this form. -/
abbrev W512 := BitVec 512

/-- A table by number: pairs of a key and its entry, keys strictly rising. -/
abbrev Tbl (α : Type) := List (Nat × α)

end Sys2Proof
end

