-- ==== Sys2Proof/Syntax.lean ====
section
/-!
DEFINITION. The commands of the Olifar 9600: one constructor of `Instr` for each row of spec/opcode_table.json, with
the operands the row takes from outside. The rows give no bits. A command names the port, channel, ring, core, bench
or unit it acts on, carries the bytes of the structure it handles, what its reads of host memory returned (`none`
is a read that failed under R46), and the choices the manual leaves to the device.
-/

namespace Sys2Proof

/-- PCIe device power state of a function (R42). D3cold is D3cold with power kept to the device (R111). -/
inductive DState where
  | d0
  | d3hot
  | d3cold
  deriving DecidableEq, Repr

/-- What one poll of a doorbell group read through each port (R85): the 64 doorbell words of the group, in channel
order, or `none` where no read was made through the port or the read failed (R46). -/
structure GroupRead where
  via0 : Option (List W)
  via1 : Option (List W)
  deriving DecidableEq, Repr

/-- A Dovetail frame (R184): the header's fields, the payload without its padding, FCRC, and for a frame received whether every
codeword of it was good (R185). FSPEC is one number, byte 16 of the header at bits 7 to 0. -/
structure Frame where
  ftype : Byte
  fflags : Byte := 0
  fseq : BitVec 32 := 0
  ack : BitVec 32 := 0
  credit : BitVec 32 := 0
  fspec : BitVec 96 := 0
  payload : Bytes := []
  fcrc : BitVec 32 := 0
  good : Bool := true
  deriving DecidableEq, Repr

/-- One prefix of an instruction with its payload byte where it has one (R316). -/
inductive Pfx where
  | osz
  | dlen (p : Byte)
  | key (p : Byte)
  | strict
  | lock
  | au (p : Byte)
  | relaxed
  | nt
  deriving DecidableEq, Repr

/-- A memory specifier as it stands in the instruction (R318): its three bytes and the displacement bytes, of which
AMODE says how many there are. -/
structure MemSpec where
  data : Byte
  b1 : Byte
  b2 : Byte
  disp : BitVec 32 := 0
  deriving DecidableEq, Repr

/-- The operand bytes of a customer instruction in every layout of R451: register bytes, immediates, and the memory
specifier. The layout the binding names says which of them the instruction has. -/
structure CustOps where
  r0 : Byte := 0
  r1 : Byte := 0
  r2 : Byte := 0
  r3 : Byte := 0
  imm8a : Byte := 0
  imm8b : Byte := 0
  imm32 : BitVec 32 := 0
  m : MemSpec := ⟨0, 0, 0, 0⟩
  deriving DecidableEq, Repr

/-- An engine of a bench: signature engine `kiln × 8 + engine`, or cipher engine 0 to 3 (R39, R276). -/
inductive EngineRef where
  | signature (n : Nat)
  | cipher (n : Nat)
  deriving DecidableEq, Repr

/-- What an SRAM scrub unit found beyond correction (R483): nothing, a word of a device structure (staging SRAM, key
array, granule map or hub directory), or a line of core-local SRAM or pool, by its 64-byte line number. -/
inductive SramBad where
  | none
  | structure_
  | poolLine (line : Nat)
  deriving DecidableEq, Repr

/-- A host write to configuration space (R42, R44, R197): the fields the manual gives an effect. -/
inductive CfgWrite where
  | busMaster (v : Bool)
  | relaxedOrdering (v : Bool)
  | maxPayload (v : BitVec 3)
  | maxReadRequest (v : BitVec 3)
  | tag10 (v : Bool)
  | msixEnable (v : Bool)
  | msixFunctionMask (v : Bool)
  | aspmL1 (v : Bool)
  | bar0 (v : W)
  | aerMask (v : BitVec 32)
  | aerSeverity (v : BitVec 32)
  /-- Uncorrectable Error Status: a 1 clears the bit. -/
  | aerStatusClear (v : BitVec 32)
  deriving DecidableEq, Repr

/-- What a port's link has trained to (R42, R47): lanes, the rate in tenths of GT/s, and whether it runs in FLIT mode. -/
structure LinkTrain where
  lanes : Nat := 0
  rate : Nat := 0
  flit : Bool := false
  deriving DecidableEq, Repr

/-- A field of an MSI-X table entry as the host writes it (R53, R54). -/
inductive MsixWrite where
  | mask (v : Bool)
  | address (v : W)
  | data (v : BitVec 32)
  deriving DecidableEq, Repr

/-- A part that a self-test or a fault names (R508, R537). -/
inductive PartRef where
  | core (bench pos : Nat)
  | signature (bench n : Nat)
  | cipher (bench n : Nat)
  | gddr (ch : Nat)
  | mram (die : Nat)
  deriving DecidableEq, Repr

/-- What a start-up meets outside the model's state (R491, R493 to R495, R514, R516): whether the flash answers,
whether power and self-refresh kept external memory, the channels that fail training, the parts the self-test
fails, the MRAM dies found lost, whether a record failed its check, and the straps. -/
structure BootFacts where
  romOk : Bool := true
  flashOk : Bool := true
  selfRefreshIntact : Bool := false
  trainFail : List Nat := []
  selfTestFail : List PartRef := []
  mramLost : List Nat := []
  recordBad : Bool := false
  identityOk : Bool := true
  testEn : Bool := false
  pe0x8 : Bool := false
  pe1x8 : Bool := false
  mgmtSmbus : Bool := false
  mgmtAddr : BitVec 2 := 0
  /-- TAMPER_N is low at the start-up (R248). -/
  tamperLow : Bool := false
  /-- The choices of key material a new vault draws (R246, R247). -/
  pkgKey : BitVec 256 := 0
  deriving DecidableEq, Repr

/-- The commands: one constructor for each row of the table of operations and events. -/
inductive Instr where
  /-- SETUP_REGISTER_WRITE (R56). A host write to a BAR0 set-up register that has no row of its own is checked in order and stored or refused. -/
  | setupRegisterWrite (p off size : Nat) (v : W)
  /-- SETUP_COMMIT (R58). A write of 1 to SETUP_CTRL.COMMIT commits the port's set-up when the commit conditions hold. -/
  | setupCommit (p size : Nat) (v : W) (heads : List (Nat × Option W))
  /-- SETUP_STATUS_CLEAR (R12). A W1C write to SETUP_STATUS clears REFUSED and REFUSE_COUNT. -/
  | setupStatusClear (p size : Nat) (v : W)
  /-- KICK_DOORBELL_GROUP (R57). A KICK naming a doorbell group disarms the group if it is armed and makes the intake read its doorbell words. -/
  | kickDoorbellGroup (p size : Nat) (v : W) (rd : GroupRead)
  /-- KICK_ADMIN_RING (R62). A KICK of 0x0100 makes the device read the admin tail word and fetch the admin commands it covers. -/
  | kickAdminRing (p size : Nat) (v : W) (tail : Option W) (entry : Option W512)
  /-- IDENTIFY (R537). Admin command that writes one 4,096-byte page of identity data. -/
  | identify (p : Nat) (wrOk : Bool)
  /-- GET_FEATURE (R73). Admin command that returns one feature value in RESULT. -/
  | getFeature (p : Nat)
  /-- SET_FEATURE (R73). Admin command that writes one feature value, taking effect at its CONFIG record. -/
  | setFeature (p : Nat)
  /-- CREATE_CQ (R74). Admin command that creates a completion ring on a port. -/
  | createCq (p : Nat)
  /-- DELETE_CQ (R76). Admin command that deletes a completion ring with no channel mapped and nothing undelivered. -/
  | deleteCq (p : Nat)
  /-- OPEN_CHANNEL (R77). Admin command that opens a channel with its ring, program, ordering mode and pool reservation. -/
  | openChannel (p : Nat)
  /-- CLOSE_CHANNEL (R80). Admin command that closes a drained channel. -/
  | closeChannel (p : Nat) (word : Option W)
  /-- BIND_PORT (R49). Admin command that moves a completion ring and its channels to a port, recovering the ring when the old port is down or uncommitted. -/
  | bindPort (p : Nat) (head : Option W)
  /-- LOAD_PROGRAM (R205). Admin command that loads a channel-program image as a new generation or restores an absent one. -/
  | loadProgram (p : Nat) (data : Option Bytes) (codeAt dataAt : Nat)
  /-- ACTIVATE_PROGRAM (R208). Admin command that sets the switch instant of a loaded generation. -/
  | activateProgram (p : Nat)
  /-- LOAD_MICROCODE (R460). Admin command of KIND LOAD that loads or restores a signed customer microcode image into every control store. -/
  | loadMicrocode (p : Nat) (data : Option Bytes)
  /-- REGISTER_KEY (R459). LOAD_MICROCODE of KIND REGISTER_KEY that fuses the hash of the customer's microcode public key. -/
  | registerKey (p : Nat) (data : Option Bytes)
  /-- IMPORT_KEY (R252). Admin command that imports an X9.143 key block into a vault slot or as an imported sealing key. -/
  | importKey (p : Nat) (data : Option Bytes)
  /-- ISSUE_TOKEN (R256). Admin command that issues a key, provisioning or root provisioning token. -/
  | issueToken (p : Nat) (data : Option Bytes) (wrOk : Bool)
  /-- REVOKE_SLOT (R257). Admin command that raises a slot's or the provisioning generation, erases a slot or removes a sealing key. -/
  | revokeSlot (p : Nat) (data : Option Bytes) (wrOk : Bool)
  /-- SET_TIME (R117). Admin command that arms a PPS setting of ledger time or selects time from the twin. -/
  | setTime (p : Nat)
  /-- SET_CALENDAR (R128). Admin command that writes cut-off, key-rollover and window entries together. -/
  | setCalendar (p : Nat) (data : Option Bytes)
  /-- SET_POWER (R499). Admin command that begins a transition to power state P0 to P3. -/
  | setPower (p : Nat)
  /-- QUIESCE (R503). Admin command that stops acceptance, posts and signals everything postable and appends a SEAL record. -/
  | quiesce (p : Nat)
  /-- PAIR_TWIN (R192). Admin command that proposes pairing with the twin and sets the paired journal mode. -/
  | pairTwin (p : Nat)
  /-- ADOPT_CHANNELS_FAILED (R201). ADOPT_CHANNELS of KIND FAILED that makes a lost twin's mirrored stream primary and recovers its rings. -/
  | adoptFailed (p : Nat) (heads : List (Nat × Option W))
  /-- ADOPT_CHANNELS_PLANNED (R202). ADOPT_CHANNELS of KIND PLANNED that asks the holder to release a stream and then adopts it. -/
  | adoptPlanned (p : Nat)
  /-- JOURNAL_READ (R179). Admin command that returns journal records by JSN range or channel and may advance the archive cursor. -/
  | journalRead (p : Nat) (wrOk : Bool)
  /-- CHANNEL_STATE (R181). Admin command that returns a channel's state, counts and indices. -/
  | channelState (p : Nat) (wrOk : Bool)
  /-- TELEMETRY_READ (R509). Admin command that returns one telemetry counter group. -/
  | telemetryRead (p : Nat) (wrOk : Bool)
  /-- ERROR_LOG_READ (R507). Admin command that returns error-log entries from a sequence number. -/
  | errorLogRead (p : Nat) (wrOk : Bool)
  /-- SET_BACKGROUND (R488). Admin command that sets background activity periods, latest starts and window bindings. -/
  | setBackground (p : Nat) (data : Option Bytes)
  /-- FW_UPDATE_STAGE (R496). FW_UPDATE of KIND STAGE that writes a signed firmware image into the slot not running. -/
  | fwUpdateStage (p : Nat) (data : Option Bytes)
  /-- FW_UPDATE_ACTIVATE (R497). FW_UPDATE of KIND ACTIVATE that switches to the staged firmware in service. -/
  | fwUpdateActivate (p : Nat)
  /-- ADMIN_COMPLETION_POST (R65). Once a command's CONFIG record is durable and the admin completion ring has room, the device posts its completion and fetches the next command. -/
  | adminCompletionPost (p : Nat) (next : Option W512)
  /-- ADMIN_HEAD_READ (R66). Periodic read of the admin head word while the admin completion ring is full or holds undelivered entries. -/
  | adminHeadRead (p : Nat) (word : Option W)
  /-- DOORBELL_POLL (R85). At each POLL_PERIOD the intake reads the doorbell words of every live group. -/
  | doorbellPoll (g : Nat) (rd : GroupRead)
  /-- GROUP_ARM (R86). After ARM_AFTER without doorbell change the intake writes the arm word and makes its final read. -/
  | groupArm (g : Nat) (rd : GroupRead)
  /-- MSG_IN (R91). A fetched MSG_IN descriptor is checked at stages 1 to 5 and its body fetch requested or it is rejected. -/
  | msgIn (ch : Nat) (desc : W512)
  /-- ACCEPT (R114). When a message body has been fetched, the intake stamps it, assigns a JSN and appends its ACCEPT record, or rejects it at stages 6 to 9. -/
  | accept (ch : Nat) (body : Option Bytes) (win : Nat)
  /-- DESCRIPTOR_READ_FAULT (R539). A failed descriptor read consumes the descriptor and reports it by an IN_DONE with DMA_FAULT. -/
  | descriptorReadFault (ch : Nat)
  /-- BUF_OUT (R92). A BUF_OUT descriptor is checked and its buffer joins the channel's list or is returned. -/
  | bufOut (ch : Nat) (desc : W512)
  /-- CTRL_MARK (R93). A CTRL MARK asks for a MARKER once every earlier MSG_IN and BUF_OUT has its entry posted. -/
  | ctrlMark (ch : Nat) (desc : W512)
  /-- CTRL_RETURN_BUFFERS (R93). A CTRL RETURN_BUFFERS returns every unassigned held buffer of the channel. -/
  | ctrlReturnBuffers (ch : Nat) (desc : W512)
  /-- CTRL_STOP (R93). A CTRL STOP appends a CONFIG record and stops the channel's acceptance. -/
  | ctrlStop (ch : Nat) (desc : W512)
  /-- CTRL_START (R93). A CTRL START appends a CONFIG record and ends the channel's stop. -/
  | ctrlStart (ch : Nat) (desc : W512)
  /-- GRANULE_GRANT (R98). When freed granules cover a waiting shared part, the request is granted in arrival order and the waiter proceeds. -/
  | granuleGrant
  /-- COMPLETION_POST (R26). The completion sequencer writes outbound bodies and posts entries once their records are durable and ring room and buffers allow. -/
  | completionPost (ring : Nat)
  /-- HEAD_WORD_READ (R105). Periodic read of a completion ring's head word, validated against the posted count. -/
  | headWordRead (ring : Nat) (word : Option W)
  /-- IRQ_HOLDOFF_EXPIRY (R110). Expiry of a ring's hold-off timer signals its MSI-X vector. -/
  | irqHoldoffExpiry (ring : Nat)
  /-- PORT_LINK_DOWN (R51). Loss of a port's link stops acceptance for its channels and holds their completions. -/
  | portLinkDown (p : Nat)
  /-- PORT_LINK_UP (R85). A port's link coming up resumes polling and fetching through it. -/
  | portLinkUp (p : Nat)
  /-- D_STATE_CHANGE (R111). A change of a function's PCIe device power state stops or resumes mastering, posting every postable entry on return to D0. -/
  | dStateChange (p : Nat) (d : DState)
  /-- RECORD_FRAME (R162). A received RECORD frame places record bytes in the mirroring area's staging. -/
  | recordFrame (sl : Nat) (f : Frame)
  /-- TAIL_FRAME (R185). A received TAIL frame moves the mirror's tail offset. -/
  | tailFrame (sl : Nat) (f : Frame)
  /-- STAGED_FRAME (R162). A received STAGED frame makes records up to STAGED_JSN durable in paired-strict mode and reduces the mirror lag. -/
  | stagedFrame (sl : Nat) (f : Frame)
  /-- ACK_FRAME (R186). A received ACK frame advances ACK_FSEQ and credits. -/
  | ackFrame (sl : Nat) (f : Frame)
  /-- NAK_FRAME (R186). A received NAK makes the sender resend every sequenced frame from the named FSEQ. -/
  | nakFrame (sl : Nat) (f : Frame)
  /-- IDLE_FRAME (R185). A received IDLE frame carries no payload and is taken as link activity. -/
  | idleFrame (sl : Nat) (f : Frame)
  /-- HEARTBEAT_FRAME (R190). A received HEARTBEAT updates the twin's serial, pairing state, streams and heads. -/
  | heartbeatFrame (sl : Nat) (f : Frame)
  /-- TIME_FRAME (R191). A received TIME frame yields an offset that a follower applies to ledger time. -/
  | timeFrame (sl : Nat) (f : Frame)
  /-- PAIR_PROPOSE (R194). A received PROPOSE is checked against this package's proposal and leads to AGREE and CATCH_UP or to refusal. -/
  | pairPropose (sl : Nat) (f : Frame)
  /-- PAIR_AGREE (R194). A received AGREE moves the package to CATCH_UP. -/
  | pairAgree (sl : Nat) (f : Frame)
  /-- PAIR_CATCHUP_DONE (R194). A received CATCHUP_DONE, with this side's catch-up sent, moves the package to PAIRED. -/
  | pairCatchupDone (sl : Nat) (f : Frame)
  /-- PAIR_UNPAIR (R194). A received UNPAIR moves the package to SOLO. -/
  | pairUnpair (sl : Nat) (f : Frame)
  /-- PAIR_REFUSE (R194). A received REFUSE returns a proposing package to SOLO with PAIRING_REFUSED. -/
  | pairRefuse (sl : Nat) (f : Frame)
  /-- FENCE_REQUEST_RELEASE (R202). A received REQUEST_RELEASE makes the holder stop acceptance for the stream and let running items end. -/
  | fenceRequestRelease (sl : Nat) (f : Frame)
  /-- FENCE_RELEASED (R202). A received RELEASED lets the adopter complete a planned adoption at the named JSN. -/
  | fenceReleased (sl : Nat) (f : Frame)
  /-- FENCE_ADOPTED (R185). A received ADOPTED frame reports the twin's adoption of a stream. -/
  | fenceAdopted (sl : Nat) (f : Frame)
  /-- RELEASE_TIMEOUT (R202). After 500 ledger µs the holder appends its RELEASED CONFIG record whatever items still run. -/
  | releaseTimeout
  /-- NAK_GAP_TIMEOUT (R186). A gap in received FSEQ persisting 1 ledger µs sends a NAK. -/
  | nakGapTimeout
  /-- RESEND_TIMEOUT (R186). 4 ledger µs without ACK_FSEQ advance resends from the twin's ACK_FSEQ. -/
  | resendTimeout
  /-- ACK_TIMER (R186). 0.5 ledger µs without a frame carrying ACK_FSEQ and CREDIT sends an ACK. -/
  | ackTimer
  /-- STAGED_TIMER (R188). A STAGED frame is sent on STAGED_JSN advance or every 10 ledger µs while paired. -/
  | stagedTimer
  /-- HEARTBEAT_TIMER (R190). Every 10 ledger µs a HEARTBEAT is sent on each sublink that is up. -/
  | heartbeatTimer
  /-- TIME_FRAME_TIMER (R191). Every 1 ledger ms a TIME frame is sent on each sublink that is up. -/
  | timeFrameTimer
  /-- SUBLINK_TRAINED (R189). A sublink whose lanes train and decode 1,000 codewords comes up. -/
  | sublinkTrained (sl : Nat)
  /-- SUBLINK_SILENCE_TIMEOUT (R189). 30 ledger µs without a good frame takes a sublink down. -/
  | sublinkSilenceTimeout (sl : Nat)
  /-- SUBLINK_ERROR_LIMIT (R189). More than 16 uncorrectable codewords in 1 ledger ms take a sublink down. -/
  | sublinkErrorLimit (sl n : Nat)
  /-- CODEWORD_ALIGNMENT_LOSS (R189). Loss of codeword alignment takes a sublink down. -/
  | codewordAlignmentLoss (sl : Nat)
  /-- SUBLINK_RETRAIN_TIMER (R189). Every 10 ledger ms a down sublink retrains. -/
  | sublinkRetrainTimer (sl : Nat)
  /-- FENCE_TIMEOUT (R194). 50 ledger µs in SEVERED moves the package to FENCED. -/
  | fenceTimeout
  /-- PROPOSE_TIMEOUT (R194). No PROPOSE within 10 ledger s returns the package to SOLO with PAIRING_REFUSED. -/
  | proposeTimeout
  /-- CONFINEMENT_DONE (R158). When no live record lies beyond the new area boundary the package sends PROPOSE. -/
  | confinementDone
  /-- SEAL_APPEND (R170). After 65,535 records or 100 ledger ms a SEAL record signing the chain heads is appended. -/
  | sealAppend (area : Nat)
  /-- CHECKPOINT (R175). After 16,384 CONFIG records or 10 ledger s the configuration checkpoint is written. -/
  | checkpoint (area : Nat)
  /-- PPS_EDGE (R125). A TIME_PPS_IN rising edge is classed and used for discipline or applies an armed SET_TIME. -/
  | ppsEdge (n : Nat)
  /-- PPS_MISSING (R125). No edge by the predicted edge plus W plus 1 ledger ms starts holdover. -/
  | ppsMissing
  /-- SET_TIME_LAPSE (R119). An armed SET_TIME not applied within 2 ledger s lapses. -/
  | setTimeLapse
  /-- OFFSET_ABSORBED (R120). When a backward offset has been absorbed the rate returns from 0.999 to discipline. -/
  | offsetAbsorbed
  /-- TIME_QUALITY_EVAL (R126). At least every 1 ledger ms time quality is re-evaluated against E and the thresholds. -/
  | timeQualityEval (n : Nat)
  /-- LEDGER_SECOND (R123). Ledger time reaching a whole second raises TIME_PPS_OUT and the LEDGER_SECOND source. -/
  | ledgerSecond
  /-- PPS_OUT_END (R123). 1 ledger ms after it rises, TIME_PPS_OUT falls. -/
  | ppsOutEnd
  /-- CUTOFF_INSTANT (R133). At a cut-off instant a CUTOFF record is appended and the business date changes. -/
  | cutoffInstant (idx : Nat)
  /-- KEY_ROLLOVER_INSTANT (R135). At a key-rollover instant the slot's token generation rises and a CONFIG record is appended. -/
  | keyRolloverInstant (idx : Nat)
  /-- WINDOW_OPEN (R136). A calendar window opens and releases the background units bound to it. -/
  | windowOpen (idx : Nat)
  /-- WINDOW_CLOSE (R136). A calendar window closes after its DURATION. -/
  | windowClose (idx : Nat)
  /-- DEADLINE_MISS (R139). At the first append slot at or after an item's deadline a DONE record with DEADLINE_MISSED is appended. -/
  | deadlineMiss
  /-- DIALOGUE_FIRE (R148). A due Open dialogue whose earlier answers have ended fires, appending its EXPIRY record as a work item. -/
  | dialogueFire
  /-- REMNANT_DISCARD (R144). An expired dialogue's remnant is discarded after 300 ledger s. -/
  | remnantDiscard
  /-- DIALOGUE_CONTEXT_FREE (R145). A freed dialogue context lets a waiting OPEN proceed. -/
  | dialogueContextFree
  /-- GENERATION_RETIRE (R210). A superseded generation with no Accepted or Running item retires and its code frames are freed. -/
  | generationRetire (prog gen : Nat)
  /-- TURN_TIMER (R422). A core's turn counter reaching its limit raises the core's TURN_TIMER source. -/
  | turnTimer (core : Nat)
  /-- EVENT_ENTRY (R404). At an instruction boundary a queued record above the routing level enters vector 32. -/
  | eventEntry (core : Nat)
  /-- EVC_RAISE_WRITE (R423). A machine-level write to EVC_RAISE raises a software source with its payload. -/
  | evcRaiseWrite (bench : Nat) (v : W)
  /-- EVC_PENDING_WITHDRAW (R419). A write of 1 to PENDING withdraws a pending source. -/
  | evcPendingWithdraw (bench src : Nat) (v : W)
  /-- EVC_TURN_RESTART (R422). A write of 1 to EVC_TURN.RESTART clears the turn counter. -/
  | evcTurnRestart (bench n : Nat) (v : W)
  /-- EVC_REGISTER_WRITE (R424). A machine-level write to another event-controller register is stored or refused into EVC_CTRL. -/
  | evcRegisterWrite (bench off size : Nat) (v : W)
  /-- GROUP_HOLDOFF_END (R414). End of a group's hold-off presents its pending sources. -/
  | groupHoldoffEnd (bench g : Nat)
  /-- MULDIV_COMPLETE (R341). A multiply or divide writes MLO and MHI and clears MST.MBUSY. -/
  | muldivComplete (core : Nat)
  /-- CORE_FAULT (R39). A core fault is retried and, if it repeats, the core is deconfigured and its items rerun. -/
  | coreFault (core : Nat) (repeats : Bool)
  /-- ENGINE_FAULT (R276). An engine fault retries the command on another engine and deconfigures the engine. -/
  | engineFault (bench : Nat) (unit : EngineRef)
  /-- MAC_GEN (R266). Engine command that computes a MAC under a token's key. -/
  | macGen (bench : Nat)
  /-- MAC_VERIFY (R266). Engine command that verifies a MAC under a token's key. -/
  | macVerify (bench : Nat)
  /-- PIN_TRANSLATE (R269). Engine command that re-enciphers a PIN block from one key and format to another. -/
  | pinTranslate (bench : Nat)
  /-- HASH (R266). Engine command that computes a digest. -/
  | hashCmd (bench : Nat)
  /-- KEY_EXPORT (R265). Engine command that exports an exportable key as a key block. -/
  | keyExport (bench : Nat)
  /-- RANDOM (R267). Engine command that returns bytes from the bench DRBG. -/
  | randomCmd (bench : Nat)
  /-- ATTENUATE (R264). Engine command that seals a weakened copy of a token. -/
  | attenuate (bench : Nat)
  /-- SIGN (R273). Kiln command that signs a message or digest. -/
  | signCmd (bench : Nat)
  /-- VERIFY (R274). Kiln command that verifies a signature. -/
  | verifyCmd (bench : Nat)
  /-- TAMPER (R248). TAMPER_N falling zeroizes keys and engine state and enters the device-fault state. -/
  | tamper
  /-- ENTROPY_HEALTH_FAIL (R268). A failed entropy health test logs an error and restarts the source. -/
  | entropyHealthFail (test : Nat)
  /-- RESEED_TIMEOUT (R268). 60 ledger s without a healthy reseed enters the device-fault state. -/
  | reseedTimeout
  /-- PWR_FAIL (R163). PWR_FAIL_N falling stops intake and posting and flushes staging SRAM into MRAM. -/
  | pwrFail
  /-- RAIL_UNDERVOLTAGE (R529). A rail below 94 % for 200 ns acts as a fall of PWR_FAIL_N. -/
  | railUndervoltage (rail : Nat)
  /-- POWER_ON (R490). Power rails rising reset everything not held in the journal or fuses. -/
  | powerOn
  /-- SYS_RESET (R491). SYS_RESET_N falling flushes the journal and places GDDR6 in self-refresh. -/
  | sysReset
  /-- START_UP (R493). SYS_RESET_N rising runs start-up steps 1 to 7 to READY. -/
  | startUp (b : BootFacts)
  /-- PERST (R492). PERSTn resets one port's link, configuration space and set-up registers. -/
  | perst (p : Nat)
  /-- HOT_RESET (R492). A hot reset of a link resets that port as PERSTn does. -/
  | hotReset (p : Nat)
  /-- FLR (R60). Function Level Reset returns one function's set-up registers and MSI-X state to reset. -/
  | flr (p : Nat)
  /-- SYS_REFCLK_LOSS (R520). Loss of SYS_REFCLK acts as PWR_FAIL_N and enters the device-fault state. -/
  | sysRefclkLoss
  /-- TIME_REF_CLK_LOSS (R520). Loss of TIME_REF_CLK makes E maximal so time becomes unsynchronized. -/
  | timeRefClkLoss
  /-- THERMAL_SENSOR_READ (R504). Every 1 ledger ms the junction sensors are read against TJ_WARN and the trip point. -/
  | thermalSensorRead (temps : List Int) (watts : Nat)
  /-- PARK_TIMEOUT (R500). 10 ledger ms after a park begins, items still in the core's slots return to Accepted. -/
  | parkTimeout (core : Nat)
  /-- P2_BENCH_WAKE (R501). In P2 a bench with ready work wakes one parked core. -/
  | p2BenchWake (bench core : Nat)
  /-- GDDR6_CRC_ERROR (R472). A GDDR6 CRC mismatch retries the access, retrains and may poison the line. -/
  | gddr6CrcError (ch : Nat) (write : Bool) (retries : Nat) (finalOk : Bool) (line : Nat)
  /-- MRAM_DIE_FAIL (R39). A failed MRAM die is rebuilt from P and Q parity. -/
  | mramDieFail (die : Nat)
  /-- REFRESH (R484). A GDDR6 refresh unit falls due and takes its slot. -/
  | refresh (ch : Nat) (delayed : List Nat)
  /-- WCK_RETRAIN (R484). A WCK2CK retraining unit falls due and takes its slot. -/
  | wckRetrain (ch : Nat) (ok : Bool) (delayed : List Nat)
  /-- DATA_RETRAIN (R484). A data retraining unit falls due and takes its slot. -/
  | dataRetrain (ch : Nat) (ok : Bool) (delayed : List Nat)
  /-- GDDR6_SCRUB (R484). A GDDR6 scrub unit falls due and takes its slot. -/
  | gddr6Scrub (ch corrected : Nat) (bad : List Nat) (delayed : List Nat)
  /-- SRAM_SCRUB (R484). An SRAM scrub unit falls due and takes its slot. -/
  | sramScrub (die corrected : Nat) (bad : SramBad) (delayed : List Nat)
  /-- MRAM_SCRUB (R484). An MRAM scrub unit falls due and takes its slot. -/
  | mramScrub (corrected : Nat) (bad : Option Nat) (delayed : List Nat)
  /-- WEDGING (R177). The journal drops retired records at the tail and relocates live ones to the head. -/
  | wedging (area : Nat)
  /-- TELEMETRY (R509). Every 1 ledger ms the service processor samples every telemetry counter. -/
  | telemetry
  /-- ENTROPY (R267). Every 1 ledger s each bench DRBG is reseeded from the entropy source. -/
  | entropy (bench : Nat) (seed : Option (BitVec 384)) (delayed : List Nat)
  /-- CHANNEL_MOVE (R473). The move of a retiring channel's lines into the reserve completes. -/
  | channelMove (ch : Nat) (unreadable : List Nat)
  /-- MGMT_IDENTITY (R510). Management command 0x01 returns ordering code, stepping, serial and firmware version. -/
  | mgmtIdentity
  /-- MGMT_SETUP_STATUS (R510). Management command 0x02 returns port 0's SETUP_STATUS and the power state. -/
  | mgmtSetupStatus
  /-- MGMT_THERMAL (R510). Management command 0x03 returns sensor temperatures and package power. -/
  | mgmtThermal
  /-- MGMT_ALERT_CAUSE (R510). Management command 0x04 returns the alert cause byte. -/
  | mgmtAlertCause
  /-- MGMT_NEWEST_ENTRY (R510). Management command 0x05 returns the newest error-log entry. -/
  | mgmtNewestEntry
  /-- MGMT_SELECTED_ENTRY (R510). Management command 0x06 returns the error-log entry selected by command 0x11. -/
  | mgmtSelectedEntry
  /-- MGMT_ALERT_CLEAR (R510). Management command 0x10 clears alert-cause bits under W1C. -/
  | mgmtAlertClear (v : Byte)
  /-- MGMT_SEQ_SELECT (R510). Management command 0x11 selects the SEQ that command 0x06 reads. -/
  | mgmtSeqSelect (v : W)
  /-- JTAG_BYPASS (R525). JTAG instruction BYPASS. -/
  | jtagBypass
  /-- JTAG_IDCODE (R525). JTAG instruction IDCODE returns 0x1960_0A3F. -/
  | jtagIdcode
  /-- JTAG_SAMPLE_PRELOAD (R525). JTAG instruction SAMPLE/PRELOAD. -/
  | jtagSamplePreload
  /-- JTAG_EXTEST (R525). JTAG instruction EXTEST, effective only while SYS_RESET_N is low. -/
  | jtagExtest
  /-- JTAG_CLAMP (R525). JTAG instruction CLAMP, effective only while SYS_RESET_N is low. -/
  | jtagClamp
  /-- JTAG_HIGHZ (R525). JTAG instruction HIGHZ, effective only while SYS_RESET_N is low. -/
  | jtagHighz
  /-- ILL (R327). Opcode 0x00 raises vector 1 with cause UNDEFINED. -/
  | iIll (c : Nat) (px : List Pfx)
  /-- NOP (R327). Does nothing. -/
  | iNop (c : Nat) (px : List Pfx)
  /-- BR_8 (R332). Branches by an 8-bit displacement. -/
  | iBr8 (c : Nat) (px : List Pfx) (rel : Byte)
  /-- BR_32 (R332). Branches by a 32-bit displacement. -/
  | iBr32 (c : Nat) (px : List Pfx) (rel : BitVec 32)
  /-- BCC_8 (R332). Branches by an 8-bit displacement when the condition holds. -/
  | iBcc8 (c : Nat) (px : List Pfx) (cc rel : Byte)
  /-- BCC_32 (R332). Branches by a 32-bit displacement when the condition holds. -/
  | iBcc32 (c : Nat) (px : List Pfx) (cc : Byte) (rel : BitVec 32)
  /-- CALL (R332). Writes the return address and branches relative. -/
  | iCall (c : Nat) (px : List Pfx) (d : Byte) (rel : BitVec 32)
  /-- JMP (R332). Jumps to a register address. -/
  | iJmp (c : Nat) (px : List Pfx) (a : Byte)
  /-- CALLR (R332). Writes the return address and jumps to a register address. -/
  | iCallr (c : Nat) (px : List Pfx) (d a : Byte)
  /-- LOOP (R333). Starts a hardware loop with a register count. -/
  | iLoop (c : Nat) (px : List Pfx) (a : Byte) (rel : BitVec 16)
  /-- LOOPI (R333). Starts a hardware loop with an immediate count. -/
  | iLoopi (c : Nat) (px : List Pfx) (imm : BitVec 32) (rel : BitVec 16)
  /-- LEAVE (R335). Ends the innermost active hardware loop. -/
  | iLeave (c : Nat) (px : List Pfx)
  /-- LD_B (R336). Loads a zero-extended byte. -/
  | iLdB (c : Nat) (px : List Pfx) (m : MemSpec) (late : Bool)
  /-- LD_H (R336). Loads a zero-extended halfword. -/
  | iLdH (c : Nat) (px : List Pfx) (m : MemSpec) (late : Bool)
  /-- LD_W (R336). Loads a zero-extended word. -/
  | iLdW (c : Nat) (px : List Pfx) (m : MemSpec) (late : Bool)
  /-- LD_D (R336). Loads a doubleword. -/
  | iLdD (c : Nat) (px : List Pfx) (m : MemSpec) (late : Bool)
  /-- LDS_B (R336). Loads a sign-extended byte. -/
  | iLdsB (c : Nat) (px : List Pfx) (m : MemSpec) (late : Bool)
  /-- LDS_H (R336). Loads a sign-extended halfword. -/
  | iLdsH (c : Nat) (px : List Pfx) (m : MemSpec) (late : Bool)
  /-- LDS_W (R336). Loads a sign-extended word. -/
  | iLdsW (c : Nat) (px : List Pfx) (m : MemSpec) (late : Bool)
  /-- LEA (R336). Writes the effective address without access. -/
  | iLea (c : Nat) (px : List Pfx) (m : MemSpec)
  /-- ST_B (R336). Stores a byte. -/
  | iStB (c : Nat) (px : List Pfx) (m : MemSpec)
  /-- ST_H (R336). Stores a halfword. -/
  | iStH (c : Nat) (px : List Pfx) (m : MemSpec)
  /-- ST_W (R336). Stores a word. -/
  | iStW (c : Nat) (px : List Pfx) (m : MemSpec)
  /-- ST_D (R336). Stores a doubleword. -/
  | iStD (c : Nat) (px : List Pfx) (m : MemSpec)
  /-- LD_Q (R336). Loads 16 bytes into a register pair. -/
  | iLdQ (c : Nat) (px : List Pfx) (m : MemSpec) (late : Bool)
  /-- ST_Q (R336). Stores a register pair as 16 bytes. -/
  | iStQ (c : Nat) (px : List Pfx) (m : MemSpec)
  /-- SWAP (R336). Atomically exchanges a register with memory. -/
  | iSwap (c : Nat) (px : List Pfx) (m : MemSpec)
  /-- CAS (R336). Atomically compares and swaps a doubleword. -/
  | iCas (c : Nat) (px : List Pfx) (a : Byte) (m : MemSpec)
  /-- ADD (R327). Integer addition. -/
  | iAdd (c : Nat) (px : List Pfx) (d a b : Byte)
  /-- ADC (R327). Integer addition with carry. -/
  | iAdc (c : Nat) (px : List Pfx) (d a b : Byte)
  /-- SUB (R327). Integer subtraction. -/
  | iSub (c : Nat) (px : List Pfx) (d a b : Byte)
  /-- SBB (R327). Integer subtraction with borrow. -/
  | iSbb (c : Nat) (px : List Pfx) (d a b : Byte)
  /-- AND (R327). Bitwise and. -/
  | iAnd (c : Nat) (px : List Pfx) (d a b : Byte)
  /-- OR (R327). Bitwise or. -/
  | iOr (c : Nat) (px : List Pfx) (d a b : Byte)
  /-- XOR (R327). Bitwise exclusive or. -/
  | iXor (c : Nat) (px : List Pfx) (d a b : Byte)
  /-- ANDN (R327). Bitwise and with complement. -/
  | iAndn (c : Nat) (px : List Pfx) (d a b : Byte)
  /-- MOV (R327). Register move. -/
  | iMov (c : Nat) (px : List Pfx) (d a : Byte)
  /-- NEG (R327). Two's-complement negation. -/
  | iNeg (c : Nat) (px : List Pfx) (d a : Byte)
  /-- NOT (R327). Bitwise complement. -/
  | iNot (c : Nat) (px : List Pfx) (d a : Byte)
  /-- CMP (R327). Compare by subtraction, setting flags. -/
  | iCmp (c : Nat) (px : List Pfx) (a b : Byte)
  /-- TST (R327). Test by and, setting flags. -/
  | iTst (c : Nat) (px : List Pfx) (a b : Byte)
  /-- MIN (R327). Signed minimum. -/
  | iMin (c : Nat) (px : List Pfx) (d a b : Byte)
  /-- MAX (R327). Signed maximum. -/
  | iMax (c : Nat) (px : List Pfx) (d a b : Byte)
  /-- ADDI (R327). Addition with a 32-bit immediate. -/
  | iAddi (c : Nat) (px : List Pfx) (d a : Byte) (imm : BitVec 32)
  /-- SUBI (R327). Subtraction of a 32-bit immediate. -/
  | iSubi (c : Nat) (px : List Pfx) (d a : Byte) (imm : BitVec 32)
  /-- ANDI (R327). And with a 32-bit immediate. -/
  | iAndi (c : Nat) (px : List Pfx) (d a : Byte) (imm : BitVec 32)
  /-- ORI (R327). Or with a 32-bit immediate. -/
  | iOri (c : Nat) (px : List Pfx) (d a : Byte) (imm : BitVec 32)
  /-- XORI (R327). Exclusive or with a 32-bit immediate. -/
  | iXori (c : Nat) (px : List Pfx) (d a : Byte) (imm : BitVec 32)
  /-- CMPI (R327). Compare with a 32-bit immediate. -/
  | iCmpi (c : Nat) (px : List Pfx) (a : Byte) (imm : BitVec 32)
  /-- TSTI (R327). Test with a 32-bit immediate. -/
  | iTsti (c : Nat) (px : List Pfx) (a : Byte) (imm : BitVec 32)
  /-- MOVI (R327). Move a sign-extended 32-bit immediate. -/
  | iMovi (c : Nat) (px : List Pfx) (d : Byte) (imm : BitVec 32)
  /-- MOVI_64 (R327). Move a 64-bit immediate. -/
  | iMovi64 (c : Nat) (px : List Pfx) (d : Byte) (imm : W)
  /-- CMPI_8 (R327). Compare with an 8-bit immediate. -/
  | iCmpi8 (c : Nat) (px : List Pfx) (a imm : Byte)
  /-- SHL (R329). Logical shift left by a register amount. -/
  | iShl (c : Nat) (px : List Pfx) (d a b : Byte)
  /-- SHR (R329). Logical shift right by a register amount. -/
  | iShr (c : Nat) (px : List Pfx) (d a b : Byte)
  /-- SAR (R329). Arithmetic shift right by a register amount. -/
  | iSar (c : Nat) (px : List Pfx) (d a b : Byte)
  /-- ROL (R329). Rotate left by a register amount. -/
  | iRol (c : Nat) (px : List Pfx) (d a b : Byte)
  /-- ROR (R329). Rotate right by a register amount. -/
  | iRor (c : Nat) (px : List Pfx) (d a b : Byte)
  /-- SHLI (R329). Logical shift left by an immediate. -/
  | iShli (c : Nat) (px : List Pfx) (d a imm : Byte)
  /-- SHRI (R329). Logical shift right by an immediate. -/
  | iShri (c : Nat) (px : List Pfx) (d a imm : Byte)
  /-- SARI (R329). Arithmetic shift right by an immediate. -/
  | iSari (c : Nat) (px : List Pfx) (d a imm : Byte)
  /-- ROLI (R329). Rotate left by an immediate. -/
  | iRoli (c : Nat) (px : List Pfx) (d a imm : Byte)
  /-- RORI (R329). Rotate right by an immediate. -/
  | iRori (c : Nat) (px : List Pfx) (d a imm : Byte)
  /-- EXT (R328). Extracts a bit field. -/
  | iExt (c : Nat) (px : List Pfx) (d a p l : Byte)
  /-- INS (R328). Inserts a bit field. -/
  | iIns (c : Nat) (px : List Pfx) (d a p l : Byte)
  /-- BSWAP (R327). Reverses byte order. -/
  | iBswap (c : Nat) (px : List Pfx) (d a : Byte)
  /-- CLZ (R327). Counts leading zeros. -/
  | iClz (c : Nat) (px : List Pfx) (d a : Byte)
  /-- CTZ (R327). Counts trailing zeros. -/
  | iCtz (c : Nat) (px : List Pfx) (d a : Byte)
  /-- POPC (R327). Counts one bits. -/
  | iPopc (c : Nat) (px : List Pfx) (d a : Byte)
  /-- MUL (R339). Starts an unsigned 128-bit multiply into MHI:MLO. -/
  | iMul (c : Nat) (px : List Pfx) (a b : Byte)
  /-- MULS (R339). Starts a signed 128-bit multiply into MHI:MLO. -/
  | iMuls (c : Nat) (px : List Pfx) (a b : Byte)
  /-- MFLO (R339). Reads MLO. -/
  | iMflo (c : Nat) (px : List Pfx) (d : Byte)
  /-- MFHI (R339). Reads MHI. -/
  | iMfhi (c : Nat) (px : List Pfx) (d : Byte)
  /-- DIV (R339). Starts an unsigned divide into MLO and MHI. -/
  | iDiv (c : Nat) (px : List Pfx) (a b : Byte)
  /-- DIVS (R339). Starts a signed divide into MLO and MHI. -/
  | iDivs (c : Nat) (px : List Pfx) (a b : Byte)
  /-- MTLO (R339). Writes MLO. -/
  | iMtlo (c : Nat) (px : List Pfx) (a : Byte)
  /-- MTHI (R339). Writes MHI. -/
  | iMthi (c : Nat) (px : List Pfx) (a : Byte)
  /-- BSET (R337). Sets a bit-space bit. -/
  | iBset (c : Nat) (px : List Pfx) (a : Byte)
  /-- BCLR (R337). Clears a bit-space bit. -/
  | iBclr (c : Nat) (px : List Pfx) (a : Byte)
  /-- BINV (R337). Inverts a bit-space bit. -/
  | iBinv (c : Nat) (px : List Pfx) (a : Byte)
  /-- BTST (R337). Tests a bit-space bit. -/
  | iBtst (c : Nat) (px : List Pfx) (a : Byte)
  /-- BBS (R337). Branches if a bit-space bit is set. -/
  | iBbs (c : Nat) (px : List Pfx) (a : Byte) (rel : BitVec 16)
  /-- BBC (R337). Branches if a bit-space bit is clear. -/
  | iBbc (c : Nat) (px : List Pfx) (a : Byte) (rel : BitVec 16)
  /-- BTOC (R337). Copies a bit-space bit to C. -/
  | iBtoc (c : Nat) (px : List Pfx) (a : Byte)
  /-- BFROMC (R337). Copies C to a bit-space bit. -/
  | iBfromc (c : Nat) (px : List Pfx) (a : Byte)
  /-- BFFS (R338). Finds the first set bit in field order. -/
  | iBffs (c : Nat) (px : List Pfx) (d a b : Byte)
  /-- FADD (R353). Floating-point addition. -/
  | iFadd (c : Nat) (px : List Pfx) (d a b : Byte) (late : Bool)
  /-- FSUB (R353). Floating-point subtraction. -/
  | iFsub (c : Nat) (px : List Pfx) (d a b : Byte) (late : Bool)
  /-- FMUL (R353). Floating-point multiplication. -/
  | iFmul (c : Nat) (px : List Pfx) (d a b : Byte) (late : Bool)
  /-- FDIV (R353). Floating-point division. -/
  | iFdiv (c : Nat) (px : List Pfx) (d a b : Byte) (late : Bool)
  /-- FSQRT (R353). Floating-point square root. -/
  | iFsqrt (c : Nat) (px : List Pfx) (d a : Byte) (late : Bool)
  /-- FMADD (R353). Fused multiply-add. -/
  | iFmadd (c : Nat) (px : List Pfx) (d a b e : Byte) (late : Bool)
  /-- FCMP (R354). Floating-point compare setting FL. -/
  | iFcmp (c : Nat) (px : List Pfx) (a b : Byte) (late : Bool)
  /-- FMIN (R353). Floating-point minimumNumber. -/
  | iFmin (c : Nat) (px : List Pfx) (d a b : Byte) (late : Bool)
  /-- FMAX (R353). Floating-point maximumNumber. -/
  | iFmax (c : Nat) (px : List Pfx) (d a b : Byte) (late : Bool)
  /-- FCVT (R355). Floating-point conversion by sub-operation. -/
  | iFcvt (c : Nat) (px : List Pfx) (sub d a : Byte) (late : Bool)
  /-- FMOV (R356). Bit move between F and G registers. -/
  | iFmov (c : Nat) (px : List Pfx) (sub d a : Byte)
  /-- FLD (R353). Loads a floating-point register. -/
  | iFld (c : Nat) (px : List Pfx) (m : MemSpec) (late : Bool)
  /-- FST (R353). Stores a floating-point register. -/
  | iFst (c : Nat) (px : List Pfx) (m : MemSpec)
  /-- FSGN (R356). Sign injection by sub-operation. -/
  | iFsgn (c : Nat) (px : List Pfx) (sub d a b : Byte)
  /-- DADD (R366). Decimal addition. -/
  | iDadd (c : Nat) (px : List Pfx) (d a b : Byte) (late : Bool)
  /-- DSUB (R366). Decimal subtraction. -/
  | iDsub (c : Nat) (px : List Pfx) (d a b : Byte) (late : Bool)
  /-- DMUL (R366). Decimal multiplication. -/
  | iDmul (c : Nat) (px : List Pfx) (d a b : Byte) (late : Bool)
  /-- DDIV (R367). Decimal division with quotient and remainder. -/
  | iDdiv (c : Nat) (px : List Pfx) (d a b : Byte) (late : Bool)
  /-- DCMP (R369). Decimal compare. -/
  | iDcmp (c : Nat) (px : List Pfx) (a b : Byte) (late : Bool)
  /-- DNRM (R366). Checks a decimal register and normalises its sign. -/
  | iDnrm (c : Nat) (px : List Pfx) (d a : Byte) (late : Bool)
  /-- DSCL (R368). Decimal scale by a power of ten with rounding. -/
  | iDscl (c : Nat) (px : List Pfx) (d a sc m : Byte) (late : Bool)
  /-- DLD (R370). Loads a packed decimal field. -/
  | iDld (c : Nat) (px : List Pfx) (m : MemSpec) (late : Bool)
  /-- DST (R370). Stores a packed decimal field. -/
  | iDst (c : Nat) (px : List Pfx) (m : MemSpec)
  /-- ZTOD (R371). Converts a zoned field to a decimal register. -/
  | iZtod (c : Nat) (px : List Pfx) (m : MemSpec) (late : Bool)
  /-- DTOZ (R372). Writes a decimal register as a zoned field. -/
  | iDtoz (c : Nat) (px : List Pfx) (m : MemSpec)
  /-- GTOD (R373). Converts a binary integer to decimal. -/
  | iGtod (c : Nat) (px : List Pfx) (d a : Byte) (late : Bool)
  /-- DTOG (R373). Converts decimal to a binary integer. -/
  | iDtog (c : Nat) (px : List Pfx) (d a : Byte) (late : Bool)
  /-- DADJ (R374). Decimal adjust of one byte after binary addition. -/
  | iDadj (c : Nat) (px : List Pfx) (d a : Byte)
  /-- LUHN (R375). Computes and checks a Luhn check digit. -/
  | iLuhn (c : Nat) (px : List Pfx) (d a b : Byte)
  /-- DMOV (R366). Copies a decimal register bit for bit. -/
  | iDmov (c : Nat) (px : List Pfx) (d a : Byte)
  /-- SMOV (R380). Resumable long string move. -/
  | iSmov (c : Nat) (px : List Pfx) (d a b : Byte) (intr : Option Nat)
  /-- SCMP (R380). Resumable long string compare. -/
  | iScmp (c : Nat) (px : List Pfx) (d a b : Byte) (intr : Option Nat)
  /-- SXLT (R380). Resumable long string translate. -/
  | iSxlt (c : Nat) (px : List Pfx) (d a b : Byte) (intr : Option Nat)
  /-- SSCN (R380). Resumable scan for a non-zero function byte. -/
  | iSscn (c : Nat) (px : List Pfx) (d a b e : Byte) (intr : Option Nat)
  /-- SFND (R380). Resumable search for a byte. -/
  | iSfnd (c : Nat) (px : List Pfx) (d a b : Byte) (intr : Option Nat)
  /-- SEDT (R386). Resumable edit of a decimal value under a pattern. -/
  | iSedt (c : Nat) (px : List Pfx) (d a b : Byte) (intr : Option Nat)
  /-- CUSTOMER_OPCODE (R452). A customer opcode runs its bound microcode routine. -/
  | iCustomer (c : Nat) (px : List Pfx) (op : Nat) (ops : CustOps) (intr : Option Nat)
  /-- ISYNC (R314). Makes other agents' code stores visible to fetch. -/
  | iIsync (c : Nat) (px : List Pfx)
  /-- FENCE (R310). Orders memory accesses by type. -/
  | iFence (c : Nat) (px : List Pfx) (ty : Byte)
  /-- FBAR (R352). Waits for floating-point work and delivers a pending trap. -/
  | iFbar (c : Nat) (px : List Pfx)
  /-- RETT (R401). Restores a context from the TSB, or chains to vector 32. -/
  | iRett (c : Nat) (px : List Pfx)
  /-- TRAP (R393). Enters vector 16 to 31. -/
  | iTrap (c : Nat) (px : List Pfx) (n : Byte)
  /-- KSET (R298). Writes selected fields of a frame's key-array word. -/
  | iKset (c : Nat) (px : List Pfx) (a b : Byte)
  /-- KGET (R298). Reads a frame's key-array word. -/
  | iKget (c : Nat) (px : List Pfx) (d a : Byte)
  /-- MFSR (R288). Reads a system register. -/
  | iMfsr (c : Nat) (px : List Pfx) (d n : Byte)
  /-- MTSR (R288). Writes a system register. -/
  | iMtsr (c : Nat) (px : List Pfx) (a n : Byte)
  /-- TAKE (R219). Takes the selected ready item into an item slot. -/
  | iTake (c : Nat) (px : List Pfx)
  /-- POST (R226). Appends the item's DONE record, ending it. -/
  | iPost (c : Nat) (px : List Pfx)
  /-- EMIT (R227). Copies an outbound message into granules and appends its EGRESS record. -/
  | iEmit (c : Nat) (px : List Pfx) (win : Nat)
  /-- OPEN (R229). Creates a Pending dialogue and appends its DIALOGUE_OPEN record. -/
  | iOpen (c : Nat) (px : List Pfx)
  /-- MATCH (R230). Looks up a dialogue by key for the item's channel. -/
  | iMatch (c : Nat) (px : List Pfx)
  /-- CLOSE (R231). Closes a claimed or own pending dialogue with a DIALOGUE_CLOSE record. -/
  | iClose (c : Nat) (px : List Pfx)
  /-- SUBMIT (R232). Queues an engine command block under a tag. -/
  | iSubmit (c : Nat) (px : List Pfx)
  /-- EWAIT (R233). Waits for tag, slot or ready-queue conditions or a timeout. -/
  | iEwait (c : Nat) (px : List Pfx)
  /-- YIELD (R220). Enters vector 16 to end, wait or reschedule the running slot. -/
  | iYield (c : Nat) (px : List Pfx)
  /-- PWR_FAIL_N_RISE (R529). PWR_FAIL_N rising releases a start-up that holds at step 1 while it is low. -/
  | pwrFailNRise
  /-- PERST_DEASSERT (R516). PERSTp_N rising samples PEp_WIDTH and starts the port's training. -/
  | perstDeassert (p : Nat) (x8 : Bool)
  /-- PCIE_CONFIG_WRITE (R197). A host write to configuration space, such as Bus Master Enable or Enable Relaxed Ordering, changes what the device may master and how. -/
  | pcieConfigWrite (p : Nat) (w : CfgWrite)
  /-- MSIX_TABLE_WRITE (R53). A host write to the MSI-X table masks or unmasks a vector, and unmasking with the pending bit set sends the message. -/
  | msixTableWrite (p vec : Nat) (w : MsixWrite)
  /-- STAGING_FLUSH (R161). Staging SRAM is flushed to an area's log in append order, which frees staging for appends that wait on a full staging area. -/
  | stagingFlush (area : Nat)
  /-- JOURNAL_FLUSH_END (R530). The power-fail flush of staging into MRAM ends, and a SYS_RESET_N that rose during it may then restart the device. -/
  | journalFlushEnd
  /-- CATCH_UP_SENT (R194). This side finishes sending its live logs and checkpoints and sends CATCHUP_DONE, reaching PAIRED if the twin's CATCHUP_DONE has already arrived. -/
  | catchUpSent
  /-- POWER_TRANSITION_END (R500). A power-state transition completes, signalling vector 518 and raising THERMAL, and the P3 exit applies the instants passed in P3. -/
  | powerTransitionEnd
  /-- FIRMWARE_SWITCH_END (R497). The switch to staged firmware ends, fetching and posting resume, the rollback counter is raised and the completion is posted. -/
  | firmwareSwitchEnd
  /-- CORE_CLOCK_CHANGE_END (R502). A CORE_CLOCK change completes and the cores issue again at the new frequency. -/
  | coreClockChangeEnd
  /-- EWAIT_TIMEOUT (R233). An EWAIT whose G2 ledger ns pass with no condition met returns 0 in G0. -/
  | ewaitTimeout (core : Nat)
  /-- WAIT_TIMEOUT (R450). A privileged-window microword wait that reaches WTIME × 16 core cycles raises vector 13 with cause WAIT_TIMEOUT. -/
  | waitTimeout (core : Nat)
  /-- FLOAT_COMPLETE (R351). An outstanding floating-point instruction completes out of order, writing its result and flags or making a trap pending. -/
  | floatComplete (core : Nat)
  /-- LOAD_COMPLETE (R400). An outstanding load completes out of order, writing its register or raising a key violation or machine check. -/
  | loadComplete (core : Nat)
  /-- DECIMAL_COMPLETE (R366). An outstanding decimal instruction completes out of order after its residue check, writing its result and FL or retrying. -/
  | decimalComplete (core mismatches : Nat)
  /-- TIME_REF_CLK_RETURN (R520). The clock monitor finds TIME_REF_CLK present again, so that a later SET_TIME or twin transfer can restore time quality. -/
  | timeRefClkReturn
  /-- GDDR6_TEMPERATURE_DRIFT (R487). A channel's device temperature moving by more than 3 °C since its last retraining makes WCK_RETRAIN or DATA_RETRAIN due at once. -/
  | gddr6TemperatureDrift (ch : Nat) (temp : Int)  deriving DecidableEq, Repr

end Sys2Proof
end

