-- ==== Sys2Proof/Config.lean ====
section
/-!
DEFINITION. What an implementation fixes and the manual does not give: free values, and functions of algorithms that are
defined outside the manual. An `opaque` constant has no body that a proof could see.
-/

namespace Sys2Proof.Config

/-- Free values (log 4): the value of a point that the manual leaves open, numbered by `State.free`. -/
opaque freeWord : Nat → BitVec 64

/-- The address of firmware's own vector table (R289 VTB, R409). The manual's example in 11_exceptions_and_events uses
this address. DESIGN CHOICE (log 3). -/
def firmwareTable : BitVec 64 := 0x002000002000

/-- Firmware's escalation entry point (R408), which the manual does not give (log 4). -/
opaque escalationEntry : BitVec 48

/-- Words of the control store that no loaded image gives: Birditon's region and what lies past the image (R426, log 14). -/
opaque storeWord : Nat → BitVec 144

/-- SHA-256 (R169, R205, R242). Its definition stands outside the manual (log 11). -/
opaque sha256 : List (BitVec 8) → BitVec 256

/-- A signature of a package's audit key (R171): algorithm, serial of the signer, message; the signature as the number its
bytes spell, first byte most significant (log 11). -/
opaque auditSign : Nat → BitVec 48 → List (BitVec 8) → Nat

/-- The certificates of a package serial in the order of the CERTIFICATES section, each in DER (R280, R537, log 11). -/
opaque certificates : BitVec 48 → List (List (BitVec 8))
/-- DETAIL of an error-log entry (R506): its CODE and the values it reports; the layout is Birditon's (log 11). -/
opaque errorDetail : Nat → List (BitVec 64) → BitVec 256
/-- What a firmware version's ERROR_CODES section says of one CODE (R537): UNIT, the highest SEVERITY, CODE, and the text that
names the event and gives the layout of DETAIL. -/
structure ErrorCode where
  unit : Nat
  severity : Nat
  code : Nat
  text : List (BitVec 8)
  deriving DecidableEq, Repr, Inhabited

/-- The CODEs that a firmware version can write into the error log (R537, log 11). -/
opaque errorCodes : Nat → List ErrorCode

/-- The layout of a management block whose fields the manual names without their places (R510, log 11): command and field
values. -/
opaque mgmtBlock : Nat → List (BitVec 64) → List (BitVec 8)

/-- What a configuration checkpoint holds (R175): the CONFIG records it covers as stored, the JSN it covers, the archive
cursor and the chain heads. -/
structure Checkpoint where
  records : List (List (BitVec 8))
  upTo : Nat
  cursor : Nat
  heads : List (BitVec 256)
  deriving DecidableEq, Repr, Inhabited

/-- A checkpoint as bytes of an area, and read back; the manual gives no layout (R157, R175, log 11). -/
opaque checkpointBytes : Checkpoint → List (BitVec 8)
/-- A checkpoint read from its bytes (R175, log 11). -/
opaque checkpointOf : List (BitVec 8) → Option Checkpoint

/-! ### Algorithms of the vault and the engines, whose definitions stand outside the manual (log 11) -/

/-- What the header of an X9.143 key block says (R253): version, usage, algorithm, mode, exportability and version number
as their ASCII codes, the key's length in bits, an RSA key's public exponent, and the optional blocks, each with its
identifier as two ASCII codes and its data. -/
structure KeyHeader where
  version : Nat
  usage : Nat
  alg : Nat
  mode : Nat
  exp : Nat
  ver : Nat
  bits : Nat
  pubExp : Nat
  blocks : List (Nat × List (BitVec 8))
  deriving DecidableEq, Repr, Inhabited

/-- The header of a key block; `none` for a malformed block (R253, R254). -/
opaque keyBlockHeader : List (BitVec 8) → Option KeyHeader
/-- A key block's authenticator verifies under a protection key (R254): protection key, block. -/
opaque keyBlockOk : List (BitVec 8) → List (BitVec 8) → Bool
/-- Byte `n` of the key in a key block under a protection key (R254). -/
opaque keyBlockKeyByte : List (BitVec 8) → List (BitVec 8) → Nat → BitVec 8
/-- A key block made by KEY_EXPORT (R265): protection key, header, key, fill. -/
opaque keyBlock : List (BitVec 8) → KeyHeader → List (BitVec 8) → BitVec 384 → List (BitVec 8)
/-- The public key of a key block passes the validation of FIPS 186-5 or FIPS 204 (R254): its algorithm, size and bytes. -/
opaque blockKeyValid : Nat → Nat → List (BitVec 8) → Bool
/-- Byte `n` of a key wrapped with AES key wrap (R244): key-encryption key, key. -/
opaque keyWrapByte : BitVec 256 → List (BitVec 8) → Nat → BitVec 8
/-- The protection key agreed with an ephemeral public key (R252): serial, public key, TARGET. -/
opaque agreedKey : BitVec 48 → List (BitVec 8) → Nat → List (BitVec 8)
/-- A public key passes the validation of FIPS 186-5 or FIPS 204 (R254, R458): SIG_ALG and key. -/
opaque publicKeyValid : Nat → List (BitVec 8) → Bool
/-- A signature of an image verifies (R458): SIG_ALG, public key, message, signature. -/
opaque imageVerifies : Nat → List (BitVec 8) → List (BitVec 8) → List (BitVec 8) → Bool
/-- A firmware image's version and rollback floor (R494, R496). -/
opaque firmwareVersion : List (BitVec 8) → Nat × Nat
/-- A firmware image's signature verifies (R494, R496). -/
opaque firmwareVerifies : List (BitVec 8) → Bool
/-- SHA-384 (R459). -/
opaque sha384 : List (BitVec 8) → BitVec 384
/-- AES-CMAC of SP 800-38B (R249): key, message. -/
opaque aesCmac : List (BitVec 8) → List (BitVec 8) → BitVec 128
/-- Byte `n` of the full MAC of MAC_GEN (R266): ALG, PAD2, key, message. -/
opaque macByte : Nat → Bool → List (BitVec 8) → List (BitVec 8) → Nat → BitVec 8
/-- Byte `n` of the digest of HASH (R266): ALG, message. -/
opaque digestByte : Nat → List (BitVec 8) → Nat → BitVec 8
/-- A DUKPT transaction key (R272): command opcode, BDK, KSN. -/
opaque dukptKey : Nat → List (BitVec 8) → List (BitVec 8) → List (BitVec 8)
/-- The PIN field of 16 digits that a PIN block holds (R269, R271): format, key, PAN digits, block. -/
opaque pinField : Nat → List (BitVec 8) → List (BitVec 8) → List (BitVec 8) → BitVec 64
/-- Byte `n` of a PIN block enciphered (R269): format, key, PAN digits, PIN field, random fill. -/
opaque pinBlockByte : Nat → List (BitVec 8) → List (BitVec 8) → BitVec 64 → BitVec 384 → Nat → BitVec 8
/-- Byte `n` of a signature (R273): ALG, FLAGS, key, input, DRBG state. -/
opaque signByte : Nat → Nat → List (BitVec 8) → List (BitVec 8) → BitVec 384 → Nat → BitVec 8
/-- Whether a signature verifies (R274): ALG, FLAGS, key, input, signature. -/
opaque verify : Nat → Nat → List (BitVec 8) → List (BitVec 8) → List (BitVec 8) → Bool
/-- Byte `n` of those that a DRBG in a state gives (R267). -/
opaque drbgByte : BitVec 384 → Nat → BitVec 8
/-- The state of a DRBG instantiated (R267): entropy, and the personalisation string, which is the package serial and the
bench number. -/
opaque drbgInit : BitVec 384 → BitVec 48 → Nat → BitVec 384
/-- The DRBG's state after a request, and after a reseed (R267). -/
opaque drbgNext : BitVec 384 → BitVec 384
/-- The DRBG's state after a reseed from an entropy value (R267). -/
opaque drbgReseed : BitVec 384 → BitVec 384 → BitVec 384

end Sys2Proof.Config
end

