-- ==== Sys2Proof/Machine/State.lean ====
section
/-!
DEFINITION. The state of the machine: everything the manual gives the package, as plain data, and the state right after
power-on. Values the manual gives for reset are taken from it; the others carry the number of their log entry in
notes/assumptions.
-/

namespace Sys2Proof.Machine

/-- Why the machine stops with a fault. -/
inductive Fault where
  /-- A command names a core, bench, port, channel, ring, sublink or other unit that the part does not have. Raised by the
  check at the head of each meaning. Safe: such a command is none of the part's steps. -/
  | noSuchUnit
  deriving DecidableEq, Repr

/-- Why the machine refuses a command. -/
inductive Refusal where
  /-- The command has no meaning in the model. Raised only by an arm of `exec`. Safe. -/
  | notModelled (mnemonic : String)
  /-- A customer opcode whose logic is fixed in fuses for one customer: the manual does not say what it does (R453). Raised
  by `execICustomer`. Safe. -/
  | fusedOpcode
  deriving DecidableEq, Repr

/-! ### The ledger core (R286 to R291) -/

/-- LS, LE, LC and LF of one loop level (R286, R289). -/
structure LoopLevel where
  ls : W := 0
  le : W := 0
  lc : BitVec 32 := 0
  lf : BitVec 32 := 0
  deriving DecidableEq, Repr

/-- BASE, LENGTH, INDEX, STEP and MODE of one address unit (R286, R303). -/
structure AddrUnit where
  base : W := 0
  length : W := 0
  index : W := 0
  step : BitVec 32 := 0
  mode : BitVec 32 := 0
  deriving DecidableEq, Repr

/-- Whether a core runs (R410, R420). -/
inductive CoreRun where
  | active
  | parked
  | checkStopped
  | deconfigured
  deriving DecidableEq, Repr

/-- The states of an item slot (R218). -/
inductive SlotState where
  | free
  | running
  | waiting
  | ready
  | ended
  deriving DecidableEq, Repr

/-- An item slot of a core (R217 to R220): its state, the item it holds by stream and ITEM_JSN, the engine tags
outstanding and those completed, the tags that read a poisoned line with the address each met (R393, R474), the wait mask
of YIELD WAIT, and the turn limit TAKE recorded (R422). -/
structure Slot where
  st : SlotState := .free
  item : Option (Nat × Nat) := none
  tags : BitVec 16 := 0
  doneTags : BitVec 16 := 0
  poisonTags : BitVec 16 := 0
  poisonAt : Tbl Nat := []
  wait : BitVec 16 := 0
  turnLimit : Nat := 0
  deriving DecidableEq, Repr

/-- A multiply or divide that has not yet written MLO and MHI (R341): the results, V for DIVS, the cycles MCYC will
show and the array that serves it. -/
structure MulOut where
  lo : W
  hi : W
  v : Option Bool
  cyc : Nat
  borrowed : Bool
  /-- A MUL or MULS, whose multiplier MST.MSRC names. -/
  mul : Bool := true
  deriving DecidableEq, Repr

/-- Where a floating-point instruction writes its result. -/
inductive FDest where
  | f (n : Nat)
  | g (n : Nat)
  | flags
  deriving DecidableEq, Repr

/-- A floating-point instruction outstanding (R351): its address, its result and destination, the FCSR flags it sets
and the trap cause it ends in, if any. -/
structure FloatOut where
  at_ : BitVec 48
  dest : FDest
  value : W
  flags : BitVec 5
  trap : Option Nat
  deriving DecidableEq, Repr

/-- The load instructions that may complete out of order (R282, R336, R353). -/
inductive LoadOp where
  | b | h | w | d | sb | sh | sw | q | fld
  deriving DecidableEq, Repr

/-- A load issued and not completed (R400). -/
structure LoadOut where
  op : LoadOp
  px : List Pfx
  m : MemSpec
  deriving DecidableEq, Repr

/-- The decimal instructions that may complete out of order (R366). -/
inductive DecOp where
  | add | sub | mul | div | cmp | nrm | scl | ld | ztod | gtod | dtog
  deriving DecidableEq, Repr

/-- A decimal instruction issued and not completed (R282, R376). -/
structure DecOut where
  op : DecOp
  px : List Pfx
  d : Byte
  a : Byte
  b : Byte
  e : Byte
  m : MemSpec
  deriving DecidableEq, Repr

/-- An occupied slot of a core's event queue as the controller sees it (R417): slot, level, and what R421 needs to
return the record to its source. -/
structure QueueSlot where
  slot : Nat
  level : Nat
  bench : Nat
  src : Nat
  kind : Nat
  time : Nat
  payload : Nat
  deriving DecidableEq, Repr

/-- The state of a customer microcode routine (R437, R441): the word it runs, its temporaries and micro-flags, the core
cycles since its last commit, and what it has staged. A core holds it only while a word waits (R449, R450), with the
word's WTIME. -/
structure UState where
  op : Nat
  pc : BitVec 48
  addr : Nat
  t : Vector W 8 := Vector.replicate 8 0
  mar0 : W := 0
  mar1 : W := 0
  mdr : W := 0
  /-- Core cycle at which MDR arrives (R438). -/
  mdrAt : Nat := 0
  ucnt : BitVec 16 := 0
  uz : Bool := false
  uc : Bool := false
  un : Bool := false
  uv : Bool := false
  stack : List Nat := []
  /-- Staged G registers, newest first; staged SSRP; staged memory writes, oldest first. -/
  regs : List (Nat × W) := []
  ssrp : Option (BitVec 32) := none
  writes : List (W × Bytes) := []
  cyc : Nat := 0
  /-- FL and the effective address as the instruction began with them (R433). -/
  fl : W := 0
  ea : W := 0
  au : Option Nat := none
  wtime : Nat := 0
  deriving DecidableEq, Repr

/-- What a work instruction in progress waits for, beside granules and contexts (R406): space in an engine queue, the slot's
engine commands, or an append that is held. -/
inductive CoreWait where
  | nothing
  | queue
  | engines
  | append
  deriving DecidableEq, Repr

/-- A ledger core (R286, R289). Registers with no reset value of the manual are zero (log 3). -/
structure Core where
  g : Vector W 32 := Vector.replicate 32 0
  dr : Vector (BitVec 128) 16 := Vector.replicate 16 0
  f : Vector W 16 := Vector.replicate 16 0
  pc : BitVec 48 := 0
  fl : W := 0
  fcsr : BitVec 32 := 0
  mlo : W := 0
  mhi : W := 0
  mst : W := 0
  ssr : W := 0
  fpia : W := 0
  baseb : W := 0
  /-- Reset: LEVEL 2, SAVE 0xF (R289). -/
  mode : W := 0xF002
  /-- Reset: firmware's value (R289), the TSB of the supervisor area that entry never uses (R396, log 3). -/
  tsbp : W := 0x2000004000
  vtb : W := Config.firmwareTable
  loops : Vector LoopLevel 4 := Vector.replicate 4 {}
  aus : Vector AddrUnit 4 := Vector.replicate 4 {}
  /-- COREID.POSITION, absent while the core keeps its own position (log 5). -/
  position : Option Nat := none
  lastLt : Nat := 0
  run : CoreRun := .active
  esc : Bool := false
  muldiv : Option MulOut := none
  floats : List FloatOut := []
  trap : Option (Nat × BitVec 48) := none
  load : Option LoadOut := none
  dec : Option DecOut := none
  slots : Vector Slot 8 := Vector.replicate 8 {}
  /-- Core-local SRAM and the flag plane by offset of the alias (R300). -/
  loc : List Host.Cell := []
  uwait : Option UState := none
  /-- Ledger time at which an EWAIT in progress began (R233). -/
  ewaitFrom : Option Nat := none
  /-- Event-controller state of the core (R417 to R422, R424). -/
  threshold : Nat := 0
  tail : Nat := 0
  queue : List QueueSlot := []
  overflow : Nat := 0
  deferred : Nat := 0
  turnRaised : Bool := false
  /-- Counters of telemetry group 0x05 (R509). -/
  retired : Nat := 0
  residue : Nat := 0
  retries : Nat := 0
  borrowedMuls : Nat := 0
  /-- Atomic routines over 160 core cycles, and units over 256 (R448). -/
  atomicLong : Nat := 0
  unitLong : Nat := 0
  wait : CoreWait := .nothing
  /-- CYCLES: the instructions retired at the last reset, and the core cycles beyond those retired since (R286, log 10). -/
  cycFrom : Nat := 0
  cycMore : Nat := 0
  /-- Granules granted to the EMIT that waits (R98, R227). -/
  grant : Option Nat := none
  /-- Ledger time at which a park began and items were still in slots (R500). -/
  parkFrom : Option Nat := none
  deriving DecidableEq, Repr

/-! ### Event controller (R412 to R425) -/

/-- A source of a bench (R412, R413, R424). -/
structure EvSrc where
  level : Nat
  affinity : BitVec 24
  pending : Bool := false
  blocked : Bool := false
  raises : Nat := 0
  last : Nat := 23
  time : Nat := 0
  payload : Nat := 0
  deriving DecidableEq, Repr

/-- A group's hold-off (R414). -/
structure EvGroup where
  holdoff : Nat := 0
  until_ : Nat := 0
  deriving DecidableEq, Repr

/-- The slice of one bench (R424). `srcs` lists the sources that differ from their reset values. -/
structure Evc where
  srcs : Tbl EvSrc := []
  groups : Tbl EvGroup := []
  refused : Bool := false
  reason : Nat := 0
  offset : Nat := 0
  deriving DecidableEq, Repr

/-! ### Engines (R262 to R281) -/

/-- A queued engine command (R232, R263, R275): who submitted it, where its block is, and the submitting item's channel and
DEADLINE. -/
structure EngCmd where
  core : Nat
  slot : Nat
  tag : Nat
  block : Nat
  channel : Nat
  deadline : Nat
  /-- The block's bytes as SUBMIT read them (R262). -/
  blk : W512 := 0
  retried : Bool := false
  deriving DecidableEq, Repr

/-- The SECDED code of a control-store word finds an error in it (R428): of one bit, or one that it can not correct, which `left`
further reads find again although the word is rewritten after each, and which `failed` reads in succession have found. -/
inductive WordErr where
  | single
  | double (left failed : Nat)
  deriving DecidableEq, Repr

/-- One bench: engine queues, key and token caches (R277), DRBG (R267), and counters (R509). -/
structure Bench where
  cipherQ : List EngCmd := []
  sigQ : List EngCmd := []
  keyCache : List (Nat × Nat) := []
  /-- Tokens whose seals are verified (R277). -/
  tokCache : List Bytes := []
  drbg : BitVec 384 := 0
  /-- The bench's key-encryption key, held in the hub and in the bench's unwrap unit (R244). -/
  kek : BitVec 256 := 0
  reseedDue : Nat := 0
  lent : Bool := false
  evc : Evc := {}
  /-- Background charge in ledger ns for activities 1 to 10 (R486). -/
  charge : Tbl Nat := []
  taken : Nat := 0
  programFaults : Nat := 0
  tableFullWaits : Nat := 0
  corrected : Nat := 0
  /-- Words of the bench's control store in which the next read finds an ECC error (R428). -/
  wordErr : Tbl WordErr := []
  deriving DecidableEq, Repr

/-! ### Host ports (02_host_attachment) -/

/-- An admin completion that is not yet written (R64, R66). -/
structure AdminDone where
  cmdId : Nat
  status : Nat
  configJsn : Nat
  result : W
  deriving DecidableEq, Repr

/-- What takes effect when a held CONFIG record becomes durable is read from the record itself; this is the command that
waits for it (R65). -/
structure AdminHeld where
  cmd : Instr
  entry : W512
  stream : Nat
  jsn : Nat
  deriving DecidableEq, Repr

/-- One host port (R42 to R60). -/
structure Port where
  sqBase : W := 0
  cqBase : W := 0
  ringSize : W := 0
  sqTailAddr : W := 0
  cqHeadAddr : W := 0
  doorbellBase : W := 0
  armBase : W := 0
  committed : Bool := false
  refused : Bool := false
  reason : Nat := 0
  refOffset : Nat := 0
  refuseCount : Nat := 0
  linkUp : Bool := false
  /-- What the link trained to when it came up (R42). -/
  trained : LinkTrain := {}
  inReset : Bool := true
  dstate : DState := .d0
  busMaster : Bool := false
  relaxed : Bool := true
  mps : BitVec 3 := 0
  mrrs : BitVec 3 := 2
  tag10 : Bool := false
  msixEnable : Bool := false
  msixMask : Bool := false
  unmasked : List Nat := []
  pbits : List Nat := []
  /-- Address and data of the MSI-X table entries that the host has written (R53, R54). -/
  msixMsg : Tbl (W × BitVec 32) := []
  /-- ASPM L1 enabled, and the base address in BAR0 (R42, R43). -/
  aspmL1 : Bool := false
  bar0 : W := 0
  /-- AER: uncorrectable errors seen, masked and fatal (R42, R46, log 98). -/
  aerStatus : BitVec 32 := 0
  aerMask : BitVec 32 := 0
  aerSeverity : BitVec 32 := 0x00462030
  widthX8 : Bool := false
  asqHead : BitVec 32 := 0
  asqTail : BitVec 32 := 0
  acqTail : BitVec 32 := 0
  acqHead : BitVec 32 := 0
  acur : Option W512 := none
  aheld : Option AdminHeld := none
  adone : Option AdminDone := none
  deriving DecidableEq, Repr

/-- A doorbell group (R79, R85, R86). -/
structure Group where
  live : Bool := false
  armed : Bool := false
  armCount : BitVec 32 := 0
  lastChange : Nat := 0
  deriving DecidableEq, Repr

/-! ### Channels, rings and granules (03_channels_and_rings) -/

/-- A buffer that a BUF_OUT gave (R92). -/
structure Buffer where
  addr : W
  len : Nat
  tag : W
  idx : BitVec 32
  deriving DecidableEq, Repr

/-- A MSG_IN between its fetch and its acceptance (R91, R97): descriptor, index, granules charged and whether it waits
for shared granules. -/
structure CurMsg where
  desc : W512
  idx : BitVec 32
  granules : Nat
  granted : Bool
  deriving DecidableEq, Repr

/-- An outbound message whose record is durable and whose item is done, waiting for a buffer or to be posted (R100). -/
structure OutMsg where
  stream : Nat
  item : Nat
  jsn : Nat
  len : Nat
  src : Nat
  deriving DecidableEq, Repr

/-- A CTRL whose MARKER is still to be posted (R93): its tag, index and operation, and the JSN of its CONFIG record. -/
structure Mark where
  tag : W
  idx : BitVec 32
  op : Nat := 1
  jsn : Nat := 0
  deriving DecidableEq, Repr

/-- An open channel (R77 to R101). -/
structure Channel where
  sqAddr : W := 0
  consumedAddr : W := 0
  sqLog2 : Nat := 0
  orderMode : Nat := 0
  cq : Nat := 0
  program : Nat := 0
  poolMin : Nat := 0
  poolMax : Nat := 0
  notice : Nat := 0
  stream : Nat := 0
  stopped : Bool := false
  doorbell : BitVec 32 := 0
  ranged : Bool := false
  consumed : BitVec 32 := 0
  /-- The consumed-index word is still to be written (R94). -/
  late : Bool := false
  cur : Option CurMsg := none
  bufs : List Buffer := []
  outq : List OutMsg := []
  marks : List Mark := []
  charged : Nat := 0
  misses : Nat := 0
  faults : Nat := 0
  accepted : Nat := 0
  rejects : Tbl Nat := []
  doneOk : Nat := 0
  outPosted : Nat := 0
  outSpace : Nat := 0
  lastAccept : Nat := 0
  lastDone : Nat := 0
  /-- Deadline misses as telemetry counts them, on from one opening to the next (R509). -/
  missTotal : Nat := 0
  deriving DecidableEq, Repr

/-- An entry of a completion ring before it is written (R102, R103): its fields, with bytes 16 to 31 as one number, the
item it reports, and the outbound body that is written before it. An OUT_READY of a message with no body to write yet
takes a buffer when it is posted (R109). -/
structure CEntry where
  kind : Nat
  status : Nat
  channel : Nat
  jsn : Nat
  body : BitVec 128
  /-- Item whose delivery this entry concludes, by stream and ITEM_JSN. -/
  item : Option (Nat × Nat) := none
  /-- The outbound body to write first, and the buffer it goes into (R26, R104). -/
  write : Option (Bytes × Buffer) := none
  /-- The EGRESS record it reports, 0 for none: stream and JSN (R26). -/
  egress : Nat × Nat := (0, 0)
  deriving DecidableEq, Repr

/-- A completion ring (R74, R102 to R111). -/
structure Ring where
  addr : W := 0
  headAddr : W := 0
  log2 : Nat := 0
  port : Nat := 0
  irq : Bool := false
  holdoff : Nat := 0
  count : Nat := 0
  stream : Nat := 0
  posted : BitVec 32 := 0
  head : BitVec 32 := 0
  entries : List CEntry := []
  queue : List CEntry := []
  replay : List CEntry := []
  unsig : Nat := 0
  firstUnsig : Nat := 0
  recovering : Option Nat := none
  /-- How many entries at the front of `queue` an adoption found in the records (R109, R201). -/
  fromLog : Nat := 0
  deriving DecidableEq, Repr

/-- A pool window in use (R478 to R480). -/
structure Window where
  granules : Nat
  ch : Nat
  /-- How many of the granules lie in the slice of each bench: the granule map (R478, R479). -/
  slices : List Nat
  deriving DecidableEq, Repr

/-! ### Time (04_ledger_time_and_deadlines) -/

/-- Where ledger time comes from (R117). -/
inductive TimeSource where
  | pps
  | twin
  deriving DecidableEq, Repr

/-- The time unit (R113 to R127, R538). `back` is the unabsorbed backward offset in 10^-3 ns; `lastOut` the last
outlier and how many outliers in a row have stood one second apart; `await` says that a SET_TIME TWIN awaits its first
transfer; instants of edges are taken without the unabsorbed offset. -/
structure TimeUnit where
  ns : Nat := 0
  frac : Nat := 0
  f64 : Int := 0
  p64 : Int := 0
  applied : Bool := false
  source : TimeSource := .pps
  back : Nat := 0
  good : Nat := 0
  /-- Good edges since power-on, as telemetry counts them (R509). -/
  goods : Nat := 0
  outliers : Nat := 0
  missing : Nat := 0
  consecOut : Nat := 0
  lastOut : Option (Nat × Int) := none
  jumped : Bool := false
  phase : List Nat := []
  lastGood : Option Nat := none
  nextEdge : Nat := 0
  secMark : Nat := 0
  await : Bool := false
  held : Bool := false
  quality : Nat := 0
  armed : Option (Nat × Nat) := none
  ppsOut : Bool := false
  ppsOutAt : Nat := 0
  lastSec : Nat := 0
  twinQ : Nat := 0
  twinE : Nat := 0
  twinAt : Nat := 0
  twinOffset : Int := 0
  refLost : Bool := false
  deriving DecidableEq, Repr

/-- A cut-off entry of the calendar (R129). -/
structure CutEntry where
  date : BitVec 32
  instant : Nat
  period : Nat
  deriving DecidableEq, Repr

/-- A key-rollover entry (R129). -/
structure KeyEntry where
  slot : Nat
  instant : Nat
  period : Nat
  deriving DecidableEq, Repr

/-- A window entry and whether the window is open (R129, R136). -/
structure WinEntry where
  duration : Nat
  instant : Nat
  period : Nat
  open_ : Bool := false
  closeAt : Nat := 0
  deriving DecidableEq, Repr

/-- The calendar (R128, R129). -/
structure Calendar where
  cut : Tbl CutEntry := []
  key : Tbl KeyEntry := []
  win : Tbl WinEntry := []
  deriving DecidableEq, Repr

/-- Feature values (R73), with their reset values. -/
structure Feats where
  journalMode : W := 0
  journalSplit : W := 8
  sealAlg : W := 0
  benchSplit : W := 0x08080808
  coreClock : W := 0
  timeQuality : W := 0x0000320803E80064
  unsync : W := 0
  tdes : W := 0
  notices : W := 0
  moderation : W := 0x00200020
  deriving DecidableEq, Repr

/-! ### Items, dialogues and programs -/

/-- The kinds of a work item (R223). -/
inductive ItemKind where
  | message
  | expiry
  deriving DecidableEq, Repr

/-- The states of a work item (R138). -/
inductive ItemState where
  | accepted
  | running
  | ended
  deriving DecidableEq, Repr

/-- An EGRESS record of a run (R227). -/
structure Emit where
  idx : Nat
  ch : Nat
  jsn : Nat
  len : Nat
  win : Nat
  granules : Nat
  posted : Bool := false
  deriving DecidableEq, Repr

/-- A work item, from its ACCEPT or EXPIRY record until its records retire (R138, R166, R167, R214, R223). -/
structure Item where
  stream : Nat
  jsn : Nat
  kind : ItemKind
  channel : Nat
  stamp : Nat
  deadline : Nat
  orderKey : W
  progArg : W
  userTag : W
  idx : BitVec 32
  date : BitVec 32
  adopted : Bool
  len : Nat
  win : Nat
  granules : Nat
  /-- Granules charged for a rerun's message that has no window yet (R98). -/
  paid : Nat := 0
  handle : BitVec 32 := 0
  openJsn : Nat := 0
  context : W512 := 0
  program : Nat := 0
  gen : Option Nat := none
  run : Nat := 1
  bench : Nat := 0
  ready : Bool := false
  state : ItemState := .accepted
  status : Nat := 0
  result : BitVec 32 := 0
  endJsn : Nat := 0
  emits : List Emit := []
  opens : List (BitVec 32) := []
  claims : List (BitVec 32) := []
  closed : List (BitVec 32) := []
  frames : List Nat := []
  donePosted : Bool := false
  noticed : Bool := false
  flags : Nat := 0
  deriving DecidableEq, Repr

/-- The states of a dialogue (R142). -/
inductive DlgState where
  | pending
  | open_
  | claimed (stream jsn : Nat)
  deriving DecidableEq, Repr

/-- A dialogue (R142 to R147). -/
structure Dialogue where
  stream : Nat
  handle : BitVec 32
  openJsn : Nat
  opener : Nat
  context : W512
  expiry : Nat
  budget : Nat
  channel : Nat
  key : BitVec 128
  state : DlgState
  adopted : Bool := false
  deriving DecidableEq, Repr

/-- What remains of an expired dialogue (R144). -/
structure Remnant where
  stream : Nat
  handle : BitVec 32
  channel : Nat
  key : BitVec 128
  context : W512
  expiry : Nat
  at_ : Nat
  openJsn : Nat
  deriving DecidableEq, Repr

/-- A generation of a channel program (R205 to R212). -/
structure Gen where
  gen : Nat
  key : Nat
  serial : Bool
  mask : BitVec 4
  entry : Nat
  codeLen : Nat
  dataLen : Nat
  pages : Nat
  turn : Nat
  share : Nat
  sha : BitVec 256
  codeAt : Nat
  switch : Option Nat := none
  absent : Bool := false
  /-- PARAMS of the LOAD_PROGRAM, FLAGS bit 1 left out (R212). -/
  params : BitVec 256 := 0
  deriving DecidableEq, Repr

/-- A program identifier (R205, R206, R210). -/
structure Prog where
  gens : List Gen := []
  pages : Nat := 0
  key : Nat := 0
  dataAt : Nat := 0
  /-- The data area exists in external memory (R206, R207). -/
  placed : Bool := false
  highest : Nat := 0
  deriving DecidableEq, Repr

/-! ### The journal (05_journal_and_dovetail) -/

/-- A journal record (R164, R165): its fields, the type's own bytes 32 to 59 as one number, and the body. -/
structure Record where
  jsn : Nat
  stamp : Nat
  rtype : Nat
  flags : Nat := 0
  channel : Nat := 0xFFFF
  itemJsn : Nat := 0
  tf : BitVec 224 := 0
  body : Bytes := []
  deriving DecidableEq, Repr

/-- The role of an area (R156). -/
inductive Role where
  | primary
  | mirror
  | superseded
  deriving DecidableEq, Repr

/-- A record in a log: its log offset. -/
structure LogRec where
  off : Nat
  record : Record
  /-- The head of the record's chain after it (R185). -/
  chain : BitVec 256 := 0
  deriving DecidableEq, Repr

/-- A stream held in an area (R155 to R178). -/
structure Stream where
  id : Nat
  serial : Nat
  adoption : Nat
  role : Role
  nextJsn : Nat := 1
  /-- Where the log wraps now (R157, R158). -/
  logSz : Nat := 0
  log : List LogRec := []
  heads : List (BitVec 256) := []
  sealCount : Nat := 0
  lastSealJsn : Nat := 0
  lastSealAt : Nat := 0
  sinceSeal : Nat := 0
  cursor : Nat := 1
  /-- The archive cursor in the last checkpoint, which start-up restores (R175, R176). -/
  ckptCursor : Nat := 1
  ckptJsn : Nat := 0
  ckptAt : Nat := 0
  cfg : List Record := []
  sinceCkpt : Nat := 0
  staged : Nat := 0
  /-- JSN up to which records were durable when the paired mode in force began (R34, R162). -/
  durableTo : Nat := 0
  /-- Fragments of a record in arrival: area offset, FRAG_OFFSET, bytes (R185). -/
  frags : List (Nat × Nat × Bytes) := []
  rxStaged : Nat := 0
  /-- The last ACCEPT record of each channel, and past its submission index (R166). -/
  accepts : Tbl (Nat × BitVec 32) := []
  /-- The last DONE record of each channel (R181). -/
  dones : Tbl Nat := []
  head : Nat := 0
  tail : Nat := 0
  stagedBytes : Nat := 0
  released : Option Nat := none
  /-- LAST_MIRRORED_JSN of the adoption after a failure (R36, R181). -/
  lastMirrored : Nat := 0
  lastStamp : Nat := 0
  deriving DecidableEq, Repr

/-- A sublink of the Dovetail link (R189). -/
structure Sublink where
  up : Bool := false
  lastGood : Nat := 0
  downAt : Nat := 0
  retrains : Nat := 0
  deriving DecidableEq, Repr

/-- A stream as a HEARTBEAT lists it (R190). -/
structure TwinStream where
  id : Nat
  adoption : Nat
  role : Nat
  area : Nat
  head : Nat
  deriving DecidableEq, Repr

/-- What the twin's last HEARTBEAT said (R190). -/
structure TwinInfo where
  serial : Nat := 0
  state : Nat := 0
  mode : Nat := 0
  own : Nat := 0
  timeQ : Nat := 0
  space : Nat := 0
  at_ : Nat := 0
  streams : List TwinStream := []
  deriving DecidableEq, Repr

/-- The pairing proposal of this package (R192, R194). -/
structure Proposal where
  mode : Nat
  twin : Nat
  own : Nat
  at_ : Nat
  sent : Bool := false
  deriving DecidableEq, Repr

/-- The Dovetail link (R184 to R202). `pair` is the pairing state in the encoding of R193. -/
structure Link where
  sub0 : Sublink := {}
  sub1 : Sublink := {}
  downAt : Nat := 0
  txSeq : BitVec 32 := 1
  rxNext : BitVec 32 := 1
  peerAck : BitVec 32 := 1
  peerCredit : BitVec 32 := 0
  unacked : List (Nat × Frame) := []
  txWait : List Frame := []
  rxHeld : List Frame := []
  txCredit : Nat := 8192
  rxFreed : Nat := 0
  gapSince : Option Nat := none
  lastAckAt : Nat := 0
  lastSentAt : Nat := 0
  pair : Nat := 0
  prop : Option Proposal := none
  /-- The port whose PAIR_TWIN a joining package holds until the twin's CONFIG record names it (R192). -/
  joins : Option Nat := none
  /-- A PROPOSE of the twin received before this package has sent its own (R194). -/
  rxProp : Option Bytes := none
  sentDone : Bool := false
  rcvdDone : Bool := false
  sevAt : Nat := 0
  twin : TwinInfo := {}
  twinSerial : Nat := 0
  /-- The last T_SEND received and the ledger time of its receipt (R191). -/
  time : Option (Nat × Nat) := none
  release : Option (Nat × Nat) := none
  /-- The stream whose release a planned adoption awaits, and the port of the command (R202). -/
  adopting : Option (Nat × Nat) := none
  discarded : Nat := 0
  naks : Nat := 0
  resends : Nat := 0
  hbMissed : Nat := 0
  deriving DecidableEq, Repr

/-! ### Key vault (07_tokens_and_kilns) -/

/-- The state of a vault slot (R242). -/
inductive SlotKeyState where
  | empty
  | loaded
  | absent
  deriving DecidableEq, Repr

/-- A vault slot (R242). -/
structure VSlot where
  st : SlotKeyState := .empty
  gen : Nat := 1
  alg : Nat := 0
  size : Nat := 0
  usage : Nat := 0
  mode : Nat := 0
  exp : Nat := 0
  ver : Nat := 0
  hash : BitVec 256 := 0
  /-- The key's material: what each of the four wrapped copies unwraps to. -/
  key : Bytes := []
  /-- The copies in external memory, each wrapped under one bench's key-encryption key (R244). -/
  copies : List Bytes := []
  /-- Which creation of the vault the import belongs to (R255). -/
  epoch : Nat := 0
  deriving DecidableEq, Repr

/-- The key vault (R242 to R257). -/
structure Vault where
  slots : Tbl VSlot := []
  provGen : Nat := 1
  active : Bool := false
  rootOut : Bool := false
  pkgKey : BitVec 256 := 0
  sealKeys : List (Nat × BitVec 256) := []
  /-- How often the vault has been created (R247, R255). -/
  epoch : Nat := 0
  /-- The root provisioning token of the current provisioning generation (R256, R257). -/
  root : Bytes := []
  /-- The working copies of the audit keys and the vault agreement key are in place (R248). -/
  working : Bool := false
  deriving DecidableEq, Repr

/-! ### Memory, background work, power and service -/

/-- A key-array entry (R294). -/
structure FrameWord where
  key : BitVec 4 := 0
  guard_ : Bool := true
  accessed : Bool := false
  written : Bool := false
  deriving DecidableEq, Repr

/-- A GDDR6 channel (R467 to R473, R487). -/
structure Gddr where
  retired : Bool := false
  moving : Bool := false
  /-- Ledger times of the last 1,001 corrected errors, newest first (R473). -/
  corrAt : List Nat := []
  /-- Successive retraining units that have failed (R473). -/
  failed : Nat := 0
  temp : Int := 0
  tempWck : Int := 0
  tempData : Int := 0
  readRetries : Nat := 0
  writeRetries : Nat := 0
  ecc : Nat := 0
  poison : Nat := 0
  retrains : Nat := 0
  deriving DecidableEq, Repr

/-- Period, latest start and window of a background activity (R484, R488), in ledger ns. -/
structure BgAct where
  period : Nat
  latest : Nat
  window : Nat := 0xFF
  deriving DecidableEq, Repr

/-- A background unit that R487 made due at once: activity, resource, when it fell due and its latest start. -/
structure BgDue where
  act : Nat
  res : Nat
  due : Nat
  latest : Nat
  deriving DecidableEq, Repr

/-- A binding entry (R451). -/
structure UBind where
  op : Nat
  format : Nat
  prefixes : Nat
  levels : Nat
  resumable : Bool
  entry : Nat
  deriving DecidableEq, Repr

/-- The customer microcode image (R426, R454, R455, R461): its identifier, its SHA-256, the highest IMAGE_ID loaded, and
its bindings and words, from word 24,576 on. `absent` says that the control stores have lost it. -/
structure Ucode where
  id : Nat := 0
  sha : BitVec 256 := 0
  highest : Nat := 0
  absent : Bool := false
  loaded : Bool := false
  binds : List UBind := []
  words : List (BitVec 144) := []
  deriving DecidableEq, Repr

/-- An entry of the error log (R506). -/
structure LogEntry where
  seq : Nat
  time : Nat
  severity : Nat
  unit : Nat
  number : Nat
  code : Nat := 0
  jsn : Nat := 0
  detail : BitVec 256 := 0
  deriving DecidableEq, Repr

/-- Power state and running transitions (R498 to R503, R497, R502). -/
structure Power where
  state : Nat := 0
  target : Option Nat := none
  park : BitVec 96 := 0
  quiesced : Bool := false
  fwSwitch : Option Nat := none
  clkChange : Bool := false
  deriving DecidableEq, Repr

/-- Temperatures and alerts (R504, R509, R510). -/
structure Thermal where
  temps : List Int := []
  warning : Bool := false
  tripped : Bool := false
  watts : Nat := 0
  warnings : Nat := 0
  trips : Nat := 0
  deriving DecidableEq, Repr

/-- A customer opcode whose logic is fixed in fuses, with the fields of its binding (R451, R453). -/
structure FusedOp where
  op : Nat
  format : Nat
  prefixes : Nat
  levels : Nat
  deriving DecidableEq, Repr

/-- A firmware slot of the flash (R494). -/
structure FwSlot where
  version : Nat
  floor : Nat
  signed : Bool
  deriving DecidableEq, Repr

/-- Fuses and flash (R1, R43, R155, R453, R459, R494, R508). The serial and grade are log 5's values. -/
structure Ident where
  gradeE : Bool := false
  serial : BitVec 48 := 0
  subVendor : BitVec 16 := 0
  subId : BitVec 16 := 0
  ucodeKey : Option (BitVec 384) := none
  rollback : Nat := 0
  fwSlots : List FwSlot := [⟨1, 0, true⟩, ⟨0, 0, false⟩]
  fwRunning : Nat := 0
  fwStaged : Option FwSlot := none
  streamsMade : Nat := 0
  fusedOps : List FusedOp := []
  /-- Deconfigured parts, each with the SEQ of the error-log entry that recorded it (R508, R537). -/
  deconf : List (PartRef × Nat) := []
  flashLog : List LogEntry := []
  deriving DecidableEq, Repr

/-- Start-up, resets, pins (R490 to R495, R514 to R530). -/
structure StartUp where
  step : Nat := 0
  ready : Bool := false
  fault : Bool := false
  halted : Bool := false
  flushing : Bool := false
  sysResetLow : Bool := true
  sysRoseInFlush : Bool := false
  pwrFailLow : Bool := false
  extKept : Bool := false
  testEn : Bool := false
  vaultMade : Bool := false
  jtagIr : Nat := 1
  mgmtSmbus : Bool := false
  mgmtAddr : BitVec 2 := 0
  clkTimeLost : Bool := false
  held : Bool := false
  boot : BootFacts := {}
  /-- Commands held at a reset of the package, whose CONFIG records recovery finds in the log (R203). -/
  redo : List AdminHeld := []
  deriving DecidableEq, Repr

/-- What the device has sent out of the package (log 2). -/
inductive Out where
  /-- A write to host memory through a port: address, bytes, relaxed-ordering attribute (R44). -/
  | hostWrite (port : Nat) (addr : W) (bytes : Bytes) (relaxed : Bool)
  /-- An MSI-X message: what the vector's table entry says to write (R53). -/
  | msix (port vector : Nat) (addr : W) (data : BitVec 32)
  /-- An error reported through AER on a port: its bit of Uncorrectable Error Status, and whether it is fatal (R46). -/
  | aer (port bit : Nat) (fatal : Bool)
  /-- A Dovetail frame on a sublink (R184). -/
  | frame (sublink : Nat) (f : Frame)
  /-- A block of the management interface, with its mode and address (R510, R526). -/
  | mgmt (smbus : Bool) (address : Nat) (bytes : Bytes)
  /-- The bits a JTAG instruction selects for shifting out (R525). -/
  | jtag (instruction : Nat) (value : Option (BitVec 32))
  /-- ALERT_N, THERMTRIP_N or TIME_PPS_OUT driven to a level (R504, R510, R123). -/
  | pin (name : String) (asserted : Bool)
  /-- A store to a firmware-owned hub or bench register, handed to the unit it belongs to (R465). -/
  | unitStore (addr : Nat) (bytes : Bytes)
  deriving DecidableEq, Repr

/-- An ACCEPT whose twin acknowledgement is outstanding (R37). -/
structure AcceptHeld where
  stream : Nat
  jsn : Nat
  channel : Nat
  deriving DecidableEq, Repr

/-- A request for shared granules (R98): the channel charged, the shared part, and for an EMIT its core
and the whole request, for a rerun (R27) its item. -/
inductive PoolReq where
  | msg (ch n : Nat)
  | emit (core ch n total : Nat)
  | rerun (stream jsn ch n : Nat)
  deriving DecidableEq, Repr

/-- An append that is held (R35, R161, R178): a CONFIG record that the device owes a stream, with its SOURCE and bytes, the
DONE record of an item that has faulted or missed (R139, R239), or a SEAL record. -/
inductive Owed where
  | config (stream source opcode cmdId event : Nat) (body : Bytes)
  | ending (stream jsn status result : Nat)
  | seal (stream : Nat)
  deriving DecidableEq, Repr

/-- Whose turn the intake's is (R87): the channel it serves and the descriptors fetched in the turn, and the channels served in
this round. -/
structure Rotation where
  cur : Option (Nat × Nat) := none
  served : List Nat := []
  deriving DecidableEq, Repr

/-- Device-wide telemetry counters that no other field holds (R509). -/
structure Counters where
  misses : Nat := 0
  faults : Nat := 0
  mramCorrected : Nat := 0
  appends : Nat := 0
  appended : Nat := 0
  wedged : Nat := 0
  seals : Nat := 0
  sigDone : Tbl Nat := []
  sigRetried : Tbl Nat := []
  tokenFailures : Tbl Nat := []
  cacheMisses : Tbl Nat := []
  deriving DecidableEq, Repr

/-- The state of the package. -/
structure State where
  /-- The commands that wait, first in first out (log 1). -/
  pending : List Instr := []
  /-- What has left the package, newest first (log 2). -/
  out : List Out := []
  /-- Counter of free values (log 4). No statement rests on it. -/
  free : Nat := 0
  ident : Ident := {}
  su : StartUp := {}
  ports : Vector Port 2 := Vector.replicate 2 {}
  pollPeriod : Nat := 4
  armAfter : Nat := 50
  groups : Tbl Group := []
  chans : Tbl Channel := []
  /-- The counters of channels that are closed, which telemetry keeps (R509). -/
  closedChans : Tbl Channel := []
  rings : Tbl Ring := []
  poolWait : List PoolReq := []
  windows : Tbl Window := []
  acceptHeld : Option AcceptHeld := none
  rotation : Rotation := {}
  /-- Appends that are held, first in first out (R35). -/
  owed : List Owed := []
  time : TimeUnit := {}
  bizDate : BitVec 32 := 0
  cal : Calendar := {}
  feats : Feats := {}
  items : List Item := []
  dialogues : List Dialogue := []
  remnants : List Remnant := []
  incarn : Tbl Nat := []
  openWait : List Nat := []
  progs : Tbl Prog := []
  area0 : Option Stream := none
  area1 : Option Stream := none
  /-- OWN of JOURNAL_SPLIT in force and whether area 1 has a size (R157). -/
  ownInForce : Nat := 8
  area1Used : Bool := false
  link : Link := {}
  vault : Vault := {}
  benches : Vector Bench 4 := Vector.replicate 4 {}
  /-- Cores that differ from a core at reset. -/
  cores : Tbl Core := []
  ucode : Ucode := {}
  /-- External memory and the buffer pool by physical address (R463). An address not listed reads as 0 (log 8). -/
  mem : List Host.Cell := []
  /-- The key array by frame number: entries that differ from KEY 0, GUARD 1 (R294). -/
  keys : Tbl FrameWord := []
  /-- 64-byte lines that are poisoned, by line number (R472 to R474). -/
  poisoned : List Nat := []
  gddr : Tbl Gddr := []
  mramFailed : List Nat := []
  /-- Background activities whose settings differ from R484's. -/
  bg : Tbl BgAct := []
  bgDue : List BgDue := []
  /-- When the last unit of an activity and resource fell due, by 64 x activity + resource (R484). -/
  bgLast : Tbl Nat := []
  power : Power := {}
  therm : Thermal := {}
  alert : BitVec 4 := 0
  mgmtSeq : W := 0
  elog : List LogEntry := []
  elogNext : Nat := 1
  counters : Counters := {}
  /-- The sampled telemetry groups by 65536 x GROUP + INDEX, and the time of the sample (R509). -/
  sample : Tbl (List W) := []
  sampleAt : Nat := 0
  deriving DecidableEq, Repr

/-- The machine right after power-on, with SYS_RESET_N held low and start-up not begun (R490, R528). -/
def State.reset : State := {}

end Sys2Proof.Machine
end

