-- ==== Sys2Proof/Machine/Bits.lean ====
section
/-!
DEFINITION. Bit fields, byte strings in both orders, sign extension, tables by number, and CRC-32C.
-/

namespace Sys2Proof.Machine

/-! ### Bit fields and byte strings -/

/-- Field `[lo + len - 1 : lo]` of a number. -/
def nbits (x lo len : Nat) : Nat := (x >>> lo) % 2 ^ len

/-- Bit `i` of a number. -/
def nbit (x i : Nat) : Bool := x.testBit i

/-- Little-endian bytes of `v`, `n` of them (R7). -/
def leBytes : Nat → Nat → Bytes
  | 0, _ => []
  | n + 1, v => BitVec.ofNat 8 v :: leBytes n (v / 256)

/-- The number that little-endian bytes spell (R7). -/
def leVal : Bytes → Nat
  | [] => 0
  | b :: bs => b.toNat + 256 * leVal bs

/-- The number that big-endian bytes spell. -/
def beVal (bs : Bytes) : Nat := leVal bs.reverse

/-- `n` bytes given one by one. -/
def bytesOf (n : Nat) (f : Nat → Byte) : Bytes := (List.range n).map f

/-- Big-endian bytes of `v`, `n` of them. -/
def beBytes (n v : Nat) : Bytes := (leBytes n v).reverse

/-- The field of `len` bytes at byte `off` of a 64-byte structure (R7). -/
def W512.fld (d : W512) (off len : Nat) : Nat := nbits d.toNat (8 * off) (8 * len)

/-- The 64-byte structure with the field of `len` bytes at byte `off` replaced. -/
def W512.put (d : W512) (off len v : Nat) : W512 :=
  let mask : Nat := (2 ^ (8 * len) - 1) <<< (8 * off)
  BitVec.ofNat 512 ((d.toNat - (d.toNat &&& mask)) + ((v % 2 ^ (8 * len)) <<< (8 * off)))

/-- A 64-byte structure from its bytes. -/
def W512.ofBytes (bs : Bytes) : W512 := BitVec.ofNat 512 (leVal bs)

/-- The bytes of a 64-byte structure. -/
def W512.bytes (d : W512) : Bytes := leBytes 64 d.toNat

/-- Byte `i` of a byte string, 0 beyond its end. -/
def byteAt (bs : Bytes) (i : Nat) : Nat := (bs.getD i 0).toNat

/-- The little-endian field of `len` bytes at `off` of a byte string. -/
def bfld (bs : Bytes) (off len : Nat) : Nat := leVal ((bs.drop off).take len)

/-- Bytes padded with zeros, or cut, to a length. -/
def padTo (n : Nat) (bs : Bytes) : Bytes := (bs ++ List.replicate (n - bs.length) 0).take n

/-- The integer that the low `n` bits of `x` spell in two's complement. -/
def sint (n x : Nat) : Int :=
  let y := x % 2 ^ n
  if n = 0 then 0 else if y < 2 ^ (n - 1) then (y : Int) else (y : Int) - (2 ^ n : Nat)

/-- An integer as an unsigned `n`-bit number. -/
def uint (n : Nat) (x : Int) : Nat := (x % ((2 ^ n : Nat) : Int)).toNat

/-- How often `n` is divisible by 2 at most `k` times: the exponent of a power of two. -/
def log2Exact (x : Nat) : Nat := Nat.log2 x

/-- Bits `k - 1` to 0 of `x` in reverse order (R303). -/
def revBits (k x : Nat) : Nat :=
  (List.range k).foldl (fun acc i => if x.testBit i then acc + 2 ^ (k - 1 - i) else acc) 0

/-- A list of pieces `n` bytes long. -/
def chunks (n : Nat) (bs : Bytes) : List Bytes :=
  (List.range ((bs.length + n - 1) / n)).map (fun i => (bs.drop (i * n)).take n)

/-- The ceiling of a division. -/
def ceilDiv (a b : Nat) : Nat := (a + b - 1) / b

/-! ### CRC-32C (R164, R184) -/

/-- One bit of the reflected CRC with polynomial 0x1EDC6F41. -/
def crcBit (c : Nat) : Nat := if c % 2 = 1 then (c / 2) ^^^ 0x82F63B78 else c / 2

/-- One byte of CRC-32C. -/
def crcByte (c : Nat) (b : Byte) : Nat :=
  crcBit (crcBit (crcBit (crcBit (crcBit (crcBit (crcBit (crcBit (c ^^^ b.toNat))))))))

/-- CRC-32C of a byte string. -/
def crc32c (bs : Bytes) : Nat := (bs.foldl crcByte 0xFFFFFFFF) ^^^ 0xFFFFFFFF

/-! ### Tables by number -/

/-- The entry of a key. -/
def tget {α : Type} (t : Tbl α) (k : Nat) : Option α := t.lookup k

/-- A table with the entry of a key set. -/
def tset {α : Type} : Tbl α → Nat → α → Tbl α
  | [], k, v => [(k, v)]
  | (k', v') :: t, k, v =>
    if k < k' then (k, v) :: (k', v') :: t
    else if k = k' then (k, v) :: t
    else (k', v') :: tset t k v

/-- A table without a key. -/
def terase {α : Type} (t : Tbl α) (k : Nat) : Tbl α := t.filter (fun e => e.1 != k)

/-- The entry of a key changed where it is present. -/
def tmod {α : Type} (t : Tbl α) (k : Nat) (f : α → α) : Tbl α :=
  t.map (fun e => if e.1 = k then (e.1, f e.2) else e)

/-- A counter of a table increased. -/
def tinc (t : Tbl Nat) (k n : Nat) : Tbl Nat := tset t k ((tget t k).getD 0 + n)

/-! ### Memory as cells in rising address order -/

/-- Addresses strictly rising and no cell equal to 0, which an unlisted address reads as (log 8). -/
def Memory.wf : List Host.Cell → Bool
  | [] => true
  | [c] => c.2 != 0
  | c :: d :: m => c.2 != 0 && decide (c.1 < d.1) && Memory.wf (d :: m)

/-- The byte at an address; 0 where nothing is listed (log 8). -/
def Memory.read (m : List Host.Cell) (a : Nat) : Byte := (m.lookup a).getD 0

/-- The cells with a byte written; a 0 removes the cell. -/
def Memory.write : List Host.Cell → Nat → Byte → List Host.Cell
  | [], a, b => if b = 0 then [] else [(a, b)]
  | c :: m, a, b =>
    if a < c.1 then (if b = 0 then c :: m else (a, b) :: c :: m)
    else if a = c.1 then (if b = 0 then m else (a, b) :: m)
    else c :: Memory.write m a b

/-- `n` bytes from an address. -/
def Memory.readN (m : List Host.Cell) (a n : Nat) : Bytes := (List.range n).map (fun i => Memory.read m (a + i))

/-- Bytes written from an address. -/
def Memory.writeN (m : List Host.Cell) (a : Nat) : Bytes → List Host.Cell
  | [] => m
  | b :: bs => Memory.writeN (Memory.write m a b) (a + 1) bs

/-- The cells with `n` bytes from an address reading 0. -/
def Memory.clear (m : List Host.Cell) (a n : Nat) : List Host.Cell :=
  m.filter (fun c => !(decide (a ≤ c.1) && decide (c.1 < a + n)))

end Sys2Proof.Machine
end

