-- ==== Sys2Proof/Machine/Ops.lean ====
section
/-!
DEFINITION. The named operations over the state's parts: cores, benches, ports, tables, outputs, free values, the error
log and MSI-X signalling.
-/

namespace Sys2Proof.Machine

/-- The outcome of a meaning. -/
abbrev Out3 := Host.Outcome State Fault Refusal

/-! ### Parts of the state -/

/-- A core; one not listed is as a core reset leaves it. -/
def State.core (s : State) (c : Nat) : Core := (tget s.cores c).getD {}

/-- The state with a core replaced. -/
def State.setCore (s : State) (c : Nat) (k : Core) : State := { s with cores := tset s.cores c k }

/-- A core changed by a function. -/
def State.modCore (s : State) (c : Nat) (f : Core → Core) : State := s.setCore c (f (s.core c))

/-- A host port. -/
def State.port (s : State) (p : Nat) : Port := s.ports.toArray.getD p {}

/-- The state with a port replaced. -/
def State.setPort (s : State) (p : Nat) (x : Port) : State := { s with ports := s.ports.setIfInBounds p x }

/-- A port changed by a function. -/
def State.modPort (s : State) (p : Nat) (f : Port → Port) : State := s.setPort p (f (s.port p))

/-- A bench. -/
def State.bench (s : State) (b : Nat) : Bench := s.benches.toArray.getD b {}

/-- The state with a bench replaced. -/
def State.setBench (s : State) (b : Nat) (x : Bench) : State := { s with benches := s.benches.setIfInBounds b x }

/-- A bench changed by a function. -/
def State.modBench (s : State) (b : Nat) (f : Bench → Bench) : State := s.setBench b (f (s.bench b))

/-- A doorbell group. -/
def State.group (s : State) (g : Nat) : Group := (tget s.groups g).getD {}

/-- An open channel. -/
def State.chan (s : State) (n : Nat) : Option Channel := tget s.chans n

/-- A channel changed where it is open. -/
def State.modChan (s : State) (n : Nat) (f : Channel → Channel) : State := { s with chans := tmod s.chans n f }

/-- The telemetry counters of a channel that is opened again count on (R509). -/
def Channel.carry (c old : Channel) : Channel :=
  { c with
    accepted := old.accepted, rejects := old.rejects, doneOk := old.doneOk, faults := old.faults
    outPosted := old.outPosted, outSpace := old.outSpace, missTotal := old.missTotal }

/-- A completion ring. -/
def State.ring (s : State) (n : Nat) : Option Ring := tget s.rings n

/-- A ring changed where it exists. -/
def State.modRing (s : State) (n : Nat) (f : Ring → Ring) : State := { s with rings := tmod s.rings n f }

/-- The stream an area holds. -/
def State.area (s : State) (a : Nat) : Option Stream := if a = 0 then s.area0 else s.area1

/-- The state with an area's stream replaced. -/
def State.setArea (s : State) (a : Nat) (x : Option Stream) : State :=
  if a = 0 then { s with area0 := x } else { s with area1 := x }

/-- The area that holds a stream. -/
def State.areaOf (s : State) (id : Nat) : Option Nat :=
  if s.area0.any (fun x => x.id == id) then some 0
  else if s.area1.any (fun x => x.id == id) then some 1
  else none

/-- The stream of an identifier. -/
def State.stream (s : State) (id : Nat) : Option Stream := (s.areaOf id).bind s.area

/-- A stream changed where an area holds it. -/
def State.modStream (s : State) (id : Nat) (f : Stream → Stream) : State :=
  match s.areaOf id with
  | none => s
  | some a => s.setArea a ((s.area a).map f)

/-- The number of the first core of a bench (R412). -/
def benchOf (c : Nat) : Nat := c / 24

/-- A key-array entry; a frame not listed holds KEY 0 and GUARD 1 (R294). -/
def State.frameWord (s : State) (f : Nat) : FrameWord := (tget s.keys f).getD {}

/-- The poisoned lines that a write of `n` bytes leaves, its first line numbered from `base`: a line that is written whole is
poisoned no longer (R474, log 121). -/
def linesLeft (l : List Nat) (base a n : Nat) : List Nat :=
  l.filter (fun x => !(decide (base + ceilDiv a 64 ≤ x) && decide (x < base + (a + n) / 64)))

/-- Bytes written to external memory or the pool (R463, R474). -/
def State.writeMem (s : State) (a : Nat) (bs : Bytes) : State :=
  { s with mem := Memory.writeN s.mem a bs, poisoned := linesLeft s.poisoned 0 a bs.length }

/-- Bytes of external memory written with zeros. -/
def State.clearMem (s : State) (a n : Nat) : State :=
  { s with mem := Memory.clear s.mem a n, poisoned := linesLeft s.poisoned 0 a n }

/-- The state with a key-array entry set. -/
def State.setFrame (s : State) (f : Nat) (w : FrameWord) : State := { s with keys := tset s.keys f w }

/-- A GDDR6 channel. -/
def State.gddrCh (s : State) (n : Nat) : Gddr := (tget s.gddr n).getD {}

/-- A GDDR6 channel changed by a function. -/
def State.modGddr (s : State) (n : Nat) (f : Gddr → Gddr) : State := { s with gddr := tset s.gddr n (f (s.gddrCh n)) }

/-- An item by stream and ITEM_JSN. -/
def State.item (s : State) (stream jsn : Nat) : Option Item :=
  s.items.find? (fun i => i.stream == stream && i.jsn == jsn)

/-- An item changed by a function. -/
def State.modItem (s : State) (stream jsn : Nat) (f : Item → Item) : State :=
  { s with items := s.items.map (fun i => if i.stream == stream && i.jsn == jsn then f i else i) }

/-- A vault slot; one not listed is EMPTY with generation 1 (R242). -/
def State.vslot (s : State) (n : Nat) : VSlot := (tget s.vault.slots n).getD {}

/-- The state with a vault slot set. -/
def State.setVslot (s : State) (n : Nat) (v : VSlot) : State :=
  { s with vault := { s.vault with slots := tset s.vault.slots n v } }

/-! ### Outputs and free values -/

/-- An output recorded (log 2). -/
def State.emitOut (s : State) (o : Out) : State := { s with out := o :: s.out }

/-- The next free value (log 4). -/
def State.freeVal (s : State) : BitVec 64 := Config.freeWord s.free

/-- The counter of free values advanced. -/
def State.nextFree (s : State) : State := { s with free := s.free + 1 }

/-- `n` free bytes from the counter's value (log 4). -/
def State.freeBytes (s : State) (n : Nat) : Bytes :=
  (List.range n).map (fun i => BitVec.ofNat 8 ((Config.freeWord (s.free + i / 8)).toNat >>> (8 * (i % 8))))

/-- The counter of free values advanced past `n` bytes. -/
def State.skipFree (s : State) (n : Nat) : State := { s with free := s.free + (n + 7) / 8 }

/-! ### MSI-X (R53) -/

/-- Whether a port may master at all: link up, not in reset, in D0, bus master enabled (R42, R51, R111, R492). -/
def Port.masters (p : Port) : Bool := p.linkUp && !p.inReset && (p.dstate == .d0) && p.busMaster

/-- Messages may leave: no journal flush has begun (R163). -/
def State.sends (s : State) : Bool := !s.su.flushing && !s.su.halted

/-- The message of a vector, as its table entry says (R53). -/
def Port.message (x : Port) (p vec : Nat) : Out :=
  let m := (tget x.msixMsg vec).getD (0, 0)
  .msix p vec m.1 m.2

/-- A vector's message may leave a port now: nothing masks it, the port masters, and a FENCED package sends no ring's vector
(R53, R163, R196). -/
def State.mayMsix (s : State) (p vec : Nat) : Bool :=
  let x := s.port p
  x.msixEnable && !x.msixMask && x.unmasked.contains vec && x.masters && s.sends && !(decide (vec < 512) && s.link.pair == 5)

/-- A vector signalled on one port: sent, or held in its pending bit (R53, R163, R196). -/
def State.msix (s : State) (p vec : Nat) : State :=
  let x := s.port p
  if s.mayMsix p vec then s.emitOut (x.message p vec)
  else s.setPort p { x with pbits := if x.pbits.contains vec then x.pbits else vec :: x.pbits }

/-- Messages whose pending bits stand and that nothing holds any longer are sent (R53, R111, R196). -/
def State.sendPending (s : State) (p : Nat) : State :=
  let x := s.port p
  let t := s.setPort p { x with pbits := x.pbits.filter (fun v => !s.mayMsix p v) }
  (x.pbits.filter (s.mayMsix p)).foldl (fun t v => t.emitOut (x.message p v)) t

/-- A device-wide vector, 513 to 518: on every function whose port is in D0 with its link up (R53). -/
def State.msixAll (s : State) (vec : Nat) : State :=
  let one (t : State) (p : Nat) : State :=
    if (t.port p).linkUp && (t.port p).dstate == .d0 then t.msix p vec else t
  one (one s 0) 1

/-! ### AER (R42, R46) -/

/-- An uncorrectable error reported through AER (R46): its status bit is set, and where it is not masked it is reported with
the severity that the port's registers assign. The places of the bits are the PCIe base specification's (log 98). -/
def State.reportAer (s : State) (p bit : Nat) : State :=
  let x := s.port p
  let t := s.setPort p { x with aerStatus := x.aerStatus ||| BitVec.twoPow 32 bit }
  if x.aerMask.getLsbD bit then t else t.emitOut (.aer p bit (x.aerSeverity.getLsbD bit))

/-- The errors in which a failed read may end (R46): poisoned data, a timeout, Completer Abort, Unsupported Request. -/
def readErrors : List Nat := [12, 14, 15, 20]

/-- A read of host memory through a port has failed: the error is reported; which of the four it was is free (R46, log 4). -/
def State.readFails (s : State) (p : Nat) : State :=
  (s.reportAer p (readErrors.getD (s.freeVal.toNat % 4) 12)).nextFree

/-! ### The error log (R506, R510) -/

/-- ALERT_N is asserted (R510). -/
def State.alertN (s : State) : Bool := s.alert != 0 || s.therm.warning

/-- Bits of the alert cause set; ALERT_N follows (R510). -/
def State.raiseAlert (s : State) (bits : BitVec 4) : State :=
  let t := { s with alert := s.alert ||| bits }
  if t.alertN && !s.alertN then t.emitOut (.pin "ALERT_N" true) else t

/-- An entry appended to the error log: 16,384 are kept in hub SRAM, the severities DECONFIGURED and FATAL also in
1,024 of flash, and vector 513 is signalled (R506, the vector table of 02_host_attachment). CODE is
free, and DETAIL is Birditon's layout of the values that the entry reports (log 4, log 11). -/
def State.logErr (s : State) (severity unit number jsn : Nat) (data : List W := []) : State :=
  let code := (Config.freeWord s.free).toNat % 65536
  let e : LogEntry :=
    { seq := s.elogNext, time := s.time.ns, severity := severity, unit := unit, number := number, code := code, jsn := jsn
      detail := Config.errorDetail code data }
  let s := { s with
    free := s.free + 1
    elogNext := s.elogNext + 1
    elog := (e :: s.elog).take 16384
    ident := if severity ≥ 3 then { s.ident with flashLog := (e :: s.ident.flashLog).take 1024 } else s.ident }
  let s := if severity ≥ 3 then s.raiseAlert 4 else s
  s.msixAll 513

/-! ### Item slots (R217, R218) -/

/-- An item slot of the core. -/
def Core.slot (k : Core) (n : Nat) : Slot := k.slots.toArray.getD n {}

/-- An item slot written. -/
def Core.wslot (k : Core) (n : Nat) (v : Slot) : Core := { k with slots := k.slots.setIfInBounds n v }

/-- A slot that becomes FREE. Tags whose commands an engine still holds stay outstanding (R232). -/
def Slot.freed (sl : Slot) : Slot := { tags := sl.tags }

/-- The item slot whose TSB an address names (R217, R220). -/
def slotOfTsb (a : Nat) : Option Nat :=
  let base := 0x002000008000
  if a < base then none
  else if (a - base) % 0x3000 = 0 ∧ (a - base) / 0x3000 < 8 then some ((a - base) / 0x3000) else none

/-- The slot a core runs, by its TSBP (R296). -/
def Core.runningSlot (k : Core) : Option Nat := slotOfTsb k.tsbp.toNat

/-- The item of the slot a core runs. -/
def State.runningItem (s : State) (c : Nat) : Option Item :=
  let k := s.core c
  match k.runningSlot with
  | none => none
  | some i => (k.slot i).item.bind (fun p => s.item p.1 p.2)

end Sys2Proof.Machine
end

