-- ==== Sys2Proof/Machine/CoreRegs.lean ====
section
/-!
DEFINITION. A core's registers: reading and writing G, DR, F, loop levels and address units with their dirty bits
(R286, R291), the fields of MODE, FL, FCSR, MST and SSR (R289), and exceptions as values.
-/

namespace Sys2Proof.Machine

/-- An exception: vector, cause code, and the handler's G2 (R393). -/
structure Exn where
  vec : Nat
  cause : Nat
  g2 : W := 0
  deriving DecidableEq, Repr

/-- Vector 1 with the cause code for a reserved field (R393). -/
def Exn.reserved : Exn := { vec := 1, cause := 5 }

/-- What an instruction comes to: it completes and the next one follows, a taken branch, an exception, a wait with the
instruction still to be done, or a state whose PC is already set (RETT, TRAP, YIELD). -/
inductive Eff where
  | next (s : State)
  | branch (s : State) (target : W)
  | exc (e : Exn)
  | wait (s : State)
  | placed (s : State)
  deriving DecidableEq, Repr

/-! ### Registers -/

/-- A G register; none is hard-wired (R287). -/
def Core.rg (k : Core) (n : Nat) : W := k.g.toArray.getD n 0

/-- A G register written. -/
def Core.wg (k : Core) (n : Nat) (v : W) : Core := { k with g := k.g.setIfInBounds n v }

/-- MODE with a dirty bit set (R291): 0 decimal, 1 floating point, 2 loop, 3 address unit. -/
def Core.dirty (k : Core) (bit : Nat) : Core := { k with mode := k.mode ||| BitVec.ofNat 64 (2 ^ (16 + bit)) }

/-- A decimal register. -/
def Core.rd (k : Core) (n : Nat) : BitVec 128 := k.dr.toArray.getD n 0

/-- A decimal register written (R291). -/
def Core.wd (k : Core) (n : Nat) (v : BitVec 128) : Core := { k with dr := k.dr.setIfInBounds n v }.dirty 0

/-- An F register. -/
def Core.rf (k : Core) (n : Nat) : W := k.f.toArray.getD n 0

/-- An F register written (R291). -/
def Core.wf (k : Core) (n : Nat) (v : W) : Core := { k with f := k.f.setIfInBounds n v }.dirty 1

/-- A loop level. -/
def Core.lvl (k : Core) (n : Nat) : LoopLevel := k.loops.toArray.getD n {}

/-- A loop level written (R291). -/
def Core.wl (k : Core) (n : Nat) (v : LoopLevel) : Core := { k with loops := k.loops.setIfInBounds n v }.dirty 2

/-- An address unit. -/
def Core.au (k : Core) (n : Nat) : AddrUnit := k.aus.toArray.getD n {}

/-- An address unit written (R291). -/
def Core.wau (k : Core) (n : Nat) (v : AddrUnit) : Core := { k with aus := k.aus.setIfInBounds n v }.dirty 3

/-! ### Fields of MODE (R289) -/

/-- MODE.LEVEL: 0 task, 1 supervisor, 2 machine. -/
def Core.level (k : Core) : Nat := nbits k.mode.toNat 0 2

/-- MODE.KEY. -/
def Core.key (k : Core) : Nat := nbits k.mode.toNat 4 4

/-- MODE.ALIGN: strict. -/
def Core.align (k : Core) : Bool := nbit k.mode.toNat 8

/-- MODE.DOE. -/
def Core.doe (k : Core) : Bool := nbit k.mode.toNat 9

/-- A bit of MODE.SAVE. -/
def Core.saveBit (k : Core) (g : Nat) : Bool := nbit k.mode.toNat (12 + g)

/-- A bit of MODE.DIRTY. -/
def Core.dirtyBit (k : Core) (g : Nat) : Bool := nbit k.mode.toNat (16 + g)

/-- The reserved fields of MODE: [3:2], [11:10], [23:20], [63:28]. -/
def modeReserved : W := 0xFFFFFFFFF0F00C0C

/-- MODE.DIRTY as a mask. -/
def modeDirty : W := 0x00000000000F0000

/-- The highest level of a queued record, 0 with none (R395). -/
def Core.topLevel (k : Core) : Nat := k.queue.foldl (fun m q => max m q.level) 0

/-- A queued record has a LEVEL above MODE.ELEVEL and the core is not in escalation (row 3 of R404). -/
def Core.eventDue (k : Core) : Bool := !k.esc && decide (nbits k.mode.toNat 24 4 < k.topLevel)

/-! ### FL (R289) -/

/-- Carry. -/
def Core.fC (k : Core) : Bool := nbit k.fl.toNat 0
/-- Zero. -/
def Core.fZ (k : Core) : Bool := nbit k.fl.toNat 1
/-- Negative. -/
def Core.fN (k : Core) : Bool := nbit k.fl.toNat 2
/-- Overflow. -/
def Core.fV (k : Core) : Bool := nbit k.fl.toNat 3
/-- Half carry. -/
def Core.fH (k : Core) : Bool := nbit k.fl.toNat 4

/-- The value of FL from its five flags. -/
def flOf (c z n v h : Bool) : W :=
  BitVec.ofNat 64 (c.toNat + 2 * z.toNat + 4 * n.toNat + 8 * v.toNat + 16 * h.toNat)

/-- Every flag written. -/
def Core.setFl (k : Core) (c z n v h : Bool) : Core := { k with fl := flOf c z n v h }

/-- Z written, the other flags kept. -/
def Core.setZ (k : Core) (z : Bool) : Core := k.setFl k.fC z k.fN k.fV k.fH

/-- C written, the other flags kept. -/
def Core.setC (k : Core) (c : Bool) : Core := k.setFl c k.fZ k.fN k.fV k.fH

/-- C and Z written, the other flags kept. -/
def Core.setCZ (k : Core) (c z : Bool) : Core := k.setFl c z k.fN k.fV k.fH

/-- V written, the other flags kept. -/
def Core.setV (k : Core) (v : Bool) : Core := k.setFl k.fC k.fZ k.fN v k.fH

/-! ### Multiply and divide, floating point outstanding -/

/-- MST.MBUSY (R289). -/
def Core.mbusy (k : Core) : Bool := k.muldiv.isSome

/-- A multiply or divide writes MLO and MHI and MCYC, a multiply MSRC as well, and clears MBUSY (R289, R339, R341). -/
def Core.finishMul (k : Core) : Core :=
  match k.muldiv with
  | none => k
  | some m =>
    let k := { k with mlo := m.lo, mhi := m.hi, muldiv := none }
    let k := { k with mst := BitVec.ofNat 64 ((if !m.mul then nbits k.mst.toNat 1 1 * 2
      else if m.borrowed then 2 else 0) + (m.cyc % 256) * 256) }
    match m.v with
    | none => k
    | some v => k.setV v

/-- A floating-point instruction completes: its destination and flags are written, or its trap becomes pending
(R349, R351). A trap that is pending already stands. -/
def Core.finishFloat (k : Core) (o : FloatOut) : Core :=
  let k := { k with fcsr := k.fcsr ||| (o.flags.setWidth 32) }
  match o.trap with
  | some cause => if k.trap.isSome then k else { k with trap := some (cause, o.at_) }
  | none =>
    match o.dest with
    | .f n => k.wf n o.value
    | .g n => k.wg n o.value
    | .flags => { k with fl := (k.fl &&& 0x10) ||| o.value }

/-- Every outstanding floating-point instruction completes, in program order. -/
def Core.finishFloats (k : Core) : Core := k.floats.foldl Core.finishFloat { k with floats := [] }

/-- Some outstanding floating-point instruction writes FL or a G register. -/
def Core.floatTouchesInt (k : Core) : Bool := k.floats.any (fun o => match o.dest with | .f _ => false | _ => true)

/-- LTIME as this core may read it: ledger time, at most 20 ns behind and never decreasing (R286). -/
def ltimeOf (now last lag : Nat) : Nat := max last (now - lag % 21)

end Sys2Proof.Machine
end

