-- ==== Sys2Proof/Machine/Evc.lean ====
section
/-!
DEFINITION. The event controller: sources and their reset values (R425), raising, routing and presentation (R412 to
R415), records and queues (R416 to R419), and the register block of a bench's slice (R423, R424).
-/

namespace Sys2Proof.Machine

/-- A source that R425 lists. -/
def srcNamed (n : Nat) : Bool :=
  decide (n ≤ 4) || (decide (16 ≤ n) && decide (n ≤ 21)) || (decide (32 ≤ n) && decide (n ≤ 36)) ||
  (decide (48 ≤ n) && decide (n ≤ 51)) || (decide (64 ≤ n) && decide (n ≤ 69)) ||
  (decide (80 ≤ n) && decide (n ≤ 103)) || (decide (128 ≤ n) && decide (n ≤ 159))

/-- LEVEL of a source at reset (R425). -/
def srcLevel (n : Nat) : Nat :=
  if n = 0 then 2 else if n ≤ 3 then 3 else if n = 4 then 2
  else if n = 16 then 6 else if n ≤ 20 ∧ 17 ≤ n then 5 else if n = 21 then 3
  else if 32 ≤ n ∧ n ≤ 36 then 7
  else if 48 ≤ n ∧ n ≤ 50 then 9 else if n = 51 then 15
  else if n = 64 then 8 else if n = 65 then 12 else if n = 66 ∨ n = 67 then 8
  else if n = 68 then 10 else if n = 69 then 15
  else if 80 ≤ n ∧ n ≤ 103 then 14
  else 0

/-- AFFINITY of a source at reset: all 24 cores, one core for a TURN_TIMER, none for a reserved source (R425). -/
def srcAffinity (n : Nat) : BitVec 24 :=
  if 80 ≤ n ∧ n ≤ 103 then BitVec.ofNat 24 (2 ^ (n - 80)) else if srcNamed n then 0xFFFFFF else 0

/-- A source of a bench. -/
def Evc.src (e : Evc) (n : Nat) : EvSrc := (tget e.srcs n).getD { level := srcLevel n, affinity := srcAffinity n }

/-- A slice with a source set. -/
def Evc.setSrc (e : Evc) (n : Nat) (x : EvSrc) : Evc := { e with srcs := tset e.srcs n x }

/-- A group of a bench. -/
def Evc.group (e : Evc) (g : Nat) : EvGroup := (tget e.groups g).getD {}

/-- The slice of a bench. -/
def State.evc (s : State) (b : Nat) : Evc := (s.bench b).evc

/-- The slice of a bench replaced. -/
def State.setEvc (s : State) (b : Nat) (e : Evc) : State := s.modBench b (fun x => { x with evc := e })

/-- MODE.ELEVEL of a core (R289). -/
def Core.elevel (k : Core) : Nat := nbits k.mode.toNat 24 4

/-- The routing level (R413): above 15 in escalation. -/
def Core.rl (k : Core) : Nat := if k.esc then 16 else k.elevel

/-- The core may receive events at all (R413, R420). -/
def Core.receives (k : Core) : Bool := (k.run == .active) && !k.esc

/-- The slot at TAIL is free (R417). -/
def Core.tailFree (k : Core) : Bool := !(k.queue.any (fun q => q.slot == k.tail))

/-- A 16-byte event record (R416). -/
def eventBytes (time source bench level kind payload raises : Nat) : Bytes :=
  leBytes 8 time ++ leBytes 1 source ++ leBytes 1 bench ++ leBytes 1 level ++ leBytes 1 kind ++
    leBytes 3 payload ++ leBytes 1 raises

/-- A record written into the slot at TAIL, TAIL advanced (R417). -/
def Core.enqueue (k : Core) (q : QueueSlot) (bytes : Bytes) : Core :=
  { k with
    loc := Memory.writeN k.loc (16 * k.tail) bytes
    queue := k.queue ++ [{ q with slot := k.tail }]
    tail := (k.tail + 1) % 256 }

/-- The first of a list of local core indices after LAST in rising index, wrapping from 23 to 0 (R413). -/
def rotate (last : Nat) (l : List Nat) : Option Nat :=
  match l.find? (fun i => decide (last < i)) with
  | some i => some i
  | none => l.head?

/-- Presentation of one pending source of a bench (R413, R414). `ended` says that the group's hold-off has just ended, so that
every pending source of the group is presented. -/
def State.present (s : State) (b n : Nat) (ended : Bool := false) : State :=
  let e := s.evc b
  let x := e.src n
  let ok : Bool := x.pending && x.level != 0 && x.affinity != 0 && (ended || decide ((e.group (n / 16)).until_ ≤ s.time.ns))
  if !ok then s else
  let elig := (List.range 24).filter (fun i =>
    x.affinity.getLsbD i && (s.core (24 * b + i)).receives &&
    decide ((s.core (24 * b + i)).threshold < x.level) && decide ((s.core (24 * b + i)).rl < x.level))
  match elig with
  | [] => s
  | _ =>
    let free := elig.filter (fun i => (s.core (24 * b + i)).tailFree)
    match free with
    | [] =>
      let s := if x.blocked then s else
        match rotate x.last elig with
        | none => s
        | some w => s.modCore (24 * b + w) (fun k =>
            { k with overflow := min 65535 (k.overflow + 1), deferred := k.deferred + 1 })
      s.setEvc b (e.setSrc n { x with blocked := true })
    | _ =>
      let m := free.foldl (fun acc i => min acc (s.core (24 * b + i)).rl) 16
      let best := free.filter (fun i => (s.core (24 * b + i)).rl == m)
      match rotate x.last best with
      | none => s
      | some w =>
        let q : QueueSlot := ⟨0, x.level, b, n, 1, x.time, x.payload⟩
        let s := s.modCore (24 * b + w) (fun k =>
          k.enqueue q (eventBytes x.time n b x.level 1 x.payload (min 255 x.raises)))
        let g := e.group (n / 16)
        s.setEvc b { (e.setSrc n { x with pending := false, blocked := false, raises := 0, last := w }) with
          groups := if g.holdoff = 0 then e.groups
            else tset e.groups (n / 16) { g with until_ := s.time.ns + g.holdoff * 64 } }

/-- The pending sources of a slice in the order of R413: descending LEVEL, then ascending number. -/
def Evc.order (e : Evc) : List Nat :=
  (List.range 15).flatMap (fun i =>
    (e.srcs.filter (fun p => p.2.pending && p.2.level == 15 - i)).map (fun p => p.1))

/-- The groups of a slice whose hold-off has ended since a source of theirs was last presented (R414). -/
def Evc.heldOff (e : Evc) (now : Nat) : List Nat :=
  (e.groups.filter (fun g => g.2.until_ != 0 && decide (g.2.until_ ≤ now))).map (fun g => g.1)

/-- A slice whose ended hold-offs are over. -/
def Evc.endHolds (e : Evc) (now : Nat) : Evc :=
  { e with groups := e.groups.map (fun g => (g.1, if g.2.until_ ≤ now then { g.2 with until_ := 0 } else g.2)) }

/-- The controller evaluates a bench (R414, R415): every pending source is presented in order. With none pending the state
stays. -/
def State.evalEvc (s : State) (b : Nat) : State :=
  let e := s.evc b
  match e.order with
  | [] => s
  | ns => ns.foldl (fun t n => t.present b n ((e.heldOff s.time.ns).contains (n / 16))) (s.setEvc b (e.endHolds s.time.ns))

/-- A source raised (R412). The first raise records the time and the payload; a raise while it is pending is counted. -/
def State.raise (s : State) (b n payload : Nat) : State :=
  let e := s.evc b
  let x := e.src n
  let s := s.setEvc b (e.setSrc n (
    if x.pending then { x with raises := min 65535 (x.raises + 1) }
    else { x with pending := true, raises := 0, time := s.time.ns, payload := payload % 2 ^ 24 }))
  s.evalEvc b

/-- A hub source raised on every bench. -/
def State.raiseAll (s : State) (n payload : Nat) : State :=
  (((s.raise 0 n payload).raise 1 n payload).raise 2 n payload).raise 3 n payload

/-- Deferred presentations are reported by one OVERFLOW record once a slot is free, and pending sources are then
presented (R418). -/
def State.afterSlotFree (s : State) (c : Nat) : State :=
  let k := s.core c
  let s :=
    if k.deferred != 0 && k.tailFree then
      let q : QueueSlot := ⟨0, 0, benchOf c, 0, 2, s.time.ns, k.deferred⟩
      s.setCore c { (k.enqueue q (eventBytes s.time.ns 0 (benchOf c) 0 2 k.deferred 0)) with deferred := 0 }
    else s
  s.evalEvc (benchOf c)

/-- A queue slot of a core is freed (R417). -/
def State.freeQueueSlot (s : State) (c slot : Nat) : State :=
  let k := s.core c
  if k.queue.any (fun q => q.slot == slot) then
    (s.setCore c { k with queue := k.queue.filter (fun q => q.slot != slot) }).afterSlotFree c
  else s

/-- After a store of `n` bytes at offset `off` of the core-local alias: every queue slot whose KIND byte it leaves at 0 is
freed (R417). -/
def State.afterQueueStore (s : State) (c off n : Nat) : State :=
  if off ≥ 0x1000 then s else
  let touched := (List.range 256).filter (fun i => decide (off ≤ 16 * i + 11) && decide (16 * i + 11 < off + n))
  touched.foldl (fun t i => if Memory.read (t.core c).loc (16 * i + 11) = 0 then t.freeQueueSlot c i else t) s

/-- The occupied slots of a deconfigured core return to their sources (R421). -/
def State.requeueEvents (s : State) (c : Nat) : State :=
  let k := s.core c
  let s := s.setCore c { k with queue := [] }
  k.queue.foldl (fun t q =>
    if q.kind != 1 then t else
    let e := t.evc q.bench
    let x := e.src q.src
    t.setEvc q.bench (e.setSrc q.src (
      if x.pending then { x with raises := min 65535 (x.raises + 1) }
      else { x with pending := true, time := q.time, payload := q.payload }))) s

/-- A corrected error of a bench's part: logged, counted, and CORRECTED_ERROR raised (R425, R482). -/
def State.logCorrected (s : State) (b unit number : Nat) : State :=
  let seq := s.elogNext
  ((s.logErr 1 unit number 0).modBench b (fun x => { x with corrected := x.corrected + 1 })).raise b 64 (seq % 2 ^ 24)

/-! ### The register block (R424) -/

/-- A value of the slice's registers by offset (R424); `free` stands for COUNT, which counts core cycles (log 10). -/
def State.evcReg (s : State) (b off : Nat) : W :=
  let e := s.evc b
  if off < 0x800 then
    let n := off / 8
    if !srcNamed n then 0 else
    let x := e.src n
    BitVec.ofNat 64 (x.level + x.affinity.toNat * 2 ^ 8 + (if x.pending then 2 ^ 32 else 0) +
      (if x.blocked then 2 ^ 33 else 0) + x.raises * 2 ^ 48)
  else if off < 0x880 then
    let g := e.group ((off - 0x800) / 8)
    BitVec.ofNat 64 (g.holdoff + (ceilDiv (g.until_ - s.time.ns) 64 % 65536) * 2 ^ 32)
  else if 0x900 ≤ off ∧ off < 0x9C0 then
    let k := s.core (24 * b + (off - 0x900) / 8)
    BitVec.ofNat 64 (k.threshold + (min 15 k.rl) * 2 ^ 8 + (if k.esc then 2 ^ 12 else 0) +
      (if k.run == .parked then 2 ^ 13 else 0) + k.queue.length * 2 ^ 16 + k.tail * 2 ^ 32 + k.overflow * 2 ^ 48)
  else if 0xA00 ≤ off ∧ off < 0xAC0 then
    let k := s.core (24 * b + (off - 0xA00) / 8)
    let limit := match slotOfTsb k.tsbp.toNat with
      | none => 0
      | some i => (k.slot i).turnLimit
    BitVec.ofNat 64 (s.freeVal.toNat % 2 ^ 32 + (limit % 2 ^ 24) * 2 ^ 32)
  else if off = 0xB08 then
    BitVec.ofNat 64 ((if e.refused then 1 else 0) + e.reason * 2 ^ 8 + e.offset * 2 ^ 16)
  else 0

/-- A refused write of the slice is recorded in EVC_CTRL (R424). -/
def State.evcRefuse (s : State) (b off reason : Nat) : State :=
  s.setEvc b { s.evc b with refused := true, reason := reason, offset := off }

/-- A write of EVC_SRC_CFG (R419, R424). -/
def State.evcWriteSrc (s : State) (b n : Nat) (v : W) : State :=
  if !srcNamed n then s.evcRefuse b (8 * n) 8
  else if nbits v.toNat 4 4 != 0 || nbits v.toNat 34 14 != 0 then s.evcRefuse b (8 * n) 1
  else
    let e := s.evc b
    let x := e.src n
    let x := { x with
      level := nbits v.toNat 0 4
      affinity := if 80 ≤ n ∧ n ≤ 103 then x.affinity else BitVec.ofNat 24 (nbits v.toNat 8 24) }
    let x := if nbit v.toNat 32 then { x with pending := false, blocked := false, raises := 0 } else x
    (s.setEvc b (e.setSrc n x)).evalEvc b

/-- A write of EVC_GROUP (R414, R424). HOLDOFF 0 ends a hold-off that runs, and another value leaves it (log 120). -/
def State.evcWriteGroup (s : State) (b g : Nat) (v : W) : State :=
  if nbits v.toNat 16 16 != 0 || nbits v.toNat 48 16 != 0 then s.evcRefuse b (0x800 + 8 * g) 1
  else
    let e := s.evc b
    let h := nbits v.toNat 0 16
    let x := e.group g
    let x := { x with holdoff := h, until_ := if h = 0 then min x.until_ s.time.ns else x.until_ }
    (s.setEvc b { e with groups := tset e.groups g x }).evalEvc b

/-- A write of EVC_CORE (R424). -/
def State.evcWriteCore (s : State) (b i : Nat) (v : W) : State :=
  if nbits v.toNat 4 4 != 0 || nbits v.toNat 14 2 != 0 || nbits v.toNat 25 7 != 0 || nbits v.toNat 40 8 != 0 then
    s.evcRefuse b (0x900 + 8 * i) 1
  else
    let s := s.modCore (24 * b + i) (fun k => { k with
      threshold := nbits v.toNat 0 4
      overflow := if nbits v.toNat 48 16 != 0 then 0 else k.overflow })
    s.evalEvc b

/-- A write of EVC_TURN (R422, R424). -/
def State.evcWriteTurn (s : State) (b i : Nat) (v : W) : State :=
  if nbits v.toNat 56 7 != 0 then s.evcRefuse b (0xA00 + 8 * i) 1
  else if nbit v.toNat 63 then s.modCore (24 * b + i) (fun k => { k with turnRaised := false })
  else s

/-- A write of EVC_RAISE (R423). -/
def State.evcWriteRaise (s : State) (b : Nat) (v : W) : State :=
  if nbits v.toNat 8 32 != 0 then s.evcRefuse b 0xB00 1
  else if nbits v.toNat 0 8 < 128 ∨ 159 < nbits v.toNat 0 8 then s.evcRefuse b 0xB00 2
  else s.raise b (nbits v.toNat 0 8) (nbits v.toNat 40 24)

/-- A write of EVC_CTRL (R424): REFUSED is cleared by a 1. -/
def State.evcWriteCtrl (s : State) (b : Nat) (v : W) : State :=
  if nbits v.toNat 1 7 != 0 || nbits v.toNat 32 32 != 0 then s.evcRefuse b 0xB08 1
  else if nbit v.toNat 0 then s.setEvc b { s.evc b with refused := false } else s

/-- A machine-level write to the slice of a bench (R15, R424). -/
def State.evcWrite (s : State) (b off size : Nat) (v : W) : State :=
  let al := off - off % 8
  let named : Bool := decide (al < 0x880) || (decide (0x900 ≤ al) && decide (al < 0x9C0)) ||
    (decide (0xA00 ≤ al) && decide (al < 0xAC0)) || al == 0xB00 || al == 0xB08
  if !named then s.evcRefuse b off 8
  else if al < 0x800 ∧ !srcNamed (al / 8) then s.evcRefuse b off 8
  else if size != 8 || off % 8 != 0 then s.evcRefuse b off 4
  else if off < 0x800 then s.evcWriteSrc b (off / 8) v
  else if off < 0x880 then s.evcWriteGroup b ((off - 0x800) / 8) v
  else if off < 0x9C0 then s.evcWriteCore b ((off - 0x900) / 8) v
  else if off < 0xAC0 then s.evcWriteTurn b ((off - 0xA00) / 8) v
  else if off = 0xB00 then s.evcWriteRaise b v
  else s.evcWriteCtrl b v

end Sys2Proof.Machine
end

