-- ==== Sys2Proof/Machine/DovetailTx.lean ====
section
/-!
DEFINITION. Sending on the Dovetail link: frames, sequence numbers and credits (R184 to R188), and link state (R189).
-/

namespace Sys2Proof

open Sys2Proof.Machine

/-- Flits of a frame: its 32-byte header and its payload (R184). -/
def Frame.flits (f : Frame) : Nat := (32 + f.payload.length + 63) / 64

/-- Bytes 0 to 27 of a frame's header (R184). -/
def Frame.head (f : Frame) : Bytes :=
  [f.ftype, f.fflags] ++ leBytes 2 f.payload.length ++ leBytes 4 f.fseq.toNat ++ leBytes 4 f.ack.toNat ++
    leBytes 4 f.credit.toNat ++ leBytes 12 f.fspec.toNat

/-- The FCRC that a frame's header and payload have (R184). -/
def Frame.crc (f : Frame) : BitVec 32 := BitVec.ofNat 32 (crc32c (f.head ++ f.payload))

/-- A frame with its FCRC. -/
def Frame.sealed (f : Frame) : Frame := { f with fcrc := f.crc }

/-- A frame as its flits carry it: header, payload and padding (R184). -/
def Frame.bytes (f : Frame) : Bytes := padTo (64 * f.flits) (f.head ++ leBytes 4 f.fcrc.toNat ++ f.payload)

/-- The frame that the bytes of flits spell (R184). -/
def Frame.ofBytes (bs : Bytes) : Frame :=
  { ftype := BitVec.ofNat 8 (bfld bs 0 1), fflags := BitVec.ofNat 8 (bfld bs 1 1), fseq := BitVec.ofNat 32 (bfld bs 4 4)
    ack := BitVec.ofNat 32 (bfld bs 8 4), credit := BitVec.ofNat 32 (bfld bs 12 4), fspec := BitVec.ofNat 96 (bfld bs 16 12)
    payload := (bs.drop 32).take (bfld bs 2 2), fcrc := BitVec.ofNat 32 (bfld bs 28 4) }

end Sys2Proof

namespace Sys2Proof.Machine

/-- The link is up while a sublink is up (R189). -/
def State.linkUp (s : State) : Bool := s.link.sub0.up || s.link.sub1.up

/-- A sublink. -/
def Link.sub (l : Link) (n : Nat) : Sublink := if n = 0 then l.sub0 else l.sub1

/-- A link with a sublink replaced. -/
def Link.setSub (l : Link) (n : Nat) (x : Sublink) : Link := if n = 0 then { l with sub0 := x } else { l with sub1 := x }

/-- A frame leaves on a sublink with the current ACK_FSEQ and CREDIT, and its FCRC (R184, R186). -/
def State.putFrame (s : State) (sl : Nat) (f : Frame) : State :=
  let f := ({ f with ack := s.link.rxNext, credit := BitVec.ofNat 32 s.link.rxFreed } : Frame).sealed
  { s.emitOut (.frame sl f) with link := { s.link with lastSentAt := s.time.ns } }

/-- An unsequenced frame on one sublink, where it is up (R187). -/
def State.sendOn (s : State) (sl : Nat) (f : Frame) : State := if (s.link.sub sl).up then s.putFrame sl f else s

/-- The sublink a frame goes on: any that is up (R186); the model takes the lower. -/
def State.anySub (s : State) : Nat := if s.link.sub0.up then 0 else 1

/-- Bytes of frames kept for resending (R186). -/
def Link.keptBytes (l : Link) : Nat := l.unacked.foldl (fun n p => n + 64 * p.1) 0

/-- A sequenced frame may leave now: credits and resend space suffice (R186, R187). -/
def State.canSend (s : State) (f : Frame) : Bool :=
  decide (f.flits ≤ s.link.txCredit) && decide (s.link.keptBytes + 64 * f.flits ≤ 0x100000)

/-- A sequenced frame leaves with the next FSEQ (R186). -/
def State.sendNow (s : State) (f : Frame) : State :=
  let f := { f with fseq := s.link.txSeq }
  let s := s.putFrame s.anySub f
  { s with link := { s.link with
      txSeq := s.link.txSeq + 1
      txCredit := s.link.txCredit - f.flits
      unacked := s.link.unacked ++ [(f.flits, f)]
      lastAckAt := if s.link.unacked.isEmpty then s.time.ns else s.link.lastAckAt } }

/-- A sequenced frame sent, or held behind those held (R186). With the link down it is lost, and the journal resends
from the twin's STAGED_JSN (R189). -/
def State.sendSeq (s : State) (f : Frame) : State :=
  if !s.linkUp then s
  else if s.link.txWait.isEmpty && s.canSend f then s.sendNow f
  else { s with link := { s.link with txWait := s.link.txWait ++ [f] } }

/-- Held sequenced frames sent in order while credits and space suffice. -/
def State.pumpTx : Nat → State → State
  | 0, s => s
  | n + 1, s =>
    match s.link.txWait with
    | [] => s
    | f :: rest =>
      if s.canSend f then State.pumpTx n ({ s with link := { s.link with txWait := rest } }.sendNow f) else s

/-- A PAIR frame (R185). -/
def State.sendPair (s : State) (op mode own twin : Nat) (maps : Bytes) : State :=
  let head := leBytes 1 op ++ leBytes 1 mode ++ leBytes 1 own ++ leBytes 5 0 ++ leBytes 8 twin
  s.sendSeq { ftype := 8, payload := head ++ (if maps.isEmpty then [] else leBytes 16 0 ++ maps) }

/-- A FENCE frame (R185). -/
def State.sendFence (s : State) (op stream count jsn : Nat) : State :=
  let body := leBytes 1 op ++ leBytes 7 0 ++ leBytes 8 stream ++ leBytes 4 count ++ leBytes 4 0 ++ leBytes 8 jsn
  s.sendSeq { ftype := 9, payload := body }

/-- A change of a sublink's or the link's state: vector 516, the error log and TWIN_LINK (R189, R425). -/
def State.linkEvent (s : State) (sl : Nat) : State :=
  let p := (if s.link.sub0.up then 1 else 0) + (if s.link.sub1.up then 2 else 0) + (if s.linkUp then 4 else 0)
  ((s.logErr 2 8 sl 0).msixAll 516).raiseAll 33 p

/-- The pairing state changes (R194, R425). A package that leaves FENCED sends the messages that fencing held (R196). -/
def State.setPair (s : State) (v : Nat) : State :=
  if s.link.pair = v then s
  else
    let t := { s with link := { s.link with pair := v } }.raiseAll 34 v
    if s.link.pair = 5 then (t.sendPending 0).sendPending 1 else t

end Sys2Proof.Machine
end

