-- ==== Sys2Proof/Machine/JournalFmt.lean ====
section
/-!
DEFINITION. Journal records as bytes (R164 to R166), the hash chains (R169), and the bytes of the journal read window
(R157, R466).
-/

namespace Sys2Proof.Machine

/-- The body padded with zeros to a multiple of 64 bytes (R164). -/
def padBody (bs : Bytes) : Bytes := bs ++ List.replicate ((64 - bs.length % 64) % 64) 0

/-- Bytes 0 to 59 of a record's header (R164). -/
def Record.head60 (r : Record) : Bytes :=
  leBytes 8 r.jsn ++ leBytes 8 r.stamp ++ leBytes 1 r.rtype ++ leBytes 1 r.flags ++ leBytes 2 r.channel ++
    leBytes 4 r.body.length ++ leBytes 8 r.itemJsn ++ leBytes 28 r.tf.toNat

/-- A record as stored: header with CHECK, then the padded body (R164). -/
def Record.bytes (r : Record) : Bytes :=
  let b := padBody r.body
  r.head60 ++ leBytes 4 (crc32c (r.head60 ++ b)) ++ b

/-- The bytes a record takes in a log (R164). -/
def Record.size (r : Record) : Nat := 64 + 64 * ceilDiv r.body.length 64

/-- CHANNEL of a record that concerns no channel: bit 15 NONE (R164). -/
def chNone : Nat := 0x8000

/-- A record from its stored bytes, and whether CHECK is correct (R164, R173). -/
def Record.ofBytes (bs : Bytes) : Option Record :=
  let blen := bfld bs 20 4
  let total := 64 + 64 * ceilDiv blen 64
  if bs.length < total then none
  else if bfld bs 60 4 != crc32c (bs.take 60 ++ (bs.drop 64).take (total - 64)) then none
  else some {
    jsn := bfld bs 0 8, stamp := bfld bs 8 8, rtype := bfld bs 16 1, flags := bfld bs 17 1
    channel := bfld bs 18 2, itemJsn := bfld bs 24 8, tf := BitVec.ofNat 224 (bfld bs 32 28)
    body := (bs.drop 64).take blen }

/-- Field of `len` bytes at header byte `off` (32 to 59) of a record's TYPE_FIELDS (R166). -/
def Record.tfld (r : Record) (off len : Nat) : Nat := nbits r.tf.toNat (8 * (off - 32)) (8 * len)

/-- TYPE_FIELDS from fields given as header offset, length and value (R166). -/
def mkTf (fs : List (Nat × Nat × Nat)) : BitVec 224 :=
  BitVec.ofNat 224 (fs.foldl (fun acc f => acc + ((f.2.2 % 2 ^ (8 * f.2.1)) <<< (8 * (f.1 - 32)))) 0)

/-- The eight chain heads of a new stream (R169). -/
def initHeads (id : Nat) : List (BitVec 256) :=
  (List.range 8).map (fun c => Config.sha256 (leBytes 8 id ++ leBytes 1 c))

/-- A chain head as a byte string: its first byte is the most significant of the number that holds it (R8). -/
def headBytes (h : BitVec 256) : Bytes := beBytes 32 h.toNat

/-- The heads after a record (R169). -/
def chainRecord (heads : List (BitVec 256)) (r : Record) : List (BitVec 256) :=
  let c := r.jsn % 8
  heads.set c (Config.sha256 (headBytes (heads.getD c 0) ++ r.bytes))

/-- The whole journal data: 8 GiB (R157). -/
def journalSize : Nat := 0x200000000

/-- The bytes of an area that hold its checkpoint: 64 MiB (R157). -/
def ckptSize : Nat := 0x4000000

/-- Where area 1 begins while it has a size (R157, R466). -/
def State.areaBound (s : State) : Nat := s.ownInForce * 0x20000000

/-- The size of an area (R157). -/
def State.areaSize (s : State) (a : Nat) : Nat :=
  if !s.area1Used then (if a = 0 then journalSize else 0)
  else if a = 0 then s.areaBound else journalSize - s.areaBound

/-- The size of an area's log (R157). -/
def State.logSize (s : State) (a : Nat) : Nat := s.areaSize a - ckptSize

/-- A byte of an area's log by offset within the log: the byte of the record that covers it (R177). -/
def logByte (st : Stream) (size p : Nat) : Option Byte :=
  let covers (e : LogRec) : Bool := decide ((p + size - e.off) % size < e.record.size)
  match st.log.find? covers with
  | none => none
  | some e => some (e.record.bytes.getD ((p + size - e.off) % size) 0)

/-- A byte of the journal read window (R466); `none` where the manual fixes none: the checkpoint, whose layout is not
given, and space that no record covers (log 4). -/
def State.journalByte (s : State) (x : Nat) : Option Byte :=
  let a := if s.area1Used && decide (s.areaBound ≤ x) then 1 else 0
  let p := if a = 1 then x - s.areaBound else x
  match s.area a with
  | none => none
  | some st => if p < ckptSize then none else logByte st st.logSz (p - ckptSize)

end Sys2Proof.Machine
end

