-- ==== Sys2Proof/Machine/Journal.lean ====
section
/-!
DEFINITION. The journal controller: free space (R177, R178), whether an append can be made (R35, R161, R163, R178), the
append itself with its chain, its copy for the twin and its threshold events (R162, R164, R169), durability (R161, R162),
and SEAL and CONFIG records (R168, R170, R171).
-/

namespace Sys2Proof.Machine

/-! ### Free space -/

/-- Bytes of a log between tail and head (R177). -/
def Stream.used (st : Stream) : Nat :=
  if st.log.isEmpty then 0
  else if st.head = st.tail then st.logSz
  else (st.head + st.logSz - st.tail) % st.logSz

/-- Bytes of a log that do not lie between tail and head. -/
def Stream.freeBytes (st : Stream) : Nat := st.logSz - st.used

/-- Free share of an area in parts of `n`, rounded down (R177). -/
def Stream.freeIn (st : Stream) (n : Nat) : Nat := if st.logSz = 0 then n else st.freeBytes * n / st.logSz

/-- The primary streams held, area 0 first. -/
def State.primaries (s : State) : List Stream := [s.area0, s.area1].filterMap (fun a => a.filter (fun x => x.role == .primary))

/-- Free journal space in parts of `n`: the smallest share among the primary areas (R177). -/
def State.freeSpace (s : State) (n : Nat) : Nat := s.primaries.foldl (fun m st => min m (st.freeIn n)) n

/-- How many of the thresholds 0.5 %, 2 %, 5 %, 25 % free space reaches (R178). -/
def State.spaceClass (s : State) : Nat :=
  let f := s.freeSpace 1000
  (if 5 ≤ f then 1 else 0) + (if 20 ≤ f then 1 else 0) + (if 50 ≤ f then 1 else 0) + (if 250 ≤ f then 1 else 0)

/-- Vector 517 and JOURNAL_SPACE where free space crossed thresholds since `before` (R178, R425). -/
def State.spaceEvent (s : State) (before : Nat) : State :=
  if s.spaceClass = before then s else (s.msixAll 517).raiseAll 32 (s.freeSpace 1000)

/-! ### Modes and durability -/

/-- MODE of JOURNAL_MODE (R159). -/
def State.jMode (s : State) : Nat := nbits s.feats.journalMode.toNat 0 2

/-- A paired mode governs durability: PAIRED, SEVERED or FENCED (R193, R194). -/
def State.pairedRules (s : State) : Bool := decide (3 ≤ s.link.pair) && decide (s.link.pair ≤ 5)

/-- Paired-strict durability is in force. -/
def State.strictNow (s : State) : Bool := s.pairedRules && s.jMode == 1

/-- A record of a primary stream is durable (R161, R162). -/
def State.durable (s : State) (id jsn : Nat) : Bool :=
  match s.stream id with
  | none => false
  | some st => decide (jsn < st.nextJsn) && (!s.strictNow || decide (jsn ≤ st.staged) || decide (jsn ≤ st.durableTo))

/-- The JSN a stream appends next. -/
def State.nextJsn (s : State) (id : Nat) : Nat := ((s.stream id).map (fun st => st.nextJsn)).getD 1

/-- The package holds a stream as primary, so that it acts for it unless FENCED (R195). -/
def State.holds (s : State) (id : Nat) : Bool := (s.stream id).any (fun st => st.role == .primary)

/-- The package acts for a stream (R195). -/
def State.actsFor (s : State) (id : Nat) : Bool :=
  s.holds id && s.link.pair != 5 && (s.stream id).all (fun st => st.released.isNone)

/-- The package's own stream: the primary in area 0, else the one in area 1. -/
def State.home (s : State) : Option Nat := (s.primaries.head?).map (fun st => st.id)

/-- The mirror lag: records of the primary streams that the twin's STAGED frames do not cover (R35). -/
def State.lag (s : State) : Nat := s.primaries.foldl (fun n st => n + (st.nextJsn - 1 - st.staged)) 0

/-- The mirror lag forbids another append in paired-relaxed mode (R35). -/
def State.lagHeld (s : State) : Bool :=
  s.pairedRules && s.jMode == 2 &&
    (decide (256 ≤ s.lag) || s.primaries.any (fun st =>
      st.log.any (fun e => e.record.jsn == st.staged + 1 && decide (e.record.stamp + 50000 < s.time.ns))))

/-- A record of a size may be appended now, those that are held left aside; `exempt` says that R178 lets it below 0.5 %
(R35, R161, R163, R177, R178). -/
def State.canAppend (s : State) (id size : Nat) (exempt : Bool) : Bool :=
  match s.stream id with
  | none => false
  | some st =>
    st.role == .primary && st.released.isNone && !s.su.flushing && !s.su.halted && !s.su.pwrFailLow &&
      decide (st.stagedBytes + size ≤ 0x800000) && decide (st.used + size < st.logSz) &&
      (exempt || decide (5 ≤ s.freeSpace 1000)) && !s.lagHeld

/-- A record may be appended now: it waits behind every append that is held (R35). -/
def State.appendOk (s : State) (id size : Nat) (exempt : Bool) : Bool := s.owed.isEmpty && s.canAppend id size exempt

/-! ### Sending records to the twin -/

/-- FSPEC of a RECORD frame (R185). -/
def recordSpec (area frag off : Nat) : BitVec 96 :=
  BitVec.ofNat 96 (area + (frag % 2 ^ 32) * 2 ^ 32 + ((ckptSize + off) / 64) * 2 ^ 64)

/-- A record as RECORD frames (R185), in pieces of 4,032 bytes. -/
def State.sendRecord (s : State) (area off : Nat) (r : Record) (relocated : Bool) (chain : BitVec 256) : State :=
  let ps := chunks 4032 r.bytes
  (List.range ps.length).foldl (fun t i =>
    let last : Bool := i + 1 == ps.length
    let tail := if last && !relocated then headBytes chain else []
    t.sendSeq { ftype := 1, fflags := BitVec.ofNat 8 ((if last then 1 else 0) + (if relocated then 2 else 0))
                fspec := recordSpec area (4032 * i) off, payload := ps.getD i [] ++ tail }) s

/-- Records are copied to the twin in CATCH_UP and PAIRED (R162). -/
def State.mirroring (s : State) : Bool := s.link.pair == 2 || s.link.pair == 3

/-! ### Appending -/

/-- Where a record of `n` bytes is placed: at the head; while the log is confined to fewer bytes than it has, at its start
where it would pass the boundary (R158). -/
def Stream.place (st : Stream) (n size : Nat) : Nat := if size < st.logSz ∧ size < st.head + n then 0 else st.head

/-- The head after `n` bytes: at its wrap the log takes the area's present size where that has grown (R158). -/
def Stream.advance (st : Stream) (n size : Nat) : Stream :=
  let h := st.place n size + n
  if size < st.logSz then { st with head := if h = size then 0 else h }
  else if h < st.logSz then { st with head := h }
  else if st.logSz < size then { st with head := h, logSz := size }
  else { st with head := h - st.logSz }

/-- A stream notes the submission index of an ACCEPT record, and a channel's last DONE record (R166, R181). -/
def Stream.note (st : Stream) (r : Record) : Stream :=
  if r.rtype = 1 ∧ ((tget st.accepts r.channel).map (fun x => x.1)).getD 0 < r.jsn then
    { st with accepts := tset st.accepts r.channel (r.jsn, BitVec.ofNat 32 (r.tfld 32 4) + 1) }
  else if r.rtype = 3 ∧ (tget st.dones r.channel).getD 0 < r.jsn then { st with dones := tset st.dones r.channel r.jsn }
  else st

/-- A stream with a record at its head (R164, R169). -/
def Stream.push (st : Stream) (r : Record) (size : Nat) : Stream :=
  let heads := chainRecord st.heads r
  let x : Stream := { st with
    nextJsn := st.nextJsn + 1
    log := st.log ++ [{ off := st.place r.size size, record := r, chain := heads.getD (r.jsn % 8) 0 }]
    heads := heads
    sinceSeal := if r.rtype = 9 then 0 else st.sinceSeal + 1
    cfg := if r.rtype = 8 then st.cfg ++ [r] else st.cfg
    sinceCkpt := if r.rtype = 8 then st.sinceCkpt + 1 else st.sinceCkpt
    stagedBytes := st.stagedBytes + r.size
    lastStamp := r.stamp }
  (x.note r).advance r.size size

/-- A record appended to a primary stream (R114, R161, R162, R164): its JSN is the stream's next.
FLAGS.ADOPTER stands in the records of a package other than the stream's creator, in ADOPT records too (log 113). -/
def State.appendRaw (s : State) (id rtype channel itemJsn : Nat) (tf : BitVec 224) (body : Bytes) : State :=
  match s.areaOf id with
  | none => s
  | some a =>
    match s.area a with
    | none => s
    | some st =>
      let r : Record :=
        { jsn := st.nextJsn, stamp := s.time.ns, rtype := rtype, channel := channel, itemJsn := itemJsn, tf := tf
          flags := if id % 2 ^ 48 = s.ident.serial.toNat then 0 else 1, body := body }
      let before := s.spaceClass
      let st' := st.push r (s.logSize a)
      let n := s.counters
      let s := { s.setArea a (some st') with counters := { n with appends := n.appends + 1, appended := n.appended + r.size } }
      let s := if s.mirroring then s.sendRecord a (st.place r.size (s.logSize a)) r false (st'.heads.getD (r.jsn % 8) 0) else s
      s.spaceEvent before

/-- A record found in a stream's log. -/
def Stream.find (st : Stream) (jsn : Nat) : Option Record :=
  (st.log.find? (fun e => e.record.jsn == jsn)).map (fun e => e.record)

/-- A record found by stream and JSN. -/
def State.findRecord (s : State) (id jsn : Nat) : Option Record := (s.stream id).bind (fun st => st.find jsn)

/-! ### SEAL records -/

/-- Bytes 0 to 287 of a SEAL record's body (R171). -/
def sealHead (id first : Nat) (serial : BitVec 48) (alg : Nat) (heads : List (BitVec 256)) : Bytes :=
  leBytes 8 id ++ leBytes 8 first ++ leBytes 8 serial.toNat ++ leBytes 1 alg ++ leBytes 7 0 ++ heads.flatMap headBytes

/-- A SEAL record appended to a stream (R170, R171). -/
def State.sealNow (s : State) (id : Nat) : State :=
  match s.stream id with
  | none => s
  | some st =>
    let alg := nbits s.feats.sealAlg.toNat 0 1
    let first := if st.lastSealJsn = 0 then 1 else st.lastSealJsn + 1
    let head := sealHead id first s.ident.serial alg st.heads
    let sig := Config.auditSign alg s.ident.serial (leBytes 8 st.nextJsn ++ leBytes 8 s.time.ns ++ head)
    let s := s.appendRaw id 9 chNone 0 (mkTf [(32, 8, st.sealCount + 1), (40, 8, st.lastSealJsn)])
      (head ++ beBytes (if alg = 0 then 96 else 3309) sig)
    let s := { s with counters := { s.counters with seals := s.counters.seals + 1 } }
    s.modStream id (fun x => { x with sealCount := st.sealCount + 1, lastSealJsn := st.nextJsn, lastSealAt := s.time.ns })

/-! ### CONFIG records -/

/-- A CONFIG record appended to a stream (R168). -/
def State.appendConfig (s : State) (id source opcode cmdId target event form channel : Nat) (body : Bytes) : State :=
  s.appendRaw id 8 channel 0
    (mkTf [(32, 1, source), (33, 1, opcode), (34, 2, cmdId), (36, 4, target), (40, 1, event), (41, 1, form)]) body

/-- The body of a SOURCE 0x04 CONFIG record (R168). -/
def eventBody (twinStream twinSerial mode own : Nat) : Bytes :=
  padTo 64 (leBytes 8 twinStream ++ leBytes 8 twinSerial ++ leBytes 1 mode ++ leBytes 1 own)

/-- The twin's STREAM_ID, or 0 (R168). -/
def State.twinStream (s : State) : Nat := ((s.link.twin.streams.find? (fun x => x.role == 1)).map (fun x => x.id)).getD 0

/-- OWN in force for this package (R157). -/
def State.ownNow (s : State) : Nat := if s.area1Used then s.ownInForce else nbits s.feats.journalSplit.toNat 0 4

/-- The body of an EVENT of the package as it stands (R168). -/
def State.eventNow (s : State) : Bytes := eventBody s.twinStream s.link.twinSerial s.jMode s.ownNow

/-- A new stream in area 0, the whole journal its log (R155, R157, R169). -/
def State.createStream (s : State) : State :=
  let id := s.ident.serial.toNat + ((s.ident.streamsMade + 1) % 65536) * 2 ^ 48
  { s with
    ident := { s.ident with streamsMade := s.ident.streamsMade + 1 }
    area0 := some { id := id, serial := s.ident.serial.toNat, adoption := 1, role := .primary, heads := initHeads id
                    logSz := s.logSize 0, lastSealAt := s.time.ns, ckptAt := s.time.ns } }

end Sys2Proof.Machine
end

