-- ==== Sys2Proof/Machine/Pool.lean ====
section
/-!
DEFINITION. The buffer pool: its size and slices (R477, R479), windows and their key-array entries (R478, R480), and the accounting of
granules (R97, R98).
-/

namespace Sys2Proof.Machine

/-- Granules of the slice of a bench (R475, R476). -/
def State.sliceSize (s : State) (b : Nat) : Nat := (48 - nbits s.feats.benchSplit.toNat (8 * b) 5) * 4096

/-- Granules of the pool (R477). -/
def State.poolSize (s : State) : Nat := (List.range 4).foldl (fun n b => n + s.sliceSize b) 0

/-- Ready and running items of a bench (R214). -/
def State.benchLoad (s : State) (b : Nat) : Nat :=
  (s.items.filter (fun i => i.bench == b && (i.ready || i.state == .running))).length

/-- Granules of the slice of a bench that no window has (R479). -/
def State.sliceFree (s : State) (b : Nat) : Nat := s.sliceSize b - s.windows.foldl (fun n w => n + w.2.slices.getD b 0) 0

/-- A bench put into its place among others by its load. -/
def placeBench (load : Nat → Nat) (b : Nat) : List Nat → List Nat
  | [] => [b]
  | d :: ds => if load b < load d then b :: d :: ds else d :: placeBench load b ds

/-- `n` granules taken from slices in order, from each as many as it has. -/
def takeFrom (free : Nat → Nat) : Nat → List Nat → List (Nat × Nat)
  | _, [] => []
  | n, b :: bs => (b, min n (free b)) :: takeFrom free (n - min n (free b)) bs

/-- The physical granules of a window by slice (R479): from the bench with the fewest ready and running items first, the others
in rising order of load (log 122). -/
def State.takeSlices (s : State) (n : Nat) : List Nat :=
  let order := (List.range 4).foldl (fun l b => placeBench s.benchLoad b l) []
  let taken := takeFrom s.sliceFree n order
  (List.range 4).map (fun b => (taken.lookup b).getD 0)

/-- Size of the window of a run of `k` granules, and where its region begins (R478). -/
def windowOf (k : Nat) : Nat × Nat :=
  if k ≤ 4 then (0x400, 0x001000000000)
  else if k ≤ 16 then (0x1000, 0x001100000000)
  else if k ≤ 64 then (0x4000, 0x001200000000)
  else (0x40000, 0x001300000000)

/-- Frames that a window covers. -/
def windowFrames (win k : Nat) : List Nat :=
  let size := (windowOf k).1
  (List.range (ceilDiv size 4096)).map (fun i => win / 4096 + i)

/-- A free window for `k` granules with a key at an address (R478, R480): in the region of its length, unassigned, and in
region A in a frame whose windows hold that key. -/
def State.windowFits (s : State) (win k key : Nat) : Bool :=
  let w := windowOf k
  decide (1 ≤ k) && decide (k ≤ 1024) && decide (w.2 ≤ win) && decide (win < w.2 + 0x100000000) &&
    win % w.1 == 0 && !(s.windows.any (fun e => e.1 == win)) &&
    (decide (4 < k) || !(s.windows.any (fun e => e.1 / 4096 == win / 4096)) ||
      (s.frameWord (win / 4096)).key.toNat == key)

/-- Addresses where the lowest free window for `k` granules may lie: the start of its region, and what follows a window in
use or its frame. -/
def State.windowStarts (s : State) (k : Nat) : List Nat :=
  let w := windowOf k
  w.2 :: s.windows.flatMap (fun e => [e.1 + w.1, (e.1 / 4096 + 1) * 4096])

/-- The lowest free window for `k` granules with a key; the manual leaves the choice to the device. -/
def State.lowestWindow (s : State) (k key : Nat) : Option Nat :=
  match (s.windowStarts k).filter (fun w => s.windowFits w k key) with
  | [] => none
  | w :: ws => some (ws.foldl min w)

/-- A window assigned to a channel's granules (R479); its frames get KEY and GUARD 1 (R480). -/
def State.assignWindow (s : State) (win k key ch : Nat) : State :=
  let slices := s.takeSlices k
  let s := (windowFrames win k).foldl (fun t f =>
    t.setFrame f { t.frameWord f with key := BitVec.ofNat 4 key, guard_ := true }) s
  { s with windows := tset s.windows win ⟨k, ch, slices⟩ }

/-- A window freed with its granules and their charge; a frame left with no window holds KEY 0 and GUARD 1
(R97, R479, R480). -/
def State.freeWindow (s : State) (win : Nat) : State :=
  match tget s.windows win with
  | none => s
  | some w =>
    let s := { s with windows := terase s.windows win }
    let s := (windowFrames win w.granules).foldl (fun t f =>
      if t.windows.any (fun e => e.1 / 4096 == f) then t
      else t.setFrame f { t.frameWord f with key := 0, guard_ := true }) s
    s.modChan w.ch (fun x => { x with charged := x.charged - w.granules })

/-- Granules of the shared part of the pool (R98). -/
def State.sharedPool (s : State) : Nat := s.poolSize - s.chans.foldl (fun n c => n + c.2.poolMin) 0

/-- Shared granules in use: charges beyond POOL_MIN. -/
def State.sharedUsed (s : State) : Nat := s.chans.foldl (fun n c => n + (c.2.charged - c.2.poolMin)) 0

/-- Granules charged to a channel. -/
def State.charge (s : State) (ch n : Nat) : State := s.modChan ch (fun x => { x with charged := x.charged + n })

/-- Granules no longer charged to a channel. -/
def State.uncharge (s : State) (ch n : Nat) : State := s.modChan ch (fun x => { x with charged := x.charged - n })

/-- Whether a channel's charge stays within POOL_MAX with `n` more granules (R77, R98). -/
def State.underMax (s : State) (ch n : Nat) : Bool :=
  match s.chan ch with
  | none => true
  | some x => x.poolMax == 0 || decide (x.charged + n ≤ x.poolMax)

/-- A request of `n` granules for a channel (R98). The second component says whether it is met. A shared part that POOL_MAX
keeps from being met in full waits in the order of arrival as any other does. -/
def State.requestPool (s : State) (ch n : Nat) (mk : Nat → PoolReq) : State × Bool :=
  match s.chan ch with
  | none => (s, true)
  | some x =>
    let reserved := min n (x.poolMin - x.charged)
    let shared := n - reserved
    if shared = 0 || (s.poolWait.isEmpty && decide (s.sharedUsed + shared ≤ s.sharedPool) && s.underMax ch n) then (s.charge ch n, true)
    else ({ s.charge ch reserved with poolWait := s.poolWait ++ [mk shared] }, false)

/-- The channel and shared part of a request. -/
def PoolReq.part : PoolReq → Nat × Nat
  | .msg ch n => (ch, n)
  | .emit _ ch n _ => (ch, n)
  | .rerun _ _ ch n => (ch, n)

/-- The first waiting request, where its shared part can be met whole now (R98). -/
def State.grantable (s : State) : Option PoolReq :=
  match s.poolWait with
  | [] => none
  | q :: _ => if decide (s.sharedUsed + q.part.2 ≤ s.sharedPool) && s.underMax q.part.1 q.part.2 then some q else none

/-- A waiting EMIT of a core is given up with what it was charged (R140). -/
def State.dropEmitWait (s : State) (core : Nat) : State :=
  s.poolWait.foldl (fun t q =>
    match q with
    | .emit c ch n total =>
      if c = core then ({ t with poolWait := t.poolWait.filter (fun r => r != q) }).uncharge ch (total - n) else t
    | _ => t) s

end Sys2Proof.Machine
end

