-- ==== Sys2Proof/Machine/TimeOps.lean ====
section
/-!
DEFINITION. The time unit: counting (R113, R538), the error estimate (R124), time quality (R126), edges of TIME_PPS_IN
(R119, R120, R125), and pulses of TIME_PPS_OUT (R123).
-/

namespace Sys2Proof.Machine

/-- Parts of a nanosecond in which `frac` counts: 1/64 of 10^-9 ns. -/
def nsParts : Nat := 64000000000

/-- One ledger second in ns. -/
def secNs : Nat := 1000000000

/-- `n` nanoseconds of TIME_REF_CLK counted (R113, R120, R538): at 0.999 while a backward offset is absorbed, else at
1 + (f + p) x 10^-9. Past 2^64 - 1 the count goes on, which is the model's choice (log 105). -/
def TimeUnit.tick (t : TimeUnit) (n : Nat) : TimeUnit :=
  let slow := min n t.back
  let parts := slow * 63936000000 + (n - slow) * ((nsParts : Int) + t.f64 + t.p64).toNat + t.frac
  { t with ns := t.ns + parts / nsParts, frac := parts % nsParts, back := t.back - slow }

/-- Ledger time counted on to an instant; it never decreases (R113). -/
def TimeUnit.advanceTo (t : TimeUnit) (x : Nat) : TimeUnit :=
  if x ≤ t.ns then t else { t with ns := x, frac := 0, back := t.back - (x - t.ns) * 1000 / 999 }

/-- Ledger time less the unabsorbed offset. -/
def TimeUnit.settled (t : TimeUnit) : Nat := t.ns - ceilDiv t.back 1000

/-- The state with its time unit counted on to an instant. -/
def State.advanceTo (s : State) (x : Nat) : State := { s with time := s.time.advanceTo x }

/-- The state with `n` ns of TIME_REF_CLK counted. -/
def State.tick (s : State) (n : Nat) : State := { s with time := s.time.tick n }

/-- LOCKED_LIMIT, HOLDOVER_LIMIT, LOCK_EDGES and DRIFT_PPB of TIME_QUALITY_THRESHOLDS (R127). -/
def Feats.lockedLimit (f : Feats) : Nat := nbits f.timeQuality.toNat 0 16
/-- HOLDOVER_LIMIT (R127). -/
def Feats.holdoverLimit (f : Feats) : Nat := nbits f.timeQuality.toNat 16 16
/-- LOCK_EDGES (R127). -/
def Feats.lockEdges (f : Feats) : Nat := nbits f.timeQuality.toNat 32 8
/-- DRIFT_PPB (R127). -/
def Feats.driftPpb (f : Feats) : Nat := nbits f.timeQuality.toNat 40 16

/-- The error estimate E in 10^-9 ns (R122, R124, R520). -/
def State.errorE9 (s : State) : Nat :=
  let t := s.time
  if t.refLost then (2 ^ 64 - 1) * secNs else
  let base := match t.source with
    | .pps => (t.phase.foldl max 0 + 10) * secNs +
        (if t.good = 0 ∨ t.jumped then s.feats.driftPpb * (t.settled - t.lastGood.getD 0) else 0)
    | .twin => (t.twinE + 20) * secNs + (if t.held then s.feats.driftPpb * (t.ns - t.twinAt) else 0)
  base + t.back * 1000000

/-- E in ledger ns, rounded up. -/
def State.errorNs (s : State) : Nat := min (2 ^ 64 - 1) (ceilDiv s.errorE9 secNs)

/-- The state of time quality as R126 judges it. -/
def State.judgeQuality (s : State) : Nat :=
  let t := s.time
  let sound : Bool := match t.source with
    | .pps => !t.jumped && decide (s.feats.lockEdges ≤ t.good)
    | .twin => (s.link.sub0.up || s.link.sub1.up) && !t.held && t.twinQ == 2
  if !t.applied then 0
  else if sound && decide (s.errorE9 ≤ s.feats.lockedLimit * secNs) then 2
  else if s.errorE9 ≤ s.feats.holdoverLimit * 1000 * secNs then 1
  else 0

/-- TIME_PPS_OUT driven to a level (R123). -/
def State.setPpsOut (s : State) (v : Bool) : State :=
  if s.time.ppsOut = v then s
  else { s.emitOut (.pin "TIME_PPS_OUT" v) with time := { s.time with ppsOut := v, ppsOutAt := s.time.ns } }

/-- Time quality re-evaluated (R126): a change signals vector 515 and raises TIME_QUALITY; while it is unsynchronized
TIME_PPS_OUT is low (R123). -/
def State.evalQuality (s : State) : State :=
  let q := s.judgeQuality
  let old := s.time.quality
  if q = old then s
  else
    let s := { s with time := { s.time with quality := q } }
    let s := (s.msixAll 515).raiseAll 16 (q + old * 256)
    if q = 0 then s.setPpsOut false else s

/-- Unsynchronized under the FAIL policy (R153). -/
def State.failing (s : State) : Bool := s.time.quality == 0 && s.feats.unsync == 1

/-- What an offset does at its edge or transfer (R120, R122): a step forward, or a slow rate until it is absorbed. -/
def TimeUnit.offset (t : TimeUnit) (target : Nat) : TimeUnit :=
  if t.ns ≤ target then { t with ns := target, frac := 0, back := 0 }
  else { t with back := (t.ns - target) * 1000 }

/-- An armed SET_TIME applied at an edge (R119, R120, R538). -/
def State.applyPps (s : State) (next : Nat) : State :=
  let t := s.time.offset next
  { s with time := { t with
      armed := none, source := .pps, applied := true, await := false, held := false, jumped := false
      f64 := if s.time.applied then t.f64 else 0, p64 := 0
      good := 1, goods := t.goods + 1, consecOut := 0, lastOut := none, phase := [0]
      lastGood := some next, secMark := next, nextEdge := next + secNs
      refLost := t.refLost && s.su.clkTimeLost } }

/-- An integer kept within limits. -/
def clampInt (lo hi x : Int) : Int := max lo (min hi x)

/-- A good edge (R124, R125, R538): `e` is its phase error against the whole second it marks. -/
def TimeUnit.goodEdge (t : TimeUnit) (c k : Nat) : TimeUnit :=
  let e : Int := (c : Int) - ((t.secMark + k * secNs : Nat) : Int)
  let t := if t.back = 0 then
      { t with f64 := clampInt (-12800000) 12800000 (t.f64 - e), p64 := clampInt (-64000000) 64000000 (-16 * e) }
    else t
  { t with
    good := t.good + 1, goods := t.goods + 1, consecOut := 0, lastOut := none, phase := (e.natAbs :: t.phase).take 8
    lastGood := some c, secMark := t.secMark + k * secNs, nextEdge := c + secNs }

/-- An outlier (R125); the second component says that it is the third in a row one second apart. The correction p stays until a
jump or a missing edge (R538, log 109). -/
def TimeUnit.outlier (t : TimeUnit) (c : Nat) : TimeUnit × Bool :=
  let run : Int := match t.lastOut with
    | some (c0, m) => if ((c : Int) - c0 - secNs).natAbs ≤ 1000 then m + 1 else 1
    | none => 1
  let jump : Bool := decide (3 ≤ run)
  ({ t with
      good := 0, outliers := t.outliers + 1, consecOut := t.consecOut + 1, lastOut := some (c, run)
      jumped := jump, p64 := if jump then 0 else t.p64 }, jump)

/-- An edge classed and used (R125, R519). -/
def State.classEdge (s : State) : State :=
  let t := s.time
  let c := t.settled
  let last := t.lastGood.getD 0
  let k := max 1 ((c - last + secNs / 2) / secNs)
  let err : Int := (c : Int) - ((last + k * secNs : Nat) : Int)
  if secNs / 2 ≤ c - last ∧ err.natAbs * secNs ≤ s.errorE9 + 1000 * secNs then { s with time := t.goodEdge c k }
  else
    let r := t.outlier c
    let s := { s with time := r.1 }
    if r.2 then s.logErr 2 9 0xFFFF 0 else s

/-- The edge of TIME_PPS_IN at the present instant, before time quality is judged (R119, R123, R125). -/
def State.edge (s : State) : State :=
  let t := s.time
  match t.armed with
  | some (next, since) =>
    if since + 10000000 ≤ t.ns ∧ t.ns ≤ since + 2 * secNs then s.applyPps next
    else if t.applied && (t.source == .pps) && !t.jumped then s.classEdge else s
  | none => if t.applied && (t.source == .pps) && !t.jumped then s.classEdge else s

/-- When the next edge counts as missing (R125). -/
def State.missingAt (s : State) : Nat :=
  s.time.nextEdge + s.errorNs + 1000 + 1000000 + ceilDiv s.time.back 1000

end Sys2Proof.Machine
end

