-- ==== Sys2Proof/Machine/Items.lean ====
section
/-!
DEFINITION. Work items and dialogues: generations in force (R209), ordering domains and readiness (R33, R214, R215), the
end of an item (R138 to R141, R226, R239, R240), what a void run leaves (R27, R28, R144), what is due at an append slot
(R133, R135, R139), and the firing of dialogues (R148, R151).
-/

namespace Sys2Proof.Machine

/-! ### Programs -/

/-- The generation in force at an instant: the activated one with the latest switch at or before it (R209). -/
def Prog.inForce (p : Prog) (at_ : Nat) : Option Gen :=
  p.gens.foldl (fun best g =>
    match g.switch with
    | none => best
    | some t =>
      if at_ < t then best
      else match best with
        | none => some g
        | some b => if b.switch.getD 0 < t then some g else best) none

/-- The generation in force for a program identifier at an instant. -/
def State.genAt (s : State) (prog at_ : Nat) : Option Gen := (tget s.progs prog).bind (fun p => p.inForce at_)

/-- A generation by identifier and number. -/
def State.genOf (s : State) (prog gen : Nat) : Option Gen :=
  (tget s.progs prog).bind (fun p => p.gens.find? (fun g => g.gen == gen))

/-- The generation an item runs. -/
def State.itemGen (s : State) (i : Item) : Option Gen := i.gen.bind (s.genOf i.program)

/-! ### Ordering domains and readiness -/

/-- Two items of one ordering domain (R33, R151). -/
def State.sameDomain (s : State) (a b : Item) : Bool :=
  a.stream == b.stream && a.channel == b.channel &&
    ((((s.chan a.channel).map (fun c => c.orderMode)).getD 0) == 0 || a.orderKey == b.orderKey)

/-- The earlier items of an item's domain. -/
def State.earlier (s : State) (i : Item) : List Item :=
  s.items.filter (fun j => s.sameDomain j i && decide (j.jsn < i.jsn))

/-- An item that is Accepted may be queued on a bench: it is accepted, its ACCEPT record being durable, or its EXPIRY record is
appended; its message is in the pool, its generation is present, and with SERIAL every earlier item of its domain has ended
(R212, R214, R215). -/
def State.mayBeReady (s : State) (i : Item) : Bool :=
  (i.state == .accepted) && !i.ready && (i.kind == .expiry || (s.durable i.stream i.jsn && i.granules != 0)) &&
    match s.itemGen i with
    | none => false
    | some g => !g.absent && (!g.serial || (s.earlier i).all (fun j => j.state == .ended))

/-- Ready items of a bench. -/
def State.readyOn (s : State) (b : Nat) : List Item := s.items.filter (fun i => i.ready && i.bench == b)

/-- The bench of a mask with the fewest ready and running items, the lower number on a tie (R214). -/
def State.pickBench (s : State) (mask : BitVec 4) : Nat :=
  ((List.range 4).filter (fun b => mask.getLsbD b)).foldl (fun best b =>
    match best with
    | none => some b
    | some a => if s.benchLoad b < s.benchLoad a then some b else some a) none |>.getD 0

/-- A core is in an EWAIT that waits for work (R222, R233). -/
def Core.awaitsWork (k : Core) : Bool :=
  k.ewaitFrom.isSome && nbits k.mode.toNat 0 2 != 0 && nbit (k.g.toArray.getD 1 0).toNat 24

/-- Some core of a bench is in such an EWAIT. -/
def State.awaitsWork (s : State) (b : Nat) : Bool := s.cores.any (fun c => benchOf c.1 == b && c.2.awaitsWork)

/-- WORK_READY raised while the bench's ready queue is not empty and no core awaits work in an EWAIT (R222, R425). -/
def State.workReady (s : State) (b : Nat) : State :=
  let n := (s.readyOn b).length
  if n = 0 || s.awaitsWork b then s else s.raise b 0 (min n 0xFFFFFF)

/-- An item queued on its bench (R214). -/
def State.makeReady (s : State) (i : Item) : State :=
  match s.itemGen i with
  | none => s
  | some g =>
    let b := s.pickBench g.mask
    (s.modItem i.stream i.jsn (fun x => { x with ready := true, bench := b })).workReady b

/-- Every item that may become ready does (R214, R215). -/
def State.refreshReady (s : State) : State :=
  s.items.foldl (fun t i =>
    match t.item i.stream i.jsn with
    | none => t
    | some j => if t.mayBeReady j then t.makeReady j else t) s

/-- Granules of an item's message (R97). -/
def Item.need (i : Item) : Nat := ceilDiv i.len 256

/-- An item that waits for its message to be put back into the pool, after a recovery (R27, R201). -/
def Item.unplaced (i : Item) : Bool := i.kind == .message && i.state == .accepted && i.granules == 0

/-- A rerun's request for granules stands in the line (R98). -/
def State.rerunWaits (s : State) (stream jsn : Nat) : Bool :=
  s.poolWait.any (fun q => match q with | .rerun a b _ _ => a == stream && b == jsn | _ => false)

/-- A rerun asks for its message's granules as any request does (R98): what is charged is noted. -/
def State.askPlace (s : State) (i : Item) : State :=
  if i.paid ≠ 0 || s.rerunWaits i.stream i.jsn then s
  else
    let r := s.requestPool i.channel i.need (fun shared => .rerun i.stream i.jsn i.channel shared)
    if r.2 then r.1.modItem i.stream i.jsn (fun x => { x with paid := i.need }) else r.1

/-- A charged message put into a window from its ACCEPT record. It waits while no window is free. -/
def State.putPlace (s : State) (i : Item) : State :=
  if i.paid = 0 then s
  else
    let key := ((s.itemGen i).map (fun g => g.key)).getD 0
    match s.lowestWindow i.need key, s.findRecord i.stream i.jsn with
    | some w, some r =>
      let s := s.assignWindow w i.need key i.channel
      (s.writeMem w (r.body.drop 16)).modItem i.stream i.jsn
        (fun x => { x with win := w, granules := i.need, paid := 0 })
    | _, _ => s

/-- An item's message put back into the pool from its ACCEPT record, for a run after a recovery (R27, R98, R201). -/
def State.placeItem (s : State) (i : Item) : State :=
  if !i.unplaced then s
  else
    let s := s.askPlace i
    s.putPlace ((s.item i.stream i.jsn).getD i)

/-- Every message that needs it put back into the pool. -/
def State.placeItems (s : State) : State := s.items.foldl (fun t i => t.placeItem ((t.item i.stream i.jsn).getD i)) s

/-- What a rerun was charged before it had a window is given up (R97, R140). -/
def State.dropPlace (s : State) (i : Item) : State :=
  let mine (q : PoolReq) : Bool := match q with | .rerun a b _ _ => a == i.stream && b == i.jsn | _ => false
  let s := s.poolWait.foldl (fun t q => if mine q then t.uncharge i.channel (i.need - q.part.2) else t) s
  ({ s with poolWait := s.poolWait.filter (fun q => !mine q) }.uncharge i.channel i.paid).modItem i.stream i.jsn
    (fun x => { x with paid := 0 })

/-! ### Dialogues -/

/-- The claims of an item are released: the dialogues return to Open (R144). -/
def State.releaseClaims (s : State) (stream jsn : Nat) : State :=
  let freed (d : Dialogue) : Dialogue := if d.state = .claimed stream jsn then { d with state := .open_ } else d
  { s with dialogues := s.dialogues.map freed }

/-- A context becomes free: its dialogue leaves the table (R144). -/
def State.dropDialogues (s : State) (p : Dialogue → Bool) : State :=
  { s with dialogues := s.dialogues.filter (fun d => !p d) }

/-- A dialogue Pending from an item's OPEN. -/
def Dialogue.pendingFrom (d : Dialogue) (stream jsn : Nat) : Bool :=
  d.state == .pending && d.stream == stream && d.opener == jsn

/-- What an item's DONE with status OK does to its dialogues (R144, R147): those it closed are Closed, its Pending ones
become Open, its other claims are released. -/
def State.dialoguesDone (s : State) (i : Item) : State :=
  let s := s.dropDialogues (fun d : Dialogue => i.closed.contains d.handle &&
    (d.state == .claimed i.stream i.jsn || d.pendingFrom i.stream i.jsn))
  let opened (d : Dialogue) : Dialogue := if d.pendingFrom i.stream i.jsn then { d with state := .open_ } else d
  let s := { s with dialogues := s.dialogues.map opened }
  s.releaseClaims i.stream i.jsn

/-- What a void run leaves (R27, R28, R144): its Pending dialogues dropped, its claims released, the granules of its
outbound messages freed. -/
def State.voidRun (s : State) (i : Item) : State :=
  let s := s.dropDialogues (fun d => d.pendingFrom i.stream i.jsn)
  let s := s.releaseClaims i.stream i.jsn
  i.emits.foldl (fun t e => if e.granules = 0 then t else t.freeWindow e.win) s

/-- A work instruction of the core waits for something (R98, R145, R406). -/
def State.coreWaits (s : State) (c : Nat) : Bool :=
  let k := s.core c
  s.openWait.contains c || k.grant.isSome || k.wait != .nothing ||
    s.poolWait.any (fun q => match q with | .emit c' _ _ _ => c' == c | _ => false)

/-- What a core's work instruction waits for is given up: a request for granules with what it was charged, granules granted
and not yet used, a place among those that wait for a context or for queue space (R98, R140, R145, R406). -/
def State.dropWaits (s : State) (c : Nat) : State :=
  if !s.coreWaits c then s else
  let k := s.core c
  let s := match k.grant, s.runningItem c with
    | some n, some i => s.uncharge i.channel n
    | _, _ => s
  let s := (s.setCore c { k with grant := none, wait := .nothing }).dropEmitWait c
  { s with openWait := s.openWait.filter (fun x => x != c) }

/-- What an instruction of an item waits for is given up on the core that runs the item (R140, R145). -/
def State.dropItemWaits (s : State) (i : Item) : State :=
  s.cores.foldl (fun t c =>
    let k := t.core c.1
    if k.runningSlot.any (fun n => (k.slot n).item == some (i.stream, i.jsn)) then t.dropWaits c.1 else t) s

/-! ### The end of an item -/

/-- Status codes of R112 that end an item. -/
def stMissed : Nat := 0x0301
/-- TIME_UNSYNCHRONIZED (R112). -/
def stUnsync : Nat := 0x0303
/-- PROGRAM_FAULT (R112). -/
def stProgFault : Nat := 0x0501
/-- DEVICE_FAULT (R112). -/
def stDevFault : Nat := 0x0701

/-- The counters and event sources that follow a DONE record (R140, R239, R425, R509). The miss of an item that was never queued
on a bench is raised on bench 0 (log 110). -/
def State.countEnd (s : State) (i : Item) (status djsn : Nat) : State :=
  let s := s.modChan i.channel (fun c => { c with
    lastDone := djsn
    misses := if status = stMissed then c.misses + 1 else c.misses
    missTotal := if status = stMissed then c.missTotal + 1 else c.missTotal
    faults := if status = stProgFault ∨ status = stDevFault then c.faults + 1 else c.faults
    doneOk := if status = 0 then c.doneOk + 1 else c.doneOk })
  if status = stMissed then
    ({ s with counters := { s.counters with misses := s.counters.misses + 1 } }).raise i.bench 1 i.channel
  else if status = stProgFault ∨ status = stDevFault then
    (({ s with counters := { s.counters with faults := s.counters.faults + 1 } }).modBench i.bench
      (fun b => { b with programFaults := b.programFaults + 1 })).raise i.bench 2 i.channel
  else s

/-- The slots that hold an item are ENDED once it has ended (R218). -/
def State.endSlots (s : State) (stream jsn : Nat) : State :=
  let closed (sl : Slot) : Slot := if sl.item == some (stream, jsn) then { sl with st := .ended } else sl
  { s with cores := s.cores.map (fun c => (c.1, { c.2 with slots := c.2.slots.map closed })) }

/-- The DONE record of an item appended, and what follows from it (R137 to R140, R144, R226, R239). An item that has ended
keeps its one ending (R240). -/
def State.endItem (s : State) (stream jsn status result : Nat) : State :=
  match s.item stream jsn with
  | none => s
  | some i =>
    if i.state == .ended then s else
    let djsn := s.nextJsn stream
    let s := s.appendRaw stream 3 i.channel jsn
      (mkTf [(32, 2, status), (34, 2, i.run), (36, 4, result), (40, 2, i.emits.length)]) []
    let s := s.modItem stream jsn (fun x => { x with
      state := .ended, ready := false, status := status, result := BitVec.ofNat 32 result, endJsn := djsn })
    let s := if status = 0 then s.dialoguesDone i else (s.dropItemWaits i).voidRun i
    let s := if i.unplaced then s.dropPlace i else s
    ((s.endSlots stream jsn).countEnd i status djsn).refreshReady

/-- The item missed its deadline (R139, R140). -/
def State.missItem (s : State) (stream jsn : Nat) : State := s.endItem stream jsn stMissed 0

/-- The item is still Accepted or Running and its deadline has come (R139), deadlines being enforced (R153). -/
def State.isPast (s : State) (i : Item) : Bool :=
  !(i.state == .ended) && decide (i.deadline ≤ s.time.ns) && !s.failing

/-! ### Dialogues that fire -/

/-- Both conditions of R148 hold for an Open dialogue. -/
def State.mayFire (s : State) (d : Dialogue) : Bool :=
  d.state == .open_ && decide (d.expiry ≤ s.time.ns) &&
    s.items.all (fun i => !(i.channel == d.channel && decide (i.stamp < d.expiry)) || i.state == .ended)

/-- Before another dialogue in the order of R150: EXPIRY, then DIALOGUE_OPEN JSN. -/
def Dialogue.before (a b : Dialogue) : Bool := decide (a.expiry < b.expiry) || (a.expiry == b.expiry && decide (a.openJsn < b.openJsn))

/-- Firing is not held: not under FAIL while unsynchronized, not for journal space, not in P3 (R150, R153). -/
def State.firingRuns (s : State) : Bool := !s.failing && decide (20 ≤ s.freeSpace 1000) && s.power.state != 3

/-- The first of a list of dialogues in the order of R150. -/
def firstToFire : List Dialogue → Option Dialogue
  | [] => none
  | d :: ds => some (ds.foldl (fun b x => if x.before b then x else b) d)

/-- Size of the remnant table (R144). -/
def remnantMax : Nat := 262144

/-- An expired dialogue becomes a remnant; a full table loses its oldest (R144). -/
def State.addRemnant (s : State) (d : Dialogue) : State :=
  let r : Remnant := ⟨d.stream, d.handle, d.channel, d.key, d.context, d.expiry, s.time.ns, d.openJsn⟩
  let l := s.remnants ++ [r]
  { s with remnants := if remnantMax < l.length then l.drop 1 else l }

/-- A dialogue fires: its EXPIRY record, the remnant, and the work item (R144, R148, R151). -/
def State.fire (s : State) (d : Dialogue) : State :=
  let jsn := s.nextJsn d.stream
  let origin := W512.fld d.context 30 2 % 4096
  let prog := ((s.chan origin).map (fun c => c.program)).getD 0
  let stamp := s.time.ns
  let deadline := stamp + d.budget
  let s := s.appendRaw d.stream 6 origin jsn
    (mkTf [(32, 4, d.handle.toNat), (36, 4, s.bizDate.toNat), (40, 8, deadline), (48, 8, d.openJsn)]) (W512.bytes d.context)
  let s := (s.dropDialogues (fun x => x == d)).addRemnant d
  let item : Item :=
    { stream := d.stream, jsn := jsn, kind := .expiry, channel := origin, stamp := stamp, deadline := deadline
      orderKey := BitVec.ofNat 64 (W512.fld d.context 32 8), progArg := 0, userTag := 0, idx := 0, date := s.bizDate
      adopted := decide (1 < ((s.stream d.stream).map (fun x => x.adoption)).getD 1)
      len := 64, win := 0, granules := 0, handle := d.handle, openJsn := d.openJsn, context := d.context
      program := prog, gen := (s.genAt prog stamp).map (fun g => g.gen) }
  ({ s with items := s.items ++ [item] }).refreshReady

/-! ### What is due at an append slot -/

/-- A thing that happens at an append slot. -/
inductive Due where
  | cut (i : Nat)
  | key (i : Nat)
  | miss (stream jsn : Nat)
  | expiry (d : Dialogue)
  deriving DecidableEq, Repr

/-- The calendar's records may be appended to the package's own stream now (R178); in P3 they wait for the exit from P3
(R500). -/
def State.calendarRuns (s : State) (exempt : Bool) : Bool :=
  s.power.state != 3 && (match s.home with | some id => s.appendOk id 128 exempt | none => false)

/-- The dialogue that fires next, where one does (R148, R150). -/
def State.dueDialogue (s : State) : Option Dialogue :=
  if s.firingRuns then firstToFire (s.dialogues.filter (fun d => s.mayFire d && s.appendOk d.stream 128 false)) else none

/-- What is due, with its instant, in the order cut-offs, rollovers, deadlines and, where `fires` says so, the firing of
dialogues (R121, R133, R135, R139). -/
def State.dues (s : State) (fires : Bool) : List (Nat × Due) :=
  (if s.calendarRuns true then
    (s.cal.cut.filter (fun e => decide (e.2.instant ≤ s.time.ns))).map (fun e => (e.2.instant, Due.cut e.1)) else []) ++
  (if s.calendarRuns false then
    (s.cal.key.filter (fun e => decide (e.2.instant ≤ s.time.ns))).map (fun e => (e.2.instant, Due.key e.1)) else []) ++
  (s.items.filter (fun i => s.isPast i && s.appendOk i.stream 64 true)).map (fun i => (i.deadline, Due.miss i.stream i.jsn)) ++
  (if fires then s.dueDialogue.toList.map (fun d => (d.expiry, Due.expiry d)) else [])

/-- The first of what is due by instant. -/
def earliest : List (Nat × Due) → Option (Nat × Due)
  | [] => none
  | d :: ds => some (ds.foldl (fun b x => if x.1 < b.1 then x else b) d)

/-- A cut-off applied: the CUTOFF record, the new business date and the event (R131 to R133, R425). -/
def State.applyCutoff (s : State) (idx : Nat) : State :=
  match tget s.cal.cut idx, s.home with
  | some e, some id =>
    let s := s.appendRaw id 7 chNone 0
      (mkTf [(32, 4, e.date.toNat), (36, 4, s.bizDate.toNat), (40, 8, e.instant), (48, 1, idx)]) []
    ({ s with bizDate := e.date, cal := { s.cal with cut := terase s.cal.cut idx } }).raiseAll 18 idx
  | _, _ => s

/-- Cached copies of a slot's key purged on every bench (R251, R257). -/
def State.purgeKey (s : State) (slot : Nat) : State :=
  [0, 1, 2, 3].foldl (fun t b => t.modBench b (fun x => { x with keyCache := x.keyCache.filter (fun c => c.1 != slot) })) s

/-- The last generation a slot can reach (R243). -/
def genMax : Nat := 0xFFFFFFFF

/-- A slot's token generation rises by 1, never past the last (R135, R243, R257). -/
def State.raiseSlotGen (s : State) (n : Nat) : State :=
  let v := s.vslot n
  (s.setVslot n { v with gen := min genMax (v.gen + 1) }).purgeKey n

/-- A key rollover applied: the generation, the CONFIG record and the event (R131, R135, R168, R425). -/
def State.applyRollover (s : State) (idx : Nat) : State :=
  match tget s.cal.key idx, s.home with
  | some e, some id =>
    let body := leBytes 1 2 ++ leBytes 1 0 ++ leBytes 2 idx ++ leBytes 4 e.slot ++ leBytes 8 e.instant ++ leBytes 16 0
    let s := if (s.vslot e.slot).gen = genMax then s.logErr 2 11 0xFFFF 0 else s.raiseSlotGen e.slot
    let s := s.appendConfig id 3 0 0 e.slot 0 0 chNone body
    ({ s with cal := { s.cal with key := terase s.cal.key idx } }).raiseAll 19 e.slot
  | _, _ => s

/-- One due thing done. -/
def State.doDue (s : State) : Due → State
  | .cut i => s.applyCutoff i
  | .key i => s.applyRollover i
  | .miss st j => s.missItem st j
  | .expiry d => s.fire d

/-- What is due, done in order of instant. -/
def State.doDues (fires : Bool) : Nat → State → State
  | 0, s => s
  | n + 1, s =>
    match earliest (s.dues fires) with
    | none => s
    | some d => State.doDues fires n (s.doDue d.2)

/-- How many things can be due. -/
def State.dueMost (s : State) : Nat := s.cal.cut.length + s.cal.key.length + s.items.length + 2 * s.dialogues.length

/-- An append slot opens: what is due by now is appended first, in order of instant (R133, R135, R139). -/
def State.openSlot (s : State) : State := s.doDues false s.dueMost

/-- After a forward step, and on the exit from P3, what fell into the interval happens in order of instant, the firing of
dialogues too (R121, R154, R500). -/
def State.passOver (s : State) : State := s.doDues true s.dueMost

/-! ### Appends that are held -/

/-- The stream of an append that is held. -/
def Owed.stream : Owed → Nat
  | .config st _ _ _ _ _ => st
  | .ending st _ _ _ => st
  | .seal st => st

/-- The bytes an append that is held may take. -/
def Owed.size : Owed → Nat
  | .config _ _ _ _ _ _ => 128
  | .ending _ _ _ _ => 64
  | .seal _ => 3776

/-- R178 lets the append below 0.5 %: all but the record for a joining twin. -/
def Owed.exempt : Owed → Bool
  | .config _ source _ _ _ _ => source == 4
  | _ => true

/-- The append made. -/
def State.pay (s : State) : Owed → State
  | .config st source op cmd event body => s.appendConfig st source op cmd 0 event 0 chNone body
  | .ending st jsn status result => s.endItem st jsn status result
  | .seal st => s.sealNow st

/-- An append that the device makes of itself: at once, or held behind what is held already (R35, R161, R178). -/
def State.owe (s : State) (o : Owed) : State :=
  if s.appendOk o.stream o.size o.exempt then s.pay o else { s with owed := s.owed ++ [o] }

/-- Held appends made in order, as far as they can be (R35); those of a stream that is no longer held are void. -/
def State.payOwed : Nat → State → State
  | 0, s => s
  | n + 1, s =>
    match s.owed with
    | [] => s
    | o :: rest =>
      let t := { s with owed := rest }
      if !s.holds o.stream then State.payOwed n t
      else if s.canAppend o.stream o.size o.exempt then State.payOwed n (t.openSlot.pay o)
      else s

/-- A CONFIG record with SOURCE 0x04 in the package's own stream (R168, R194), at an append slot of its own. -/
def State.deviceConfig (s : State) (event : Nat) : State :=
  match s.home with
  | none => s
  | some id => s.openSlot.owe (.config id 4 0 0 event s.eventNow)

/-- Items past their deadline missed in the JSN order of their records (R141, R153). -/
def State.missPassed (s : State) : State :=
  s.items.foldl (fun t i => if t.isPast i then t.owe (.ending i.stream i.jsn stMissed 0) else t) s

/-- Time quality judged again; on leaving unsynchronized under FAIL the deadlines passed are missed at once
(R126, R153). -/
def State.judge (s : State) : State :=
  let was := s.failing
  let s := s.evalQuality
  if was && !s.failing then s.missPassed else s

/-- What follows an edge or a transfer: after a forward step all that it passed over happens, the firing of dialogues too, else
only what is due at the slot; then time quality is judged (R121, R126, R154). -/
def State.afterStep (s before : State) : State :=
  (if before.time.ns < s.time.ns then s.passOver else s.openSlot).judge

end Sys2Proof.Machine
end

