-- ==== Sys2Proof/Machine/Sequencer.lean ====
section
/-!
DEFINITION. The completion sequencer (R26, R33, R100, R101): completion entries (R102, R103), outbound messages and
buffers, the release of completions into the queues of their rings, the end of an acceptance (R37, R94, R96), and what
becomes possible when a record becomes durable.
-/

namespace Sys2Proof.Machine

/-! ### Entries -/

/-- Bytes 16 to 31 of an entry from bytes 16 to 23, 24 to 27 and 28 to 31 (R103). -/
def entryBody (lo mid hi : Nat) : BitVec 128 := BitVec.ofNat 128 (lo % 2 ^ 64 + (mid % 2 ^ 32) * 2 ^ 64 + (hi % 2 ^ 32) * 2 ^ 96)

/-- A status that R112 names. -/
def stDescFormat : Nat := 0x0101
/-- LENGTH_RANGE (R112). -/
def stLengthRange : Nat := 0x0102
/-- BUFFER_RANGE (R112). -/
def stBufferRange : Nat := 0x0103
/-- CHANNEL_STATE (R112). -/
def stChannelState : Nat := 0x0104
/-- DEADLINE_PAST (R112). -/
def stDeadlinePast : Nat := 0x0105
/-- OUTPUT_SPACE (R112). -/
def stOutputSpace : Nat := 0x0106
/-- DMA_FAULT (R112). -/
def stDmaFault : Nat := 0x0107
/-- DOORBELL_RANGE (R112). -/
def stDoorbellRange : Nat := 0x0108
/-- BUFFER_LIMIT (R112). -/
def stBufferLimit : Nat := 0x0109
/-- DIALOGUE_EXPIRED (R112). -/
def stDlgExpired : Nat := 0x0302
/-- PROGRAM_ABSENT (R112). -/
def stProgAbsent : Nat := 0x0502

/-- The IN_DONE of a MSG_IN that is rejected or could not be read (R91, R539). -/
def rejectEntry (ch status : Nat) (tag : W) (idx : BitVec 32) : CEntry :=
  { kind := 1, status := status, channel := ch, jsn := 0, body := entryBody tag.toNat idx.toNat 0 }

/-- The IN_DONE of an item (R103, R151). -/
def doneEntry (i : Item) : CEntry :=
  { kind := 1, status := i.status, channel := i.channel, jsn := i.endJsn
    body := entryBody i.userTag.toNat i.idx.toNat i.result.toNat, item := some (i.stream, i.jsn) }

/-- An OUT_READY that returns a buffer (R92, R93, R100). -/
def bufferEntry (ch status jsn len src : Nat) (tag : W) : CEntry :=
  { kind := 2, status := status, channel := ch, jsn := jsn, body := entryBody tag.toNat len src }

/-- A MARKER (R84, R93). -/
def markerEntry (ch status : Nat) (tag : W) (idx : BitVec 32) (op : Nat) : CEntry :=
  { kind := 4, status := status, channel := ch, jsn := 0, body := entryBody tag.toNat idx.toNat op }

/-- An ACCEPTED notice (R96). -/
def noticeEntry (i : Item) : CEntry :=
  { kind := 3, status := 0, channel := i.channel, jsn := i.jsn, body := entryBody i.userTag.toNat i.idx.toNat 0 }

/-- An entry released to a ring: it is posted in this order (R106). -/
def State.release (s : State) (ring : Nat) (e : CEntry) : State := s.modRing ring (fun x => { x with queue := x.queue ++ [e] })

/-- An entry released to the ring of a channel. -/
def State.releaseOn (s : State) (ch : Nat) (e : CEntry) : State :=
  match s.chan ch with
  | none => s
  | some x => s.release x.cq e

/-! ### The consumed index -/

/-- The port of a channel (R48). -/
def State.chanPort (s : State) (x : Channel) : Nat := ((s.ring x.cq).map (fun r => r.port)).getD 0

/-- Writes to host memory for a channel may be made: its port is committed and masters, and the package acts for its
stream (R48, R51, R111, R196). -/
def State.mayWriteFor (s : State) (port stream : Nat) : Bool :=
  (s.port port).masters && (s.port port).committed && s.actsFor stream

/-- The consumed-index word written, or left to be written when its port can (R94). -/
def State.writeConsumed (s : State) (ch : Nat) : State :=
  match s.chan ch with
  | none => s
  | some x =>
    let p := s.chanPort x
    if s.mayWriteFor p x.stream then
      (s.emitOut (.hostWrite p x.consumedAddr (leBytes 8 x.consumed.toNat) false)).modChan ch (fun y => { y with late := false })
    else s.modChan ch (fun y => { y with late := true })

/-- Consumed-index words that could not be written through a port before are written now (R94). -/
def State.writeLate (s : State) (p : Nat) : State :=
  s.chans.foldl (fun t c => if c.2.late && t.chanPort c.2 == p && t.mayWriteFor p c.2.stream then t.writeConsumed c.1 else t) s

/-- A descriptor consumed: the count and the word advance (R94). -/
def State.consume (s : State) (ch : Nat) : State :=
  (s.modChan ch (fun x => { x with consumed := x.consumed + 1 })).writeConsumed ch

/-! ### Outbound messages -/

/-- An EGRESS record's OUT_READY is held, released, posted or replayed somewhere. -/
def State.emitInFlight (s : State) (stream jsn : Nat) : Bool :=
  s.chans.any (fun c => c.2.outq.any (fun m => m.stream == stream && m.jsn == jsn)) ||
    s.rings.any (fun r => (r.2.queue ++ r.2.entries ++ r.2.replay).any (fun e => e.egress == (stream, jsn)))

/-- The next message of an ended item that is not posted and whose predecessors are (R26). -/
def Item.nextEmit (i : Item) : Option Emit := i.emits.find? (fun e => !e.posted)

/-- A message may be written as far as its ordering domain goes (R101). -/
def State.domainAllows (s : State) (i : Item) (e : Emit) : Bool :=
  (s.earlier i).all (fun j => j.state == .ended &&
    (j.status != 0 || (s.durable j.stream j.endJsn && j.emits.all (fun x => x.ch != e.ch || x.posted))))

/-- The ended item's results may be posted: its DONE record is durable (R26). -/
def State.postable (s : State) (i : Item) : Bool := i.state == .ended && s.durable i.stream i.endJsn

/-- An item's next message joins the messages for its channel (R100, R101). -/
def State.queueOut (s : State) (i : Item) : State :=
  if !(s.postable i && i.status == 0) then s else
  match i.nextEmit with
  | none => s
  | some e =>
    if s.domainAllows i e && !s.emitInFlight i.stream e.jsn then
      s.modChan e.ch (fun x => { x with outq := x.outq ++ [⟨i.stream, i.jsn, e.jsn, e.len, i.channel⟩] })
    else s

/-- The body of an EGRESS record, read back from the journal (R100). -/
def State.egressBody (s : State) (stream jsn : Nat) : Bytes := ((s.findRecord stream jsn).map (fun r => r.body)).getD []

/-- The OUT_READY of a message with the buffer it is written into (R100, R103). -/
def State.outEntry (s : State) (ch : Nat) (m : OutMsg) (b : Buffer) : CEntry :=
  { kind := 2, status := 0, channel := ch, jsn := m.jsn, body := entryBody b.tag.toNat m.len m.src
    item := some (m.stream, m.item), egress := (m.stream, m.jsn), write := some (s.egressBody m.stream m.jsn, b) }

/-- An OUT_READY to be replayed that has no buffer yet (R109). -/
def CEntry.needsBuffer (e : CEntry) : Bool := e.kind == 2 && e.egress != (0, 0) && e.write.isNone

/-- A replay for a channel waits for a buffer: later messages of the channel wait behind it (R100, R109). -/
def State.replayWaits (s : State) (ch : Nat) (x : Channel) : Bool :=
  (s.ring x.cq).any (fun r => r.replay.any (fun e => e.needsBuffer && e.channel == ch))

/-- Buffers taken for the front messages of a channel (R100): one that is too small is returned. -/
def State.fillBuffers : Nat → Nat → State → State
  | 0, _, s => s
  | n + 1, ch, s =>
    match s.chan ch with
    | none => s
    | some x =>
      match x.outq, x.bufs with
      | m :: ms, b :: bs =>
        if m.len ≤ b.len then
          State.fillBuffers n ch ((s.modChan ch (fun y => { y with outq := ms, bufs := bs })).release x.cq (s.outEntry ch m b))
        else
          State.fillBuffers n ch ((s.modChan ch (fun y => { y with bufs := bs, outSpace := y.outSpace + 1 })).release x.cq
            (bufferEntry ch stOutputSpace m.jsn m.len m.src b.tag))
      | _, _ => s

/-- Every channel's buffers taken, where no replay of the channel is before its messages (R100, R109). -/
def State.fillAll (s : State) : State :=
  s.chans.foldl (fun t c => if t.replayWaits c.1 c.2 then t else t.fillBuffers (c.2.bufs.length + 1) c.1) s

/-! ### IN_DONE and MARKER -/

/-- An item's IN_DONE is released once its messages are posted and every earlier item of its domain is done with
(R33, R101). An EXPIRY item that ends with OK has none (R151). -/
def State.releaseDone (s : State) (i : Item) : State :=
  if i.donePosted || !s.postable i then s
  else if i.status = 0 ∧ i.nextEmit.isSome then s
  else if (s.earlier i).any (fun j => !j.donePosted) then s
  else
    let s := s.modItem i.stream i.jsn (fun x => { x with donePosted := true })
    if i.kind == .expiry && i.status == 0 then s else s.releaseOn i.channel (doneEntry i)

/-- An index that lies before another in a ring, the counts being free-running. -/
def idxBefore (a b : BitVec 32) : Bool := decide ((b - a).toNat < 2 ^ 31) && a != b

/-- The MARKER of a CTRL may be posted (R93). -/
def State.markReady (s : State) (ch : Nat) (x : Channel) (m : Mark) : Bool :=
  if m.op = 1 then
    !(x.bufs.any (fun b => idxBefore b.idx m.idx)) &&
      !(s.items.any (fun i => i.kind == .message && i.channel == ch && !i.donePosted && idxBefore i.idx m.idx))
  else s.durable x.stream m.jsn

/-- MARKERs released that are ready. -/
def State.releaseMarks (s : State) (ch : Nat) : State :=
  match s.chan ch with
  | none => s
  | some x =>
    let ready := x.marks.filter (s.markReady ch x)
    let s := ready.foldl (fun t m => t.release x.cq (markerEntry ch 0 m.tag m.idx m.op)) s
    s.modChan ch (fun y => { y with marks := y.marks.filter (fun m => !ready.contains m) })

/-- Everything that may be released is (R26, R33, R100, R101). What one frame makes postable goes in order of acceptance (log
108). -/
def State.releaseAll (s : State) : State :=
  let s := s.items.foldl (fun t i => t.queueOut ((t.item i.stream i.jsn).getD i)) s
  let s := s.fillAll
  let s := s.items.foldl (fun t i => t.releaseDone ((t.item i.stream i.jsn).getD i)) s
  s.chans.foldl (fun t c => t.releaseMarks c.1) s

/-! ### Granules freed (R97) -/

/-- The granules of one emitted message freed where its record is durable with no adequate buffer on hand. -/
def State.freeEmit (s : State) (i : Item) (e : Emit) : State :=
  if e.granules = 0 || !s.durable i.stream e.jsn then s else
  let fits : Bool := ((s.chan e.ch).map (fun x => x.bufs.any (fun b => decide (e.len ≤ b.len)))).getD false
  let writing := s.rings.any (fun r => r.2.queue.any (fun q => q.egress == (i.stream, e.jsn)))
  if fits || writing then s
  else (s.freeWindow e.win).modItem i.stream i.jsn (fun x =>
    { x with emits := x.emits.map (fun y => if y.jsn = e.jsn then { y with granules := 0 } else y) })

/-- Granules whose charge R97 ends now: those of a message whose DONE record is durable, and those of outbound messages
left in the journal. -/
def State.freeCharges (s : State) : State :=
  s.items.foldl (fun t i =>
    let t := if i.granules != 0 && t.postable i then
        (t.freeWindow i.win).modItem i.stream i.jsn (fun x => { x with granules := 0 })
      else t
    if i.state == .ended && i.status != 0 then t else i.emits.foldl (fun u e => u.freeEmit i e) t) s

/-! ### Acceptance completes -/

/-- An item is accepted once its ACCEPT record is durable: its descriptor is consumed and its notice released
(R37, R94, R96). -/
def State.finishAccept (s : State) (stream jsn : Nat) : State :=
  match s.item stream jsn with
  | none => s
  | some i =>
    let s := (s.modChan i.channel (fun x => { x with cur := none, accepted := x.accepted + 1, lastAccept := jsn })).consume i.channel
    if i.noticed then s.releaseOn i.channel (noticeEntry i) else s

/-- A slot of the core holds an item that has not ended (R218, R500). -/
def Core.occupied (k : Core) : Bool := k.slots.toArray.any (fun sl => !(sl.st == .free) && !(sl.st == .ended))

/-- A core parked (R420). -/
def State.parkCore (s : State) (c : Nat) : State :=
  if (s.core c).run = .active then s.modCore c (fun k => { k with run := .parked, parkFrom := none })
  else s.modCore c (fun k => { k with parkFrom := none })

/-- In P2 the cores of a bench with no ready or running item park (R501). -/
def State.parkIdle (s : State) : State :=
  if s.power.state ≠ 2 ∨ s.power.target.isSome then s
  else (s.cores.filter (fun c => c.2.run == .active && s.benchLoad (benchOf c.1) == 0)).foldl (fun t c => t.parkCore c.1) s

/-- What durable records make possible: held appends are made, a held acceptance completes, granules are freed, completions
are released, items become ready (R26, R35, R37, R97, R214). -/
def State.settle (s : State) : State :=
  let s := s.payOwed s.owed.length
  let s := match s.acceptHeld with
    | none => s
    | some h => if s.durable h.stream h.jsn then { s with acceptHeld := none }.finishAccept h.stream h.jsn else s
  ((s.freeCharges.releaseAll).refreshReady).parkIdle

/-! ### Delivery -/

/-- A completion of the item is waiting, posted and undelivered, or to be replayed. -/
def State.hasEntries (s : State) (i : Item) : Bool :=
  s.rings.any (fun r => (r.2.queue ++ r.2.entries ++ r.2.replay).any (fun e => e.item == some (i.stream, i.jsn)))

/-- The item is over: every completion posted for it has been delivered (R174). -/
def State.isOver (s : State) (i : Item) : Bool :=
  i.donePosted && (i.status != 0 || i.emits.all (fun e => e.posted)) && !s.hasEntries i

/-- A slot holds the item: its program may still run, to meet R234 (R218). -/
def State.isHeld (s : State) (i : Item) : Bool :=
  s.cores.any (fun c => c.2.slots.toArray.any (fun sl => sl.item == some (i.stream, i.jsn)))

/-- Items that are over leave the table once no slot holds them. -/
def State.reap (s : State) : State := { s with items := s.items.filter (fun i => !s.isOver i || s.isHeld i) }

end Sys2Proof.Machine
end

