-- ==== Sys2Proof/Machine/ItemOps.lean ====
section
/-!
DEFINITION. What firmware and the hub do to items and cores that fail: PROGRAM_FAULT (R239, R241), DEVICE_FAULT after a
repeated machine check (R411), the rerun of an item (R27, R138), and a core that leaves service (R24, R39, R410, R421).
-/

namespace Sys2Proof.Machine

/-- What the error-log entry of a faulted item reports: PC, saved MODE and RUN (R239, R506). -/
def faultDetail (pc : Nat) (mode : W) (run : Nat) : List W := [BitVec.ofNat 64 pc, mode, BitVec.ofNat 64 run]

/-- An item ends with a fault (R239, R411): what is due at the slot comes first; an item that has ended by then is only
logged and counted, as R509 counts faults (R241). -/
def State.itemFault (s : State) (stream jsn status result pc : Nat) (mode : W) : State :=
  let s := s.openSlot
  match s.item stream jsn with
  | none => s
  | some i =>
    let s := s.logErr 2 10 i.program jsn (faultDetail pc mode i.run)
    if i.state == .ended then
      (({ s with counters := { s.counters with faults := s.counters.faults + 1 } } : State).modChan i.channel (fun c => { c with faults := c.faults + 1 })).modBench i.bench
        (fun b => { b with programFaults := b.programFaults + 1 })
    else (s.owe (.ending stream jsn status result)).settle

/-- Firmware ends a faulted item with PROGRAM_FAULT (R239). -/
def State.programFault (s : State) (stream jsn vec cause pc : Nat) (mode : W) : State :=
  s.itemFault stream jsn stProgFault (vec % 256 + (cause % 256) * 256) pc mode

/-- Firmware ends an item after a repeated machine check at one frame (R411). -/
def State.itemDeviceFault (s : State) (stream jsn cause pc : Nat) (mode : W) : State :=
  s.itemFault stream jsn stDevFault (14 + (cause % 256) * 256) pc mode

/-- The number of an item's next run (R167): one more when the run it had wrote records. -/
def Item.rerun (i : Item) : Nat :=
  if i.emits.isEmpty && i.opens.isEmpty && i.closed.isEmpty then i.run else i.run + 1

/-- An item as it is Accepted again, its run void (R27, R138). -/
def Item.again (i : Item) : Item :=
  { i with run := i.rerun, state := .accepted, ready := false, emits := [], opens := [], claims := [], closed := [] }

/-- An item returns to Accepted, to run again (R27, R138, R144). -/
def State.itemToAccepted (s : State) (stream jsn : Nat) : State :=
  match s.item stream jsn with
  | none => s
  | some i =>
    if i.state == .ended then s
    else ((((s.dropItemWaits i).voidRun i).modItem stream jsn Item.again)).refreshReady

/-- The bench has its spare core left (R23, R39). -/
def State.spareCore (s : State) (b : Nat) : Bool :=
  !(s.cores.any (fun c => benchOf c.1 == b && c.2.position == some 24)) &&
    !(s.ident.deconf.any (fun d => d.1 == PartRef.core b 24))

/-- A core at its reset values, with the telemetry counters that only power-on clears (R490, R509). -/
def Core.fresh (k : Core) : Core :=
  { retired := k.retired, cycFrom := k.retired, residue := k.residue, retries := k.retries, borrowedMuls := k.borrowedMuls
    atomicLong := k.atomicLong, unitLong := k.unitLong }

/-- A core leaves service (R24, R39, R168, R410, R421): it is on the deconfiguration list, its engine commands are cancelled,
its queued events return to their sources, its items run again, the poisoned lines of its SRAM go with it, and the bench's spare, if left, takes its number. -/
def State.coreGone (s : State) (c : Nat) : State :=
  let b := benchOf c
  let s := s.dropWaits c
  let k := s.core c
  let items := k.slots.toList.filterMap (fun sl => sl.item)
  let spare := s.spareCore b && k.position != some 24
  let s := { s with
    ident := { s.ident with deconf := s.ident.deconf ++ [(PartRef.core b (k.position.getD (c % 24)), s.elogNext - 1)] }
    poisoned := s.poisoned.filter (fun l => l / 2 ^ 42 != c + 1) }
  let s := s.modBench b (fun x => { x with
    cipherQ := x.cipherQ.filter (fun q => q.core != c), sigQ := x.sigQ.filter (fun q => q.core != c) })
  let s := items.foldl (fun t p => t.itemToAccepted p.1 p.2) s
  let s := s.requeueEvents c
  let s := s.setCore c { k.fresh with run := if spare then .active else .deconfigured, position := if spare then some 24 else k.position }
  let s := if spare then s.raise b 66 c else s
  (s.deviceConfig 4).evalEvc b

end Sys2Proof.Machine
end

