-- ==== Sys2Proof/Machine/Rings.lean ====
section
/-!
DEFINITION. Completion rings: posting (R26, R104, R107, R109), moderation (R110, R111), head words (R105), ring recovery
(R109), and the commands over them.
-/

namespace Sys2Proof.Machine

/-! ### Signals -/

/-- A ring is signalled: the count is cleared and the timer stopped (R110). -/
def State.signalRing (s : State) (n : Nat) : State :=
  match s.ring n with
  | none => s
  | some r =>
    let s := s.modRing n (fun x => { x with unsig := 0, firstUnsig := 0 })
    if r.irq then s.msix r.port n else s

/-- Moderation after an entry is posted (R110); after QUIESCE every entry is signalled at once (R503). -/
def State.moderate (s : State) (n : Nat) : State :=
  match s.ring n with
  | none => s
  | some r =>
    let s := s.modRing n (fun x => { x with
      unsig := x.unsig + 1, firstUnsig := if x.unsig = 0 then s.time.ns else x.firstUnsig })
    if s.power.quiesced || r.holdoff = 0 || (r.count != 0 && decide (r.count ≤ r.unsig + 1)) then s.signalRing n else s

/-! ### Posting -/

/-- The bytes of an entry in its slot (R102). -/
def CEntry.bytes (e : CEntry) (phase : Nat) : Bytes :=
  leBytes 1 e.kind ++ leBytes 1 phase ++ leBytes 2 e.status ++ leBytes 2 (e.channel % 4096) ++ leBytes 2 0 ++
    leBytes 8 e.jsn ++ leBytes 16 e.body.toNat

/-- Entries of a ring. -/
def Ring.size (r : Ring) : Nat := 2 ^ r.log2

/-- The phase of count `n`: 1 in even passes (R102). -/
def Ring.phase (r : Ring) (n : BitVec 32) : Nat := if (n.toNat / r.size) % 2 = 0 then 1 else 0

/-- Posted and undelivered entries. -/
def Ring.outstanding (r : Ring) : Nat := (r.posted - r.head).toNat

/-- The ring has room for another entry (R104). -/
def Ring.room (r : Ring) : Bool := decide (r.outstanding < r.size)

/-- The completion sequencer may post on a ring (R48, R51, R111, R163, R196, R492, R497). -/
def State.mayPost (s : State) (r : Ring) : Bool :=
  s.mayWriteFor r.port r.stream && s.su.ready && !s.su.halted && !s.su.flushing && !s.su.sysResetLow &&
    s.power.fwSwitch.isNone && r.recovering.isNone

/-- An emitted message is written into its host buffer: its granules are freed and its OUT_READY counts as posted
(R97, R101). -/
def State.emitPosted (s : State) (stream jsn : Nat) : State :=
  match s.items.find? (fun i => i.stream == stream && i.emits.any (fun e => e.jsn == jsn)) with
  | none => s
  | some i =>
    let s := i.emits.foldl (fun t e => if e.jsn = jsn ∧ e.granules ≠ 0 then t.freeWindow e.win else t) s
    let done (e : Emit) : Emit := if e.jsn = jsn then { e with posted := true, granules := 0 } else e
    s.modItem i.stream i.jsn (fun x => { x with emits := x.emits.map done })

/-- An entry is written at the ring's next count, after the body it reports (R44, R104). -/
def State.putEntry (s : State) (n : Nat) (e : CEntry) : State :=
  match s.ring n with
  | none => s
  | some r =>
    let s := match e.write with
      | none => s
      | some (body, b) => s.emitOut (.hostWrite r.port b.addr body (s.port r.port).relaxed)
    let at_ := r.addr + BitVec.ofNat 64 (32 * (r.posted.toNat % r.size))
    let s := s.emitOut (.hostWrite r.port at_ (e.bytes (r.phase r.posted)) false)
    let s := s.modRing n (fun x => { x with posted := x.posted + 1, entries := x.entries ++ [{ e with write := none }] })
    if e.kind = 2 ∧ e.egress ≠ (0, 0) then
      (s.modChan e.channel (fun c => { c with outPosted := c.outPosted + 1 })).emitPosted e.egress.1 e.egress.2
    else s

/-- The message length an OUT_READY reports (R103). -/
def CEntry.len (e : CEntry) : Nat := nbits e.body.toNat 64 32

/-- SRC_CHANNEL of an OUT_READY (R103). -/
def CEntry.src (e : CEntry) : Nat := nbits e.body.toNat 96 32

/-- Every completion of the entry's item that reports a record of lower JSN has been posted (R26). -/
def State.inTurn (s : State) (e : CEntry) : Bool :=
  match e.item.bind (fun p => s.item p.1 p.2) with
  | none => true
  | some i =>
    if e.kind = 1 then i.status != 0 || i.nextEmit.isNone
    else i.emits.all (fun x => x.posted || decide (e.jsn ≤ x.jsn))

/-- The next replay of a ring is posted, once its item's earlier completions are on their rings (R26); one that needs a buffer
takes it as R100 states, or waits (R109). -/
def State.postReplay (s : State) (n : Nat) (e : CEntry) (rest : List CEntry) : State :=
  if !s.inTurn e then s
  else if e.needsBuffer then
    match (s.chan e.channel).bind (fun c => c.bufs.head?) with
    | none => s
    | some b =>
      let s := s.modChan e.channel (fun c => { c with bufs := c.bufs.drop 1 })
      if e.len ≤ b.len then
        let e' := { e with
          body := entryBody b.tag.toNat e.len e.src, write := some (s.egressBody e.egress.1 e.egress.2, b) }
        (s.modRing n (fun x => { x with replay := rest })).putEntry n e'
      else
        (s.modChan e.channel (fun c => { c with outSpace := c.outSpace + 1 })).putEntry n
          (bufferEntry e.channel stOutputSpace e.jsn e.len e.src b.tag)
  else (s.modRing n (fun x => { x with replay := rest })).putEntry n e

/-- One entry posted on a ring, where one may be: replays first, then the entries released in order (R106, R109). The
ring is signalled once, after the last replay, and otherwise under moderation (R110). -/
def State.postOne (s : State) (n : Nat) : State :=
  match s.ring n with
  | none => s
  | some r =>
    if !(s.mayPost r && r.room) then s
    else match r.replay, r.queue with
    | e :: rest, _ =>
      let s := s.postReplay n e rest
      if (s.ring n).any (fun x => x.replay.isEmpty) then s.signalRing n else s
    | [], e :: rest => ((s.modRing n (fun x => { x with queue := rest })).putEntry n e).moderate n
    | [], [] => s

/-- COMPLETION_POST (R26, R104). -/
def execCompletionPost (ring : Nat) (s : State) : Out3 :=
  if 512 ≤ ring then .fault .noSuchUnit else .next ((s.postOne ring).settle)

/-- Entries posted on a ring until none can be, at most `fuel`. -/
def State.postMany : Nat → Nat → State → State
  | 0, _, s => s
  | fuel + 1, n, s =>
    let t := s.postOne n
    if (t.ring n).map (fun r => r.posted) = (s.ring n).map (fun r => r.posted) then t
    else State.postMany fuel n t.settle

/-- Every postable entry of the rings a condition names posted, and each of them with unsignalled entries signalled, where the
ring's port masters (R111, R503). -/
def State.postAll (s : State) (p : Ring → Bool) : State :=
  let rings := s.rings.filter (fun r => p r.2 && (s.port r.2.port).masters)
  let s := rings.foldl (fun t r => State.postMany (r.2.replay.length + r.2.queue.length + 4096) r.1 t) s
  rings.foldl (fun t r => if (t.ring r.1).any (fun x => x.unsig != 0) then t.signalRing r.1 else t) s

/-! ### Head words -/

/-- A head word is valid against the previous one and the posted count (R105). -/
def headValid (prev posted head : BitVec 32) : Bool := decide ((head - prev).toNat ≤ (posted - prev).toNat)

/-- Entries up to a head are delivered (R107). -/
def Ring.deliver (r : Ring) (head : BitVec 32) : Ring :=
  { r with entries := r.entries.drop (head - r.head).toNat, head := head }

/-- An invalid or failed read is recorded; the previous head stands (R105). -/
def State.headError (s : State) (n : Nat) : State := s.logErr 2 13 n 0

/-- A failed read through a ring's port is reported (R46). -/
def State.ringReadFails (s : State) (n : Nat) : State :=
  match s.ring n with
  | none => s
  | some r => s.readFails r.port

/-- IRQ_HOLDOFF_EXPIRY (R110, R111). -/
def execIrqHoldoffExpiry (ring : Nat) (s : State) : Out3 :=
  if 512 ≤ ring then .fault .noSuchUnit else
  .next (
    match s.ring ring with
    | none => s
    | some r =>
      if !r.irq || r.unsig = 0 || r.holdoff = 0 then s
      else
        let s := s.advanceTo (r.firstUnsig + r.holdoff * 256)
        if (s.port r.port).masters && s.actsFor r.stream then s.signalRing ring else s)

/-! ### Ring recovery -/

/-- An entry that reports a durable record and may be replayed (R109). -/
def CEntry.replays (e : CEntry) : Bool := (e.kind == 1 || e.kind == 2) && e.item.isSome

/-- A replay of an entry: status OK_REPLAY, the body to be written again (R109). -/
def CEntry.asReplay (e : CEntry) : CEntry := { e with status := 1, write := none }

/-- The RECOVERY entry (R103). -/
def recoveryEntry (ring jsn : Nat) (head : BitVec 32) (count cause : Nat) : CEntry :=
  { kind := 5, status := 0, channel := ring, jsn := jsn, body := entryBody head.toNat count cause }

/-- Messages held for buffers of a channel as replays without buffers. -/
def heldReplays (ch : Nat) (c : Channel) : List CEntry :=
  c.outq.map (fun m => { kind := 2, status := 1, channel := ch, jsn := m.jsn, body := entryBody 0 m.len m.src
                         item := some (m.stream, m.item), egress := (m.stream, m.jsn) })

/-- An entry that is delivered already leaves the queue of an adopted ring: its message counts as posted (R107). -/
def State.skipEntry (s : State) (e : CEntry) : State := if e.kind = 2 then s.emitPosted e.egress.1 e.egress.2 else s

/-- An adopter holds no earlier head of a ring: H is the word as read, or free where the read fails (R109, log 4). Of the
completions that the records report, those at counts below H are delivered and never posted again (R32, R107); at which
counts they were posted no record says, so how many those are is free (log 54). -/
def State.adoptHead (s : State) (n : Nat) (word : Option W) : State :=
  match s.ring n with
  | none => s
  | some r =>
    let h : BitVec 32 := (word.getD s.freeVal).setWidth 32
    let k := s.nextFree.freeVal.toNat % (r.fromLog + 1)
    let t := (r.queue.take k).foldl State.skipEntry s.nextFree.nextFree
    t.modRing n (fun x => { x with head := h, posted := h, queue := r.queue.drop k, fromLog := 0 })

/-- Buffers that entries not yet posted had taken for a channel (R109). -/
def heldBuffers (ch : Nat) (es : List CEntry) : List Buffer :=
  es.filterMap (fun e => if e.channel = ch ∧ e.egress ≠ (0, 0) then e.write.map (fun w => w.2) else none)

/-- A ring is recovered with a head word read and a cause (R109). Buffers are no longer held but in a recovery by
BIND_PORT, where those that unposted messages had taken are held again. -/
def State.recoverRing (s : State) (n cause : Nat) (word : Option W) : State :=
  let s := if cause = 4 then s.adoptHead n word else s
  match s.ring n with
  | none => s
  | some r =>
    let ok : Bool := match word with
      | none => false
      | some w => headValid r.head r.posted (w.setWidth 32)
    let s := if ok then s else (if word.isNone then s.ringReadFails n else s).headError n
    let h : BitVec 32 := if ok then (word.getD 0).setWidth 32 else r.head
    let r := r.deliver h
    let chans := s.chans.filter (fun c => c.2.cq == n)
    let replays := ((r.entries ++ r.replay ++ r.queue).filter CEntry.replays).map CEntry.asReplay ++
      chans.flatMap (fun c => heldReplays c.1 c.2)
    let first := match replays with
      | [] => s.nextJsn r.stream
      | e :: _ => e.jsn
    let s := chans.foldl (fun t c => t.modChan c.1 (fun x => { x with
      outq := [], bufs := if cause = 3 then heldBuffers c.1 r.queue ++ x.bufs else [] })) s
    let s := s.modRing n (fun _ => { r with
      posted := h, entries := [], replay := recoveryEntry n first h replays.length cause :: replays
      queue := r.queue.filter (fun e => !e.replays), unsig := 0, firstUnsig := 0, recovering := none })
    (s.raiseAll 35 (n + cause * 65536)).reap

/-- HEAD_WORD_READ (R105): items whose every completion is delivered are over (R174). A ring that awaits its recovery is
recovered by the read (R105, R109). -/
def execHeadWordRead (ring : Nat) (word : Option W) (s : State) : Out3 :=
  if 512 ≤ ring then .fault .noSuchUnit else
  .next (
    match s.ring ring with
    | none => s
    | some r =>
      if !(s.port r.port).masters || !(s.port r.port).committed then s
      else match r.recovering with
      | some cause => if s.actsFor r.stream then (s.recoverRing ring cause word).settle else s
      | none =>
      match word with
      | none => (s.ringReadFails ring).headError ring
      | some w =>
        let h : BitVec 32 := w.setWidth 32
        if headValid r.head r.posted h then ((s.modRing ring (fun x => x.deliver h)).reap).settle
        else s.headError ring)

/-- The head word that was read for a ring, from a list of reads. -/
def headOf (heads : List (Nat × Option W)) (n : Nat) : Option W := (heads.lookup n).getD none

end Sys2Proof.Machine
end

