-- ==== Sys2Proof/Machine/Intake.lean ====
section
/-!
DEFINITION. The intake: doorbells, arming and kicks (R83 to R87), descriptors (R88 to R96, R539), acceptance (R114), and
granules granted (R98).
-/

namespace Sys2Proof.Machine

/-! ### Doorbell groups -/

/-- The open channels of a doorbell group. -/
def State.groupChans (s : State) (g : Nat) : Tbl Channel := s.chans.filter (fun c => c.1 / 64 == g)

/-- The ports that carry an open channel of a group. -/
def State.groupPorts (s : State) (g : Nat) : List Nat :=
  [0, 1].filter (fun p => (s.groupChans g).any (fun c => s.chanPort c.2 == p))

/-- The arm word of a group written through one port (R79, R86, R196). -/
def State.writeArm (s : State) (g p : Nat) (armed : Bool) : State :=
  let x := s.port p
  if x.masters && x.committed && s.link.pair != 5 then
    s.emitOut (.hostWrite p (x.armBase + BitVec.ofNat 64 (64 * g))
      (leBytes 8 ((s.group g).armCount.toNat + (if armed then 2 ^ 32 else 0))) false)
  else s

/-- A group's entry changed. -/
def State.modGroup (s : State) (g : Nat) (f : Group → Group) : State := { s with groups := tset s.groups g (f (s.group g)) }

/-- The word read for a channel through its port. -/
def groupWord (rd : GroupRead) (port ch : Nat) : Option W :=
  (if port = 0 then rd.via0 else rd.via1).bind (fun l => l[ch % 64]?)

/-- A channel's doorbell word as read (R84): a word out of range is reported once, and nothing is fetched until a poll
finds it back within range. -/
def State.seeDoorbell (s : State) (ch : Nat) (w : BitVec 32) : State :=
  match s.chan ch with
  | none => s
  | some x =>
    let s := if w != x.doorbell then s.modGroup (ch / 64) (fun g => { g with lastChange := s.time.ns }) else s
    let out : Bool := decide (2 ^ x.sqLog2 < (w - x.consumed).toNat)
    let s := s.modChan ch (fun y => { y with doorbell := w, ranged := out })
    if out && !x.ranged then
      (s.releaseOn ch { kind := 4, status := stDoorbellRange, channel := ch, jsn := 0, body := entryBody 0 w.toNat 0 }).logErr 2 13 ch 0
    else s

/-- The failed reads of a group's words reported, one for each port that was read (R46). -/
def State.groupReadFails (s : State) (g : Nat) (rd : GroupRead) : State :=
  ((s.groupPorts g).filter (fun p => (s.port p).masters && (if p = 0 then rd.via0 else rd.via1).isNone)).foldl State.readFails s

/-- The doorbell words of a group as one read through each port returned them; a failed read shows nothing (R46, R85). -/
def State.seeGroup (s : State) (g : Nat) (rd : GroupRead) : State :=
  (s.groupChans g).foldl (fun t c =>
    let p := s.chanPort c.2
    if !(s.port p).masters then t
    else match groupWord rd p c.1 with
      | none => t
      | some w => t.seeDoorbell c.1 (w.setWidth 32)) (s.groupReadFails g rd)

/-- Polling runs: a port is committed and the device is in service (R85, R163). -/
def State.polls (s : State) : Bool :=
  s.su.ready && !s.su.halted && !s.su.flushing && !s.su.sysResetLow && ((s.port 0).committed || (s.port 1).committed)

/-- DOORBELL_POLL (R85): a live group with an open channel is read. -/
def execDoorbellPoll (g : Nat) (rd : GroupRead) (s : State) : Out3 :=
  if 64 ≤ g then .fault .noSuchUnit
  else .next (if s.polls && (s.group g).live && !(s.groupChans g).isEmpty then (s.seeGroup g rd).settle else s)

/-- A group stays or becomes live, its arm word written with ARMED 0 (R79, R86). -/
def State.disarm (s : State) (g : Nat) : State :=
  let s := s.modGroup g (fun x => { x with live := true, armed := false, lastChange := s.time.ns })
  (s.groupPorts g).foldl (fun t p => t.writeArm g p false) s

/-- Nothing is pending in a group's channels (step 1 of R86). -/
def State.groupIdle (s : State) (g : Nat) : Bool := (s.groupChans g).all (fun c => c.2.doorbell == c.2.consumed)

/-- A group's arm word can be written: through a port that carries an open channel of it, and not while FENCED (R86, R196). -/
def State.mayArm (s : State) (g : Nat) : Bool :=
  s.link.pair != 5 && (s.groupPorts g).any (fun p => (s.port p).masters && (s.port p).committed)

/-- GROUP_ARM (R86): after ARM_AFTER without a change the group is armed, unless the final read finds a change. -/
def execGroupArm (g : Nat) (rd : GroupRead) (s : State) : Out3 :=
  if 64 ≤ g then .fault .noSuchUnit else
  .next (
    let x := s.group g
    if !s.polls || !x.live || x.armed || s.armAfter = 0 || (s.groupChans g).isEmpty || !s.groupIdle g ||
        !s.mayArm g then s
    else
      let s := s.advanceTo (x.lastChange + s.armAfter * 1000)
      let s := s.modGroup g (fun y => { y with armed := true, live := false, armCount := y.armCount + 1 })
      let s := (s.groupPorts g).foldl (fun t p => t.writeArm g p true) s
      let t := s.seeGroup g rd
      if t.groupIdle g && (t.group g).lastChange == x.lastChange then t else (t.disarm g).settle)

/-- A kick of a group (R57, R86): an armed group is disarmed, and the words are read. -/
def State.kickGroup (s : State) (g : Nat) (rd : GroupRead) : State :=
  if (s.groupChans g).isEmpty then s
  else
    let s := if (s.group g).armed then s.disarm g else s
    (s.seeGroup g rd).settle

/-! ### Fetching -/

/-- The intake fetches for a channel now (R37, R84, R99, R163, R493, R497, R500, R503). -/
def State.fetches (s : State) (x : Channel) : Bool :=
  let full : Bool := match s.ring x.cq with
    | none => true
    | some r => !(decide (r.outstanding + r.replay.length + (if r.replay.isEmpty then 0 else r.queue.length) < r.size)) ||
        r.recovering.isSome
  s.polls && !s.su.fault && s.mayWriteFor (s.chanPort x) x.stream && !x.ranged && x.doorbell != x.consumed &&
    x.cur.isNone && s.acceptHeld.isNone && !full && decide (20 ≤ s.freeSpace 1000) && decide (s.power.state ≤ 1) &&
    !(s.power.target.any (fun t => decide (2 ≤ t))) && !s.power.quiesced && s.power.fwSwitch.isNone &&
    s.link.release.map (fun r => r.1) != some x.stream

/-- The rotation after a descriptor of a channel is fetched, where it is the channel's turn (R87): up to 8 descriptors go in a
turn, and no channel has a second turn before every other whose fetching is not stopped has had its own. -/
def State.turnFor (s : State) (ch : Nat) : Option Rotation :=
  let r := s.rotation
  let next (served : List Nat) : Rotation := { cur := some (ch, 1), served := served }
  match r.cur with
  | some (c, n) =>
    if c = ch ∧ n < 8 then some { r with cur := some (c, n + 1) }
    else if !r.served.contains ch then some (next (ch :: r.served))
    else if s.chans.all (fun x => x.1 == ch || r.served.contains x.1 || !s.fetches x.2) then some (next [ch])
    else none
  | none => some (next [ch])

/-- A descriptor of a channel is fetched and handled; nothing happens while fetching is stopped, or out of the channel's turn
(R87). -/
def onFetch (ch : Nat) (s : State) (f : State → Channel → State) : Out3 :=
  if 4096 ≤ ch then .fault .noSuchUnit
  else .next (
    match s.chan ch, s.turnFor ch with
    | some x, some r => if s.fetches x then (f { s with rotation := r } x).settle else s
    | _, _ => s)

/-- A descriptor rejected with an IN_DONE (R88, R91): counted by the order of the status in R91. -/
def State.rejectIn (s : State) (ch status : Nat) (tag : W) (idx : BitVec 32) : State :=
  (((s.modChan ch (fun x => { x with rejects := tinc x.rejects status 1, cur := none })).consume ch).releaseOn ch
    (rejectEntry ch status tag idx))

/-- Some byte of `[off, off + len)` of a descriptor is not 0. -/
def nonzero (d : W512) (off len : Nat) : Bool := W512.fld d off len != 0

/-- USER_TAG of a descriptor (R89, R90). -/
def descTag (d : W512) : W := BitVec.ofNat 64 (W512.fld d 40 8)

/-- Stages 1 to 5 of R91. -/
def State.fetchMsg (s : State) (ch : Nat) (x : Channel) (d : W512) : State :=
  let idx := x.consumed
  let tag := descTag d
  let len := W512.fld d 4 3
  if nonzero d 2 2 || nonzero d 7 1 || nonzero d 20 4 || nonzero d 56 8 || W512.fld d 1 1 / 2 != 0 then
    s.rejectIn ch stDescFormat tag idx
  else if len = 0 ∨ 262144 < len then s.rejectIn ch stLengthRange tag idx
  else if W512.fld d 16 4 < len then s.rejectIn ch stBufferRange tag idx
  else if x.stopped then s.rejectIn ch stChannelState tag idx
  else
    let n := ceilDiv len 256
    let r := s.requestPool ch n (fun shared => .msg ch shared)
    r.1.modChan ch (fun y => { y with cur := some ⟨d, idx, n, r.2⟩ })

/-- A BUF_OUT (R92). -/
def State.fetchBuf (s : State) (ch : Nat) (x : Channel) (d : W512) : State :=
  let tag := descTag d
  let len := W512.fld d 4 4
  let back (status : Nat) : State := (s.consume ch).releaseOn ch (bufferEntry ch status 0 0 0 tag)
  if nonzero d 1 3 || nonzero d 16 24 || nonzero d 48 16 then back stDescFormat
  else if len = 0 ∨ 262144 < len then back stLengthRange
  else if 1024 ≤ x.bufs.length then back stBufferLimit
  else
    (s.modChan ch (fun y => { y with
      bufs := y.bufs ++ [⟨BitVec.ofNat 64 (W512.fld d 8 8), len, tag, y.consumed⟩] })).consume ch

/-- CTRL STOP and START (R93): the CONFIG record, the change, and the MARKER once the record is durable. -/
def State.ctrlStopStart (s : State) (ch : Nat) (x : Channel) (d : W512) (stop : Bool) : State :=
  let s := s.openSlot
  if !s.appendOk x.stream 128 false then s
  else
    let jsn := s.nextJsn x.stream
    let s := s.appendConfig x.stream 2 0 0 ch 0 0 ch (W512.bytes d)
    (s.modChan ch (fun y => { y with
      stopped := stop, marks := y.marks ++ [⟨descTag d, y.consumed, if stop then 3 else 4, jsn⟩] })).consume ch

/-- A CTRL (R93). -/
def State.fetchCtrl (s : State) (ch : Nat) (x : Channel) (d : W512) : State :=
  let tag := descTag d
  let op := W512.fld d 1 1
  if nonzero d 2 38 || nonzero d 48 16 || op = 0 || decide (4 < op) then
    (s.consume ch).releaseOn ch (markerEntry ch stDescFormat tag x.consumed op)
  else if op = 1 then (s.modChan ch (fun y => { y with marks := y.marks ++ [⟨tag, y.consumed, 1, 0⟩] })).consume ch
  else if op = 2 then
    let s := s.consume ch
    let s := x.bufs.foldl (fun t b => t.releaseOn ch (bufferEntry ch 0 0 0 0 b.tag)) s
    (s.modChan ch (fun y => { y with bufs := [] })).releaseOn ch (markerEntry ch 0 tag x.consumed 2)
  else s.ctrlStopStart ch x d (op == 3)

/-- A descriptor as fetched, by its TYPE (R88). -/
def State.fetchDesc (s : State) (ch : Nat) (d : W512) (x : Channel) : State :=
  match W512.fld d 0 1 with
  | 1 => s.fetchMsg ch x d
  | 2 => s.fetchBuf ch x d
  | 3 => s.fetchCtrl ch x d
  | _ => s.rejectIn ch stDescFormat (descTag d) x.consumed

/-- MSG_IN (R88, R91). -/
def execMsgIn (ch : Nat) (desc : W512) (s : State) : Out3 := onFetch ch s (fun s x => s.fetchDesc ch desc x)

/-- BUF_OUT (R88, R92). -/
def execBufOut (ch : Nat) (desc : W512) (s : State) : Out3 := onFetch ch s (fun s x => s.fetchDesc ch desc x)

/-- CTRL MARK (R93). -/
def execCtrlMark (ch : Nat) (desc : W512) (s : State) : Out3 := onFetch ch s (fun s x => s.fetchDesc ch desc x)

/-- CTRL RETURN_BUFFERS (R93). -/
def execCtrlReturnBuffers (ch : Nat) (desc : W512) (s : State) : Out3 := onFetch ch s (fun s x => s.fetchDesc ch desc x)

/-- CTRL STOP (R93). -/
def execCtrlStop (ch : Nat) (desc : W512) (s : State) : Out3 := onFetch ch s (fun s x => s.fetchDesc ch desc x)

/-- CTRL START (R93). -/
def execCtrlStart (ch : Nat) (desc : W512) (s : State) : Out3 := onFetch ch s (fun s x => s.fetchDesc ch desc x)

/-- DESCRIPTOR_READ_FAULT (R539). -/
def execDescriptorReadFault (ch : Nat) (s : State) : Out3 :=
  onFetch ch s (fun s x => ((s.readFails (s.chanPort x)).consume ch).releaseOn ch (rejectEntry ch stDmaFault 0 x.consumed))

/-! ### Acceptance -/

/-- A MSG_IN is given up after its granules were charged (R91). -/
def State.rejectCur (s : State) (ch : Nat) (m : CurMsg) (status : Nat) : State :=
  (s.uncharge ch m.granules).rejectIn ch status (descTag m.desc) m.idx

/-- Stage 10 of R91: the ACCEPT record is appended and the item exists (R114, R166, R479, R480). -/
def State.acceptAt (s : State) (ch : Nat) (x : Channel) (m : CurMsg) (body : Bytes) (win : Nat) (g : Gen) : State :=
  let d := m.desc
  let jsn := s.nextJsn x.stream
  let stamp := s.time.ns
  let flags := W512.fld d 1 1
  let s := s.appendRaw x.stream 1 ch jsn
    (mkTf [(32, 4, m.idx.toNat), (36, 4, s.bizDate.toNat), (40, 8, W512.fld d 24 8), (48, 8, (descTag d).toNat), (56, 1, flags)])
    (leBytes 8 (W512.fld d 32 8) ++ leBytes 8 (W512.fld d 48 8) ++ body)
  let s := s.assignWindow win m.granules g.key ch
  let item : Item :=
    { stream := x.stream, jsn := jsn, kind := .message, channel := ch, stamp := stamp, deadline := W512.fld d 24 8
      orderKey := BitVec.ofNat 64 (W512.fld d 32 8), progArg := BitVec.ofNat 64 (W512.fld d 48 8), userTag := descTag d
      idx := m.idx, date := s.bizDate, adopted := decide (1 < ((s.stream x.stream).map (fun y => y.adoption)).getD 1)
      len := body.length, win := win, granules := m.granules, program := x.program, gen := some g.gen
      noticed := x.notice == 1 || (x.notice == 2 && flags % 2 == 1), flags := flags }
  { s.writeMem win body with
    items := s.items ++ [item]
    acceptHeld := some ⟨x.stream, jsn, ch⟩ }.modChan ch (fun y => { y with cur := none })

/-- Stages 6 to 10 of R91 (R114): the stamp and the checks of stages 7 to 10 are one step. -/
def State.acceptMsg (s : State) (ch : Nat) (x : Channel) (m : CurMsg) (body : Option Bytes) (win : Nat) : State :=
  match body with
  | none => (s.readFails (s.chanPort x)).rejectCur ch m stDmaFault
  | some bs =>
    let s := s.openSlot
    let d := m.desc
    let len := W512.fld d 4 3
    if W512.fld d 24 8 ≤ s.time.ns then s.rejectCur ch m stDeadlinePast
    else if s.failing then s.rejectCur ch m stUnsync
    else match s.genAt x.program s.time.ns with
    | none => s.rejectCur ch m stProgAbsent
    | some g =>
      if !(s.windowFits win m.granules g.key) || !s.appendOk x.stream (128 + 64 * ceilDiv len 64) false then s
      else s.acceptAt ch x m (padTo len bs) win g

/-- The intake may complete an acceptance on a channel (R37, R51, R99): not once the stream's release is asked for (R202). -/
def State.accepts (s : State) (x : Channel) : Bool :=
  s.polls && !s.su.fault && s.mayWriteFor (s.chanPort x) x.stream && s.acceptHeld.isNone && s.power.fwSwitch.isNone &&
    s.link.release.map (fun r => r.1) != some x.stream

/-- ACCEPT (R91, R114): the message body has been fetched, or its fetch has failed. -/
def execAccept (ch : Nat) (body : Option Bytes) (win : Nat) (s : State) : Out3 :=
  if 4096 ≤ ch then .fault .noSuchUnit
  else .next (
    match s.chan ch with
    | none => s
    | some x =>
      match x.cur with
      | none => s
      | some m => if m.granted && s.accepts x then (s.acceptMsg ch x m body win).settle else s)

/-! ### Granules -/

/-- A granted request is met and its waiter proceeds (R98). -/
def State.meet (s : State) (q : PoolReq) : State :=
  let s := { s with poolWait := s.poolWait.filter (fun r => r != q) }
  match q with
  | .msg ch n => (s.charge ch n).modChan ch (fun x => { x with cur := x.cur.map (fun m => { m with granted := true }) })
  | .emit core ch n total => (s.charge ch n).modCore core (fun k => { k with grant := some total })
  | .rerun stream jsn ch n => ((s.charge ch n).modItem stream jsn (fun i => { i with paid := i.need })).placeItems

/-- GRANULE_GRANT (R98). Items that wait for a window after a recovery are placed where one is free. -/
def execGranuleGrant (s : State) : Out3 :=
  .next (
    match s.grantable with
    | some q => s.meet q
    | none => s.placeItems.refreshReady)

end Sys2Proof.Machine
end

