-- ==== Sys2Proof/Machine/HostPort.lean ====
section
/-!
DEFINITION. The host's side of a port: BAR0 writes and their checks (R12, R15, R54 to R57), set-up commit (R58, R59, R85),
the port's links, power states and resets (R51, R60, R111, R492, R516), MSI-X (R53), configuration writes (R42, R44), and the
fetching of admin commands (R62 to R66).
-/

namespace Sys2Proof.Machine

/-- A command that names one of the two ports. -/
def onPort (p : Nat) (s : State) (f : State → Port → State) : Out3 :=
  if p < 2 then .next (f s (s.port p)) else .fault .noSuchUnit

/-- The device enters the device-fault state (R41, R46, R425, R510): vector 514, DEVICE_FAULT, the alert cause and AER. -/
def State.deviceFault (s : State) : State :=
  if s.su.fault then s
  else
    let s := { s with su := { s.su with fault := true } }
    let s := ((s.msixAll 514).raiseAll 69 0).raiseAlert 2
    [0, 1].foldl (fun t p => if (t.port p).linkUp then t.reportAer p 22 else t) s

/-- Host accesses reach the function: its link is up, it is in D0 and not in reset (R42, R492, R530). -/
def State.reaches (s : State) (x : Port) : Bool :=
  x.linkUp && !x.inReset && (x.dstate == .d0) && !s.su.sysResetLow && !s.su.halted

/-- A BAR0 write by the host: nothing happens where it does not reach the function. -/
def onBar (p : Nat) (s : State) (f : State → Port → State) : Out3 :=
  onPort p s (fun s x => if s.reaches x then f s x else s)

/-! ### Refusal (R15, R56) -/

/-- A write refused: REFUSED, REASON, OFFSET and REFUSE_COUNT, and vector 519 where REFUSED goes from 0 to 1. -/
def State.refuse (s : State) (p off reason : Nat) : State :=
  let x := s.port p
  let s := s.setPort p { x with
    refused := true, reason := reason, refOffset := off, refuseCount := min 65535 (x.refuseCount + 1) }
  if x.refused then s else s.msix p 519

/-- Offsets of BAR0 that hold neither a register nor the MSI-X structures (R54, R56). -/
def unmapped (off : Nat) : Bool :=
  (decide (0x58 ≤ off) && decide (off < 0x1000)) || (decide (0x1008 ≤ off) && decide (off < 0x10000)) ||
    (decide (0x12100 ≤ off) && decide (off < 0x18000)) || (decide (0x18048 ≤ off) && decide (off < 0x1000000))

/-- Reserved bits of a set-up register that is written by SETUP_REGISTER_WRITE. -/
def setupReserved (off : Nat) : W :=
  match off with
  | 0x18 => 0x3F
  | 0x20 => 0x1F
  | 0x28 => 0xFFFFFFFFFFFFF0F0
  | 0x30 => 0x7
  | 0x38 => 0x7
  | 0x40 => 0xFFF
  | 0x48 => 0xFFF
  | _ => 0xFFFFFFFF0000F000

/-- A ring size is legal: 4 to 12 (ADMIN_RING_SIZE). -/
def legalLog2 (n : Nat) : Bool := decide (4 ≤ n) && decide (n ≤ 12)

/-- A value is legal for its register. -/
def setupLegal (off : Nat) (v : W) : Bool :=
  match off with
  | 0x28 => legalLog2 (nbits v.toNat 0 4) && legalLog2 (nbits v.toNat 8 4)
  | 0x50 => nbits v.toNat 0 12 != 0
  | _ => true

/-- A register stored. -/
def State.storeSetup (s : State) (p off : Nat) (v : W) : State :=
  match off with
  | 0x18 => s.modPort p (fun x => { x with sqBase := v })
  | 0x20 => s.modPort p (fun x => { x with cqBase := v })
  | 0x28 => s.modPort p (fun x => { x with ringSize := v })
  | 0x30 => s.modPort p (fun x => { x with sqTailAddr := v })
  | 0x38 => s.modPort p (fun x => { x with cqHeadAddr := v })
  | 0x40 => s.modPort p (fun x => { x with doorbellBase := v })
  | 0x48 => s.modPort p (fun x => { x with armBase := v })
  | 0x50 => { s with pollPeriod := nbits v.toNat 0 12, armAfter := nbits v.toNat 16 16 }
  | _ => s

/-- A write that has a row of its own: SETUP_CTRL, SETUP_STATUS or KICK in a size that it takes, or the MSI-X structures. -/
def ownRow (off size : Nat) : Bool :=
  ((off == 0x08 || off == 0x10 || off == 0x1000) && size == 8) || (off == 0x1000 && size == 4) || decide (0x10000 ≤ off)

/-- A write to BAR0 that has no row of its own, checked in the order of R56. The register DEVICE_ID is RO, and offsets beyond
BAR0 are none of it. -/
def State.writeSetup (s : State) (p off size : Nat) (v : W) (x : Port) : State :=
  if unmapped off then s.refuse p off 0x08
  else if off < 0x08 || ownRow off size then s
  else if off % 8 ≠ 0 ∨ size ≠ 8 then s.refuse p off 0x04
  else if v &&& setupReserved off ≠ 0 then s.refuse p off 0x01
  else if off ≠ 0x50 ∧ x.committed then s.refuse p off 0x03
  else if !setupLegal off v then s.refuse p off 0x02
  else s.storeSetup p off v

/-- SETUP_REGISTER_WRITE (R56). -/
def execSetupRegisterWrite (p off size : Nat) (v : W) (s : State) : Out3 :=
  onBar p s (fun s x => s.writeSetup p off size v x)

/-- SETUP_STATUS_CLEAR (R12, R13, R56): REFUSED and REFUSE_COUNT are W1C; a 1 in a reserved bit refuses the write. -/
def execSetupStatusClear (p size : Nat) (v : W) (s : State) : Out3 :=
  onBar p s (fun s x =>
    if size ≠ 8 then s.refuse p 0x10 0x04
    else if v &&& 0x0000F000000000F0 ≠ 0 then s.refuse p 0x10 0x01
    else s.setPort p { x with
      refused := x.refused && !nbit v.toNat 2
      refuseCount := if nbits v.toNat 48 16 = 0 then x.refuseCount else 0 })

/-! ### Commit -/

/-- Conditions 2 to 4 of R58. -/
def State.commitOk (s : State) (p : Nat) (x : Port) : Bool :=
  let o := s.port (1 - p)
  x.sqBase != 0 && x.cqBase != 0 && x.sqTailAddr != 0 && x.cqHeadAddr != 0 && x.doorbellBase != 0 && x.armBase != 0 &&
    legalLog2 (nbits x.ringSize.toNat 0 4) && legalLog2 (nbits x.ringSize.toNat 8 4) &&
    (!o.committed || (o.doorbellBase == x.doorbellBase && o.armBase == x.armBase))

/-- Every doorbell group becomes live at the commit of the first port, and every arm word is written with ARMED 0 (R85),
through that port. -/
def State.allLive (s : State) (p : Nat) : State :=
  (List.range 64).foldl (fun t g =>
    (t.modGroup g (fun x => { x with live := true, armed := false, lastChange := s.time.ns })).writeArm g p false) s

/-- What a commit does (R59, R85, R94, R109, R492). -/
def State.commit (s : State) (p : Nat) (heads : List (Nat × Option W)) : State :=
  let first := !(s.port (1 - p)).committed
  let s := s.modPort p (fun x => { x with
    committed := true, asqHead := 0, asqTail := 0, acqTail := 0, acqHead := 0, acur := none, aheld := none, adone := none })
  let s := if first then s.allLive p else s
  let s := s.chans.foldl (fun t c => if t.chanPort c.2 = p then t.writeConsumed c.1 else t) s
  s.rings.foldl (fun t r =>
    match r.2.recovering with
    | some cause => if r.2.port = p ∧ t.actsFor r.2.stream then t.recoverRing r.1 cause (headOf heads r.1) else t
    | none => t) s

/-- SETUP_COMMIT (R56, R58). -/
def execSetupCommit (p size : Nat) (v : W) (heads : List (Nat × Option W)) (s : State) : Out3 :=
  onBar p s (fun s x =>
    if size ≠ 8 then s.refuse p 0x08 0x04
    else if v &&& 0xFFFFFFFFFFFFFFFE ≠ 0 then s.refuse p 0x08 0x01
    else if v = 0 ∨ x.committed then s
    else if !s.su.ready then s.refuse p 0x08 0x07
    else if !s.commitOk p x then s.refuse p 0x08 0x05
    else (s.commit p heads).settle)

/-! ### Kicks and admin fetching -/

/-- The value a KICK write carries: a 4-byte write has the upper half 0 (R56). -/
def kickValue (size : Nat) (v : W) : W := if size = 4 then v &&& 0xFFFFFFFF else v

/-- The reason a KICK is refused, if it is (R56). -/
def kickReason (x : Port) (size : Nat) (v : W) : Option Nat :=
  let k := (kickValue size v).toNat
  if size ≠ 8 ∧ size ≠ 4 then some 0x04
  else if 2 ^ 16 ≤ k then some 0x01
  else if ¬(k < 64 ∨ k = 0x100) then some 0x02
  else if !x.committed then some 0x06
  else none

/-- KICK_DOORBELL_GROUP (R57, R86). -/
def execKickDoorbellGroup (p size : Nat) (v : W) (rd : GroupRead) (s : State) : Out3 :=
  onBar p s (fun s x =>
    match kickReason x size v with
    | some r => s.refuse p 0x1000 r
    | none =>
      let k := (kickValue size v).toNat
      if k < 64 && s.polls then s.kickGroup k rd else s)

/-- Entries of the admin submission and completion rings. -/
def Port.asqSize (x : Port) : Nat := 2 ^ nbits x.ringSize.toNat 0 4
/-- Entries of the admin completion ring. -/
def Port.acqSize (x : Port) : Nat := 2 ^ nbits x.ringSize.toNat 8 4

/-- Undelivered entries of the admin completion ring. -/
def Port.acqUsed (x : Port) : Nat := (x.acqTail - x.acqHead).toNat

/-- The admin ring may fetch: no command is in hand, the completion ring has room and the port masters (R64, R66). -/
def Port.mayFetchAdmin (x : Port) : Bool :=
  x.acur.isNone && x.aheld.isNone && x.adone.isNone && decide (x.acqUsed < x.acqSize) && x.masters && x.committed &&
    x.asqHead != x.asqTail

/-- An opcode is assigned (R71). -/
def opcodeAssigned (op : Nat) : Bool :=
  [0x01, 0x02, 0x03, 0x10, 0x11, 0x12, 0x13, 0x14, 0x20, 0x21, 0x22, 0x30, 0x31, 0x32, 0x40, 0x41, 0x50, 0x51, 0x60, 0x61,
    0x70, 0x71, 0x72, 0x73, 0x80, 0x90].contains op

/-- A command fetched: a reserved opcode completes with ADMIN_OPCODE (R69, R495). -/
def Port.takeEntry (x : Port) (e : W512) : Port :=
  let x := { x with asqHead := x.asqHead + 1 }
  let op := W512.fld e 0 1
  if opcodeAssigned op then { x with acur := some e }
  else { x with adone := some ⟨W512.fld e 2 2, 0x0601, 0, 0⟩ }

/-- The next admin entry is fetched where one is due; a failed read waits for the next kick (R63). -/
def State.fetchAdmin (s : State) (p : Nat) (entry : Option W512) : State :=
  let x := s.port p
  if !x.mayFetchAdmin then s
  else match entry with
    | none => ((s.setPort p { x with asqTail := x.asqHead }).readFails p).logErr 2 13 p 0
    | some e => s.setPort p (x.takeEntry e)

/-- The admin tail word as read after a kick (R62, R63): where the read fails nothing is executed until the next kick. -/
def State.seeTail (s : State) (p : Nat) (tail : Option W) (entry : Option W512) : State :=
  let x := s.port p
  match tail with
  | none => ((s.setPort p { x with asqTail := x.asqHead }).readFails p).logErr 2 13 p 0
  | some w =>
    let t : BitVec 32 := w.setWidth 32
    if x.asqSize < (t - x.asqHead).toNat then (s.setPort p { x with asqTail := x.asqHead }).logErr 2 13 p 0
    else (s.setPort p { x with asqTail := t }).fetchAdmin p entry

/-- KICK_ADMIN_RING (R62, R63). A KICK accepted while the port can not master is dropped (log 107). -/
def execKickAdminRing (p size : Nat) (v : W) (tail : Option W) (entry : Option W512) (s : State) : Out3 :=
  onBar p s (fun s x =>
    match kickReason x size v with
    | some r => s.refuse p 0x1000 r
    | none => if (kickValue size v).toNat = 0x100 && x.masters then s.seeTail p tail entry else s)

/-! ### Links, power states, resets -/

/-- PORT_LINK_DOWN (R51). -/
def execPortLinkDown (p : Nat) (s : State) : Out3 := onPort p s (fun s x => s.setPort p { x with linkUp := false, trained := {} })

/-- What a link trains to (R42): lanes 8 to 15 are powered down by the x8 strap; which of the widths and rates the lanes and the
link partner allow, and whether the partner supports FLIT mode below 64 GT/s, is free (log 4). -/
def Port.train (x : Port) (v : Nat) : LinkTrain :=
  let rate := [640, 320, 160, 80, 50, 25].getD (v / 8 % 6) 640
  { lanes := min ([16, 8, 4, 2, 1].getD (v % 8 % 5) 16) (if x.widthX8 then 8 else 16), rate := rate
    flit := rate == 640 || nbit v 8 }

/-- PORT_LINK_UP (R42, R53, R85, R94, R492, R528): a port out of reset trains once SYS_RESET_N is high. Consumed counts that
could not be written and messages held in pending bits go out. -/
def execPortLinkUp (p : Nat) (s : State) : Out3 :=
  onPort p s (fun s x =>
    if x.inReset || s.su.sysResetLow || s.su.halted || s.su.testEn then s
    else ((s.nextFree.setPort p { x with linkUp := true, trained := x.train s.freeVal.toNat }).writeLate p).sendPending p)

/-- D_STATE_CHANGE (R53, R94, R111): on return to D0 every postable entry is posted and every ring with unsignalled entries
signalled; consumed counts and messages held in pending bits go out. -/
def execDStateChange (p : Nat) (d : DState) (s : State) : Out3 :=
  onPort p s (fun s x =>
    let s := s.setPort p { x with dstate := d }
    if d == .d0 && x.dstate != .d0 then ((((s.writeLate p).postAll (fun r => r.port == p)).settle).sendPending p) else s)

/-- A field of an MSI-X table entry written (R53). -/
def Port.writeMsix (x : Port) (vec : Nat) : MsixWrite → Port
  | .mask true => { x with unmasked := x.unmasked.filter (fun v => v != vec) }
  | .mask false => { x with unmasked := if x.unmasked.contains vec then x.unmasked else vec :: x.unmasked }
  | .address v => { x with msixMsg := tset x.msixMsg vec (v, ((tget x.msixMsg vec).getD (0, 0)).2) }
  | .data v => { x with msixMsg := tset x.msixMsg vec (((tget x.msixMsg vec).getD (0, 0)).1, v) }

/-- MSIX_TABLE_WRITE (R53): unmasking a vector whose pending bit stands sends its message. -/
def execMsixTableWrite (p vec : Nat) (w : MsixWrite) (s : State) : Out3 :=
  onBar p s (fun s x => if 528 ≤ vec then s else (s.setPort p (x.writeMsix vec w)).sendPending p)

/-- A field of configuration space written (R42, R44). -/
def Port.writeCfg (x : Port) : CfgWrite → Port
  | .busMaster v => { x with busMaster := v }
  | .relaxedOrdering v => { x with relaxed := v }
  | .maxPayload v => { x with mps := v }
  | .maxReadRequest v => { x with mrrs := v }
  | .tag10 v => { x with tag10 := v }
  | .msixEnable v => { x with msixEnable := v }
  | .msixFunctionMask v => { x with msixMask := v }
  | .aspmL1 v => { x with aspmL1 := v }
  | .bar0 v => { x with bar0 := v &&& 0xFFFFFFFFFF000000 }
  | .aerMask v => { x with aerMask := v }
  | .aerSeverity v => { x with aerSeverity := v }
  | .aerStatusClear v => { x with aerStatus := x.aerStatus &&& ~~~v }

/-- PCIE_CONFIG_WRITE (R42): configuration space answers in every device power state that keeps the link. -/
def execPcieConfigWrite (p : Nat) (w : CfgWrite) (s : State) : Out3 :=
  onPort p s (fun s x =>
    if x.linkUp && !x.inReset && !s.su.sysResetLow && !s.su.halted then ((s.setPort p (x.writeCfg w)).writeLate p).sendPending p else s)

end Sys2Proof.Machine
end

