-- ==== Sys2Proof/Machine/AdminOps.lean ====
section
/-!
DEFINITION. How an admin command runs: the entry's fields (R67), the order of the checks (R69, R495, R535, R536), the
CONFIG record of a command that changes state (R65, R156, R168), the hold of a command whose record is not yet durable
(R37, R65), and its completion (R66, R68).
-/

namespace Sys2Proof.Machine

/-! ### The entry -/

/-- OPCODE of an admin entry (R67). -/
def opOf (e : W512) : Nat := W512.fld e 0 1
/-- CMD_ID (R67). -/
def cmdIdOf (e : W512) : Nat := W512.fld e 2 2
/-- TARGET (R67). -/
def targetOf (e : W512) : Nat := W512.fld e 4 4
/-- DATA_ADDR (R67). -/
def dataAddrOf (e : W512) : Nat := W512.fld e 8 8
/-- DATA_LEN (R67). -/
def dataLenOf (e : W512) : Nat := W512.fld e 16 4

/-- Bytes `[lo, hi)` of an entry are 0. -/
def zeroIn (e : W512) (lo hi : Nat) : Bool := W512.fld e lo (hi - lo) == 0

/-- The reserved bytes that every command has are 0, and DATA_ADDR is aligned, 0 without data (R67, R69 order 2). -/
def commonOk (e : W512) : Bool :=
  zeroIn e 1 2 && zeroIn e 20 24 && zeroIn e 56 64 && dataAddrOf e % 64 == 0 && (dataLenOf e != 0 || dataAddrOf e == 0)

/-- A command without a data buffer, without TARGET or with one (R536). -/
def noData (e : W512) : Bool := commonOk e && dataLenOf e == 0

/-- A status of an admin completion (R69, R112). -/
def stOpcode : Nat := 0x0601
/-- ADMIN_FIELD. -/
def stField : Nat := 0x0602
/-- ADMIN_STATE. -/
def stState : Nat := 0x0603
/-- ADMIN_SIGNATURE. -/
def stSignature : Nat := 0x0604
/-- JOURNAL_FULL. -/
def stJournalFull : Nat := 0x0401
/-- TWIN_UNAVAILABLE. -/
def stTwin : Nat := 0x0402
/-- NOT_EPOCH_HOLDER. -/
def stEpoch : Nat := 0x0403

/-! ### The end of a command -/

/-- A command ends: its completion waits to be posted (R65, R68). -/
def State.finish (s : State) (p : Nat) (e : W512) (status jsn : Nat) (result : W) : State :=
  s.modPort p (fun x => { x with acur := none, aheld := none, adone := some ⟨cmdIdOf e, status, jsn, result⟩ })

/-- A command rejected (R69). DMA_FAULT at order 4 is a failed read of the data buffer, which AER reports (R46). -/
def State.rejectCmd (s : State) (p : Nat) (e : W512) (status : Nat) : State :=
  (if status = stDmaFault then s.readFails p else s).finish p e status 0 0

/-- The first failing check of a list, in order (R69). -/
def firstBad : List (Bool × Nat) → Option Nat
  | [] => none
  | (ok, st) :: rest => if ok then firstBad rest else some st

/-- A read-only command that writes its data buffer: a write that fails, or that the port cannot master, is DMA_FAULT (R69). -/
def State.finishRead (s : State) (p : Nat) (e : W512) (bytes : Bytes) (result : W) (relaxed wrOk : Bool) : State :=
  if !wrOk || !(s.port p).masters then s.finish p e stDmaFault 0 0
  else (s.emitOut (.hostWrite p (BitVec.ofNat 64 (dataAddrOf e)) bytes relaxed)).finish p e 0 0 result

/-- A command's data buffer as read: a port that cannot master reads none (R42, R69). -/
def State.dataIn (s : State) (p : Nat) (data : Option Bytes) : Option Bytes := if (s.port p).masters then data else none

/-! ### Which command runs -/

/-- Opcodes that execute in the device-fault state (R495). -/
def faultOpcode (op : Nat) : Bool := [0x01, 0x02, 0x70, 0x71, 0x72, 0x73].contains op

/-- Commands whose effect does not wait for durability under the mode in force, and that run while the other port holds
one: SET_FEATURE of JOURNAL_MODE and ADOPT_CHANNELS of KIND FAILED (R37, R159, R201). -/
def endsPairing (e : W512) : Bool :=
  (opOf e == 0x03 && W512.fld e 24 2 == 1) || (opOf e == 0x61 && W512.fld e 24 1 == 0)

/-- The admin commands of a port run: the device is in service, and no command of the other port waits for its record
(R64, R163). -/
def State.adminRuns (s : State) (p : Nat) (e : W512) : Bool :=
  s.su.ready && !s.su.halted && !s.su.flushing && !s.su.sysResetLow && (s.port p).committed && s.power.fwSwitch.isNone &&
    ((s.port (1 - p)).aheld.isNone || endsPairing e)

/-- An admin row: it executes the port's command where that is one of the row's. In the device-fault state every command
but six completes with DEVICE_FAULT (R495). -/
def adminRow (p : Nat) (row : W512 → Bool) (s : State) (f : State → W512 → State) : Out3 :=
  if p < 2 then
    .next (
      match (s.port p).acur with
      | none => s
      | some e =>
        if !(row e && s.adminRuns p e) then s
        else if s.su.fault && !faultOpcode (opOf e) then s.finish p e stDevFault 0 0
        else f s e)
  else .fault .noSuchUnit

/-- The row of one opcode. -/
def isOp (op : Nat) (e : W512) : Bool := opOf e == op

/-! ### Commands that change state -/

/-- Commands that R178 lets append below 2 % of free space. -/
def exemptCmd (e : W512) : Bool :=
  opOf e == 0x51 || opOf e == 0x50 || opOf e == 0x61 || (opOf e == 0x03 && W512.fld e 24 2 == 1)

/-- DATA_FORM and the bytes that follow the entry in a CONFIG record (R168). -/
def configData (e : W512) (data : Bytes) : Nat × Bytes :=
  let n := dataLenOf e
  if n = 0 then (0, [])
  else if n ≤ 16384 ∧ opOf e ≠ 0x30 then (1, padTo n data)
  else (2, headBytes (Config.sha256 (padTo n data)))

/-- The CONFIG record of an admin command appended to a stream (R168). -/
def State.appendCmd (s : State) (id source channel : Nat) (e : W512) (data : Bytes) : State :=
  let d := configData e data
  s.appendConfig id source (opOf e) (cmdIdOf e) (targetOf e) 0 d.1 channel (W512.bytes e ++ d.2)

/-- What a command does once its CONFIG record is durable: the new state, the status and the result. -/
abbrev Effect := State → AdminHeld → State × Nat × W

/-- FW_UPDATE of KIND ACTIVATE (R496). -/
def isActivate (e : W512) : Bool := opOf e == 0x90 && W512.fld e 24 1 == 1

/-- A command takes effect and ends (R65). One that takes effect at its append ends when its record is durable under the
mode then in force; an activation ends with the switch (R497). -/
def State.takeEffect (s : State) (p : Nat) (h : AdminHeld) (eff : Effect) : State :=
  let r := eff s h
  if isActivate h.entry || !r.1.durable h.stream h.jsn then r.1.modPort p (fun x => { x with acur := none, aheld := some h })
  else r.1.finish p h.entry r.2.1 h.jsn r.2.2

/-- What a command that changes state brings beyond its entry: itself, its input data, the stream and channel it changes,
whether the package acts for that stream, and whether it takes effect at the append. -/
structure Change where
  cmd : Instr
  entry : W512
  data : Bytes := []
  stream : Option Nat := none
  channel : Nat := chNone
  epoch : Bool := true
  atOnce : Bool := false
  deriving DecidableEq, Repr

/-- Both areas are without a stream (R156). -/
def State.noStream (s : State) : Bool := s.area0.isNone && s.area1.isNone

/-- Orders 8 and 9 of R69. -/
def State.changeBad (s : State) (c : Change) : Option Nat :=
  firstBad [(exemptCmd c.entry || decide (20 ≤ s.freeSpace 1000), stJournalFull),
    (c.epoch && (s.noStream || (c.stream.or s.home).isSome), stEpoch)]

/-- A command that changes state, after orders 1 to 7 of R69: orders 8 and 9, what is due at the slot, the comparisons
with the record's stamp (R535), the CONFIG record, and the effect, at once or when the record is durable. Where the record
cannot be appended now, nothing happens yet (R35, R161, R178). -/
def State.change (s : State) (p : Nat) (c : Change) (late : State → Bool) (eff : Effect) : State :=
  match s.changeBad c with
  | some st => s.rejectCmd p c.entry st
  | none =>
    let t := s.openSlot
    if !late t then t.rejectCmd p c.entry stState
    else
      let fresh := t.noStream
      let t := if fresh then t.createStream else t
      let id := (c.stream.or t.home).getD 0
      let d := configData c.entry c.data
      if !t.appendOk id (64 + 64 * ceilDiv (64 + d.2.length) 64) (exemptCmd c.entry) then s
      else
        let h : AdminHeld := ⟨c.cmd, c.entry, id, t.nextJsn id⟩
        let t := t.appendCmd id p c.channel c.entry c.data
        let t := if fresh then t.sealNow id else t
        if c.atOnce || t.durable id h.jsn then t.takeEffect p h eff
        else t.modPort p (fun x => { x with acur := none, aheld := some h })

/-- A comparison with the CONFIG stamp that always holds. -/
def noLate : State → Bool := fun _ => true

/-! ### Completions -/

/-- The bytes of an admin completion entry (R68). -/
def Port.completion (x : Port) (d : AdminDone) : Bytes :=
  let phase := if (x.acqTail.toNat / x.acqSize) % 2 = 0 then 1 else 0
  leBytes 2 d.cmdId ++ leBytes 2 d.status ++ leBytes 2 (x.asqHead.toNat % 65536) ++ leBytes 1 phase ++ leBytes 1 0 ++
    leBytes 8 d.configJsn ++ leBytes 8 d.result.toNat ++ leBytes 8 0

/-- The completion that waits is posted where the ring has room, and vector 512 signalled (R44, R52, R66, R68). -/
def State.postAdmin (s : State) (p : Nat) : State :=
  let x := s.port p
  match x.adone with
  | none => s
  | some d =>
    if x.acqUsed < x.acqSize && x.masters && x.committed then
      let at_ := x.cqBase + BitVec.ofNat 64 (32 * (x.acqTail.toNat % x.acqSize))
      ((s.emitOut (.hostWrite p at_ (x.completion d) false)).setPort p
        { x with adone := none, acqTail := x.acqTail + 1 }).msix p 512
    else s

/-- ADMIN_COMPLETION_POST (R65, R66): the completion is posted, and the next entry fetched where one is due. -/
def execAdminCompletionPost (p : Nat) (next : Option W512) (s : State) : Out3 :=
  onPort p s (fun s _ =>
    if s.su.ready && !s.su.halted && !s.su.flushing && !s.su.sysResetLow then (s.postAdmin p).fetchAdmin p next else s)

/-- ADMIN_HEAD_READ (R66, R105). -/
def execAdminHeadRead (p : Nat) (word : Option W) (s : State) : Out3 :=
  onPort p s (fun s x =>
    if !x.masters || !x.committed then s
    else match word with
    | none => (s.readFails p).logErr 2 13 p 0
    | some w =>
      let h : BitVec 32 := w.setWidth 32
      if headValid x.acqHead x.acqTail h then s.setPort p { x with acqHead := h } else s.logErr 2 13 p 0)

end Sys2Proof.Machine
end

