-- ==== Sys2Proof/Machine/AdminRings.lean ====
section
/-!
DEFINITION. Completion rings and channels as admin commands make them (R49, R72, R74 to R80): the checks, the effects, and
what the CONFIG records of a stream say of its rings and channels (R156, R201).
-/

namespace Sys2Proof.Machine

/-! ### Building from CONFIG records -/

/-- Fields of CREATE_CQ (R74, R82): the ring an entry makes under the DEFAULT_MODERATION in force. -/
def mkRing (e : W512) (moderation : W) (stream : Nat) : Ring :=
  let ho := W512.fld e 44 2
  let co := W512.fld e 46 2
  { addr := BitVec.ofNat 64 (W512.fld e 24 8), headAddr := BitVec.ofNat 64 (W512.fld e 32 8), log2 := W512.fld e 40 1
    port := W512.fld e 41 1, irq := W512.fld e 42 1 % 2 == 1
    holdoff := if ho = 0 ∧ co = 0 then nbits moderation.toNat 0 16 else ho
    count := if ho = 0 ∧ co = 0 then nbits moderation.toNat 16 16 else co
    stream := stream }

/-- POOL_MIN of an OPEN_CHANNEL: 0 selects 16 (R77). -/
def poolMinOf (e : W512) : Nat := if W512.fld e 48 4 = 0 then 16 else W512.fld e 48 4

/-- Fields of OPEN_CHANNEL (R77): the channel an entry opens. -/
def mkChannel (e : W512) (stream : Nat) : Channel :=
  { sqAddr := BitVec.ofNat 64 (W512.fld e 24 8), consumedAddr := BitVec.ofNat 64 (W512.fld e 32 8)
    sqLog2 := W512.fld e 40 1, orderMode := W512.fld e 41 1, cq := W512.fld e 42 2, program := W512.fld e 44 4
    poolMin := poolMinOf e, poolMax := W512.fld e 52 3, notice := W512.fld e 55 1, stream := stream }

/-- What the CONFIG records of a stream build: rings, channels and DEFAULT_MODERATION. -/
structure Built where
  rings : Tbl Ring := []
  chans : Tbl Channel := []
  moderation : W := 0x00200020
  deriving DecidableEq, Repr

/-- One CONFIG record of a stream (R168, R201). -/
def Built.apply (id : Nat) (b : Built) (r : Record) : Built :=
  let e := W512.ofBytes (r.body.take 64)
  let src := r.tfld 32 1
  let n := r.tfld 36 4
  if src = 2 then { b with chans := tmod b.chans n (fun c => { c with stopped := W512.fld e 1 1 == 3 }) }
  else if src ≠ 0 ∧ src ≠ 1 ∧ src ≠ 5 then b
  else match r.tfld 33 1 with
  | 0x10 => { b with rings := tset b.rings n (mkRing e b.moderation id) }
  | 0x11 => { b with rings := terase b.rings n }
  | 0x12 => { b with chans := tset b.chans n (mkChannel e id) }
  | 0x13 => { b with chans := terase b.chans n }
  | 0x14 => { b with rings := tmod b.rings n (fun x => { x with port := W512.fld e 24 1 }) }
  | 0x03 => if W512.fld e 24 2 = 10 then { b with moderation := BitVec.ofNat 64 (W512.fld e 32 8) } else b
  | _ => b

/-- The rings and channels of a stream as its CONFIG records leave them. -/
def Stream.built (st : Stream) : Built := st.cfg.foldl (Built.apply st.id) {}

/-- Streams held other than as primary. -/
def State.others (s : State) : List Stream := [s.area0, s.area1].filterMap (fun a => a.filter (fun x => x.role != .primary))

/-- Mirrors held. -/
def State.mirrors (s : State) : List Stream := s.others.filter (fun x => x.role == .mirror)

/-- A ring of a stream that is held, but not as primary. -/
def State.foreignRing (s : State) (n : Nat) : Bool := s.others.any (fun st => (tget st.built.rings n).isSome)

/-- A channel of a stream that is held, but not as primary. -/
def State.foreignChan (s : State) (n : Nat) : Bool := s.others.any (fun st => (tget st.built.chans n).isSome)

/-- A ring number is taken, here or on the twin (R194). -/
def State.ringTaken (s : State) (n : Nat) : Bool :=
  (s.ring n).isSome || s.mirrors.any (fun st => (tget st.built.rings n).isSome)

/-- A channel number is taken, here or on the twin (R194). -/
def State.chanTaken (s : State) (n : Nat) : Bool :=
  (s.chan n).isSome || s.mirrors.any (fun st => (tget st.built.chans n).isSome)

/-- The package acts for the stream that new channels and rings join (R156, R195). -/
def State.homeActs (s : State) : Bool :=
  match s.home with
  | some id => s.actsFor id
  | none => s.noStream

/-! ### CREATE_CQ and DELETE_CQ -/

/-- Orders 2 and 3 of CREATE_CQ (R74). -/
def createCqFields (e : W512) : Bool :=
  noData e && decide (targetOf e < 512) && W512.fld e 24 8 % 64 == 0 && W512.fld e 32 8 % 8 == 0 &&
    decide (4 ≤ W512.fld e 40 1) && decide (W512.fld e 40 1 ≤ 16) && decide (W512.fld e 41 1 < 2) &&
    decide (W512.fld e 42 1 < 2) && zeroIn e 43 44 && zeroIn e 48 56

/-- Orders 1 to 5 of CREATE_CQ. -/
def State.createCqBad (s : State) (e : W512) : Option Nat :=
  firstBad [(createCqFields e, stField),
    (!s.ringTaken (targetOf e) && (s.port (W512.fld e 41 1)).committed, stState)]

/-- CREATE_CQ takes effect (R74, R75, R82). -/
def effCreateCq : Effect := fun s h =>
  ({ s with rings := tset s.rings (targetOf h.entry) (mkRing h.entry s.feats.moderation h.stream) }, 0, 0)

/-- Orders 1 to 5 of DELETE_CQ (R76). -/
def State.deleteCqBad (s : State) (e : W512) : Option Nat :=
  let n := targetOf e
  firstBad [(noData e && decide (n < 512) && zeroIn e 24 56, stField),
    (((s.ring n).isSome && !(s.chans.any (fun c => c.2.cq == n)) && (s.ring n).all (fun r => r.posted == r.head)) ||
      ((s.ring n).isNone && s.foreignRing n), stState)]

/-- DELETE_CQ takes effect (R76). -/
def effDeleteCq : Effect := fun s h => ({ s with rings := terase s.rings (targetOf h.entry) }, 0, 0)

/-- The stream of a ring, where it exists here. -/
def State.ringStream (s : State) (n : Nat) : Option Nat := (s.ring n).map (fun r => r.stream)

/-- The package acts for the stream of a ring it has. -/
def State.ringActs (s : State) (n : Nat) : Bool := (s.ringStream n).any s.actsFor

/-! ### OPEN_CHANNEL and CLOSE_CHANNEL -/

/-- Orders 2 and 3 of OPEN_CHANNEL (R77). -/
def openChannelFields (e : W512) : Bool :=
  let pm := W512.fld e 48 4
  let px := W512.fld e 52 3
  noData e && decide (targetOf e < 4096) && W512.fld e 24 8 % 64 == 0 && W512.fld e 32 8 % 8 == 0 &&
    decide (4 ≤ W512.fld e 40 1) && decide (W512.fld e 40 1 ≤ 16) && decide (W512.fld e 41 1 < 2) &&
    decide (W512.fld e 42 2 < 512) && decide (1 ≤ W512.fld e 44 4) && decide (W512.fld e 44 4 < 4096) &&
    decide (pm ≤ 65536) && (px == 0 || (decide (1024 ≤ px) && decide (px ≤ 655360) && decide (poolMinOf e ≤ px))) &&
    decide (W512.fld e 55 1 < 3)

/-- Half the default pool, in granules (R78, R477). -/
def halfPool : Nat := 327680

/-- Orders 1 to 5 of OPEN_CHANNEL (R78). -/
def State.openChannelBad (s : State) (e : W512) : Option Nat :=
  let cq := W512.fld e 42 2
  firstBad [(openChannelFields e, stField),
    (!s.chanTaken (targetOf e) && ((s.ring cq).isSome || s.foreignRing cq) &&
      (tget s.progs (W512.fld e 44 4)).any (fun p => !p.gens.isEmpty) &&
      (W512.fld e 55 1 == 0 || s.feats.notices != 0) &&
      decide (s.chans.foldl (fun n c => n + c.2.poolMin) (poolMinOf e) ≤ halfPool), stState)]

/-- OPEN_CHANNEL takes effect (R77, R79): the group's arm word is written first where the group was armed or had no open
channel. -/
def effOpenChannel : Effect := fun s h =>
  let n := targetOf h.entry
  let g := n / 64
  let rearm := (s.group g).armed || (s.groupChans g).isEmpty
  let old := (tget s.closedChans n).getD {}
  let c := (mkChannel h.entry h.stream).carry old
  let s := { s with chans := tset s.chans n c, closedChans := terase s.closedChans n }
  let s := s.writeConsumed n
  let s := if rearm then s.disarm g
    else s.modGroup g (fun x => { x with live := true, lastChange := s.time.ns })
  (s, 0, 0)

/-- A completion of the channel is pending or undelivered (R80). -/
def State.chanHasEntries (s : State) (n : Nat) : Bool :=
  s.rings.any (fun r => (r.2.queue ++ r.2.entries ++ r.2.replay).any (fun e => e.kind != 5 && e.channel == n)) ||
    s.items.any (fun i => i.channel == n && !s.isOver i)

/-- An outbound message for the channel is held, or written by an item that has not ended (R80, R100). -/
def State.chanHolds (s : State) (n : Nat) (x : Channel) : Bool :=
  !x.outq.isEmpty || s.items.any (fun i => (i.state != .ended || i.status == 0) && i.emits.any (fun m => m.ch == n && !m.posted))

/-- The doorbell count that CLOSE_CHANNEL compares: read afresh, or the last one read (R80). -/
def State.closeDoorbell (s : State) (x : Channel) (word : Option W) : BitVec 32 :=
  if (s.port (s.chanPort x)).linkUp then (word.map (fun w => w.setWidth 32)).getD x.doorbell else x.doorbell

/-- An open channel may be closed (R80). -/
def State.mayClose (s : State) (n : Nat) (x : Channel) (word : Option W) : Bool :=
  s.closeDoorbell x word == x.consumed && !s.chanHasEntries n && x.marks.isEmpty &&
    !(s.dialogues.any (fun d => W512.fld d.context 30 2 % 4096 == n)) && !s.chanHolds n x && x.bufs.isEmpty

/-- Orders 1 to 5 of CLOSE_CHANNEL (R80). -/
def State.closeChannelBad (s : State) (e : W512) (word : Option W) : Option Nat :=
  let n := targetOf e
  firstBad [(noData e && decide (n < 4096) && zeroIn e 24 56, stField),
    (match s.chan n with
      | some x => s.mayClose n x word
      | none => s.foreignChan n, stState)]

/-- CLOSE_CHANNEL takes effect (R80). -/
def effCloseChannel : Effect := fun s h =>
  let n := targetOf h.entry
  match s.chan n with
  | none => (s, 0, 0)
  | some x => ({ s with chans := terase s.chans n, closedChans := tset s.closedChans n x }, 0, 0)

/-- The package acts for the stream of a channel it has. -/
def State.chanActs (s : State) (n : Nat) : Bool := ((s.chan n).map (fun x => x.stream)).any s.actsFor

/-! ### BIND_PORT -/

/-- Orders 1 to 5 of BIND_PORT (R49, R72). -/
def State.bindPortBad (s : State) (e : W512) : Option Nat :=
  let n := targetOf e
  let q := W512.fld e 24 1
  firstBad [(noData e && decide (n < 512) && decide (q < 2) && zeroIn e 25 56, stField),
    (((s.ring n).isSome || s.foreignRing n) && (s.port q).committed, stState)]

/-- BIND_PORT takes effect (R49, R51, R72): the ring is recovered where its old port is down or not committed, and consumed
counts that the old port could not write go out through the new one (R94). -/
def effBindPort (head : Option W) : Effect := fun s h =>
  let n := targetOf h.entry
  let q := W512.fld h.entry 24 1
  match s.ring n with
  | none => (s, 0, 0)
  | some r =>
    if r.port = q then (s, 0, 0)
    else
      let old := s.port r.port
      let s := s.modRing n (fun x => { x with port := q })
      ((if old.committed && old.linkUp then s else s.recoverRing n 3 head).writeLate q, 0, 0)

end Sys2Proof.Machine
end

