-- ==== Sys2Proof/Machine/Retire.lean ====
section
/-!
DEFINITION. Retirement of records (R174), the parts in service (R39, R508, R537), and the telemetry counters (R509).
-/

namespace Sys2Proof.Machine

/-! ### Retirement -/

/-- ARCHIVE_HOLD of JOURNAL_MODE (R159). -/
def State.archiveHold (s : State) : Bool := nbit s.feats.journalMode.toNat 8

/-- No closing record of a dialogue is in the log without being durable (R174). -/
def State.closedDurable (s : State) (st : Stream) (openJsn : Nat) : Bool :=
  st.log.all (fun e =>
    !((e.record.rtype == 5 && e.record.tfld 40 8 == openJsn) || (e.record.rtype == 6 && e.record.tfld 48 8 == openJsn)) ||
      s.durable st.id e.record.jsn)

/-- Every completion posted for an item has been delivered (R174). -/
def State.itemOver (s : State) (stream jsn : Nat) : Bool := (s.item stream jsn).all s.isOver

/-- The condition of R174 for a record other than ADOPT, ARCHIVE_HOLD left aside. -/
def State.spent (s : State) (st : Stream) (r : Record) : Bool :=
  let laterDurable (ty : Nat) : Bool :=
    st.log.any (fun e => e.record.rtype == ty && decide (r.jsn < e.record.jsn) && s.durable st.id e.record.jsn)
  match r.rtype with
  | 4 => s.itemOver st.id r.itemJsn && !(s.dialogues.any (fun d => d.stream == st.id && d.openJsn == r.jsn)) &&
      s.closedDurable st r.jsn
  | 7 => laterDurable 7
  | 8 => decide (r.jsn ≤ st.ckptJsn)
  | 9 => decide (r.jsn < st.lastSealJsn) && s.durable st.id st.lastSealJsn
  | _ => s.itemOver st.id r.itemJsn

/-- With ARCHIVE_HOLD a DIALOGUE_OPEN retires only once the item's other records lie below the archive cursor as well (R174). -/
def Stream.archived (st : Stream) (r : Record) : Bool :=
  r.rtype != 4 || st.log.all (fun e =>
    !(e.record.jsn == r.itemJsn || (e.record.itemJsn == r.itemJsn && e.record.rtype != 4)) || decide (e.record.jsn < st.cursor))

/-- A record of a stream has retired (R174). Records of a mirror or a superseded copy are taken as they stand. -/
def State.retired (s : State) (st : Stream) (r : Record) : Bool :=
  st.role == .primary && (!s.archiveHold || (decide (r.jsn < st.cursor) && st.archived r)) &&
    (if r.rtype = 10 then
      st.log.all (fun e => decide (r.jsn ≤ e.record.jsn) || e.record.rtype == 10 || s.spent st e.record)
    else s.spent st r)

/-- A record inserted into a list by rising JSN. -/
def insertJsn (r : Record) : List Record → List Record
  | [] => [r]
  | x :: xs => if r.jsn ≤ x.jsn then r :: x :: xs else x :: insertJsn r xs

/-- The records of a stream that have not retired, by rising JSN (R177, R180). -/
def State.kept (s : State) (st : Stream) : List Record :=
  ((st.log.map (fun e => e.record)).filter (fun r => !s.retired st r)).foldr insertJsn []

/-! ### Parts in service -/

/-- Deconfigured cores of a bench. -/
def State.deadCores (s : State) (b : Nat) : Nat :=
  (s.ident.deconf.filter (fun d => match d.1 with | .core x _ => x == b | _ => false)).length
/-- Deconfigured signature engines of a bench. -/
def State.deadSigs (s : State) (b : Nat) : Nat :=
  (s.ident.deconf.filter (fun d => match d.1 with | .signature x _ => x == b | _ => false)).length
/-- Deconfigured cipher engines of a bench. -/
def State.deadCiphers (s : State) (b : Nat) : Nat :=
  (s.ident.deconf.filter (fun d => match d.1 with | .cipher x _ => x == b | _ => false)).length

/-- Active cores of a bench: 24, one spare behind them (R2, R39). -/
def State.activeCores (s : State) (b : Nat) : Nat := min 24 (25 - s.deadCores b)
/-- Active signature engines of a bench: 32, one spare behind them. -/
def State.activeSigs (s : State) (b : Nat) : Nat := min 32 (33 - s.deadSigs b)
/-- Active cipher engines of a bench: 4. -/
def State.activeCiphers (s : State) (b : Nat) : Nat := 4 - s.deadCiphers b

/-- Spares left of a class of which `n` parts are deconfigured. -/
def spareLeft (n : Nat) : Nat := if n = 0 then 1 else 0

/-- Retired GDDR6 channels of a bench (R467). -/
def State.retiredCh (s : State) (b : Nat) : Nat :=
  ((List.range 6).filter (fun i => (s.gddrCh (6 * b + i)).retired)).length

/-- The sum of a count over the benches. -/
def overBenches (f : Nat → Nat) : Nat := (List.range 4).foldl (fun n b => n + f b) 0

/-- The sum of a count over the cores of a bench. -/
def State.overCores (s : State) (b : Nat) (f : Core → Nat) : Nat :=
  (List.range 24).foldl (fun n i => n + f (s.core (24 * b + i))) 0

/-! ### Telemetry -/

/-- The rejecting statuses in the order of R91's table (R509). -/
def rejectOrder : List Nat := [0x0101, 0x0102, 0x0103, 0x0104, 0x0107, 0x0105, 0x0303, 0x0502]

/-- A temperature as a counter. -/
def tempW (t : Int) : W := BitVec.ofInt 64 t

/-- The hottest of the sensors. -/
def State.hottest (s : State) : Int :=
  match s.therm.temps with
  | [] => 0
  | t :: ts => ts.foldl max t

/-- How many records of the primary streams the twin's STAGED frames do not cover (R35, R162). -/
def State.mirrorLag (s : State) : Nat :=
  if s.mirroring then s.lag else 0

/-- The counters of a channel, open or closed (R509). -/
def State.chanCounters (s : State) (n : Nat) : List Nat :=
  let c := ((s.chan n).or (tget s.closedChans n)).getD {}
  [c.accepted] ++ rejectOrder.map (fun st => (tget c.rejects st).getD 0) ++
    [c.doneOk, c.missTotal, c.faults, c.outPosted, c.outSpace, ((s.chan n).map (fun x => x.outq.length)).getD 0]

/-- The counters of a group and index in the order of R509. Task-level core cycles are free: core cycles are not counted
(log 10). -/
def State.counterList (s : State) (group index : Nat) : List W :=
  let nat (l : List Nat) : List W := l.map (fun n => BitVec.ofNat 64 n)
  match group with
  | 1 => nat [s.power.state, s.feats.coreClock.toNat, overBenches s.activeCores, overBenches (fun b => spareLeft (s.deadCores b)),
      overBenches (fun b => s.activeSigs b + s.activeCiphers b), overBenches (fun b => spareLeft (s.deadSigs b)),
      overBenches s.retiredCh, s.mramFailed.length, s.counters.misses, s.counters.faults]
  | 2 => nat [s.time.quality, s.errorNs, if s.time.source = .twin then 1 else 0, s.time.goods, s.time.outliers, s.time.missing,
      if s.time.armed.isSome then 1 else 0, (s.time.armed.map (fun a => a.1)).getD 0]
  | 3 => nat (s.chanCounters index)
  | 4 => let b := s.bench index
      nat ([b.taken, b.programFaults, b.tableFullWaits, (s.readyOn index).length] ++
        (List.range 10).map (fun a => (tget b.charge (a + 1)).getD 0) ++ [b.corrected, s.overCores index (fun k => k.atomicLong), s.overCores index (fun k => k.unitLong)])
  | 5 => let k := s.core index
      nat [k.retired] ++ [Config.freeWord (s.free + index)] ++ nat [k.residue, k.retries, k.borrowedMuls]
  | 6 => nat [(tget s.counters.sigDone index).getD 0, (tget s.counters.sigRetried index).getD 0,
      (tget s.counters.tokenFailures index).getD 0, (tget s.counters.cacheMisses index).getD 0]
  | 7 => nat [s.freeSpace 1000, s.counters.appends, s.counters.appended,
      s.counters.wedged, s.counters.seals, s.counters.mramCorrected, s.mirrorLag]
  | 8 => nat [s.link.discarded, s.link.naks, s.link.resends, s.link.sub0.retrains + s.link.sub1.retrains, s.link.hbMissed] ++
      [BitVec.ofInt 64 s.time.twinOffset]
  | 9 => let g := s.gddrCh index
      nat [g.readRetries, g.writeRetries, g.ecc, g.poison, g.retrains] ++ [tempW g.temp]
  | _ => [tempW s.hottest] ++ (List.range 5).map (fun i => tempW (s.therm.temps.getD i 0)) ++
      nat [s.therm.watts, s.therm.warnings, s.therm.trips]

/-- How many indices a telemetry group has; none for an illegal group (R509). -/
def groupIndices : Nat → Nat
  | 1 => 1
  | 2 => 1
  | 3 => 4096
  | 4 => 4
  | 5 => 96
  | 6 => 144
  | 7 => 1
  | 8 => 1
  | 9 => 24
  | 10 => 1
  | _ => 0

/-- The indices of a group whose counters are stored at a sample: those of channels never opened are 0. -/
def State.sampled (s : State) (group : Nat) : List Nat :=
  if group = 3 then (s.chans.map (fun c => c.1)) ++ (s.closedChans.map (fun c => c.1)) else List.range (groupIndices group)

/-- Every counter sampled (R509). -/
def State.sampleAll (s : State) : State :=
  let t := ((List.range 10).map (fun g => g + 1)).foldl (fun acc g =>
    (s.sampled g).foldl (fun (acc : Tbl (List W)) i => tset acc (g * 65536 + i) (s.counterList g i)) acc) []
  { s with sample := t, sampleAt := s.time.ns, free := s.free + 96 }

end Sys2Proof.Machine
end

