-- ==== Sys2Proof/Machine/AdminRead.lean ====
section
/-!
DEFINITION. The admin commands that read: IDENTIFY (R537), GET_FEATURE (R73), JOURNAL_READ (R176, R179, R180), CHANNEL_STATE
(R181), TELEMETRY_READ (R509) and ERROR_LOG_READ (R506, R507).
-/

namespace Sys2Proof.Machine

/-! ### IDENTIFY -/

/-- The firmware slot that runs (R494). -/
def State.fwVersion (s : State) : Nat := (s.ident.fwSlots.getD s.ident.fwRunning ⟨0, 0, false⟩).version

/-- An entry of the DECONFIGURED section (R537). -/
def deconfEntry (d : PartRef × Nat) : Bytes :=
  let f : Nat × Nat × Nat := match d.1 with
    | .core b p => (1, b, p)
    | .signature b n => (2, b, n)
    | .cipher b n => (3, b, n)
    | .gddr c => (4, c / 6, c)
    | .mram m => (5, 0xFF, m)
  leBytes 1 f.1 ++ leBytes 1 f.2.1 ++ leBytes 2 f.2.2 ++ leBytes 4 d.2

/-- An entry of the FUSED_OPCODES section (R537). -/
def FusedOp.entry (o : FusedOp) : Bytes :=
  leBytes 2 o.op ++ leBytes 1 o.format ++ leBytes 1 o.prefixes ++ leBytes 1 o.levels ++ leBytes 3 0

/-- An entry of the ERROR_CODES section: 48 bytes (R537). -/
def errorCodeEntry (c : Config.ErrorCode) : Bytes :=
  leBytes 1 c.unit ++ leBytes 1 c.severity ++ leBytes 2 c.code ++ leBytes 4 0 ++ padTo 40 c.text

/-- The sections of the stream, KIND 1 to 4, placed back to back (R537). -/
def State.sections (s : State) : List Bytes :=
  [(Config.certificates s.ident.serial).flatten, (Config.errorCodes s.fwVersion).flatMap errorCodeEntry, s.ident.fusedOps.flatMap FusedOp.entry,
    s.ident.deconf.flatMap deconfEntry]

/-- A directory entry of page 0. -/
def dirEntry (kind len off : Nat) : Bytes := leBytes 1 kind ++ leBytes 3 0 ++ leBytes 4 len ++ leBytes 8 off

/-- The directory of page 0: each section's KIND, LENGTH and OFFSET. -/
def directory : Nat → Nat → List Bytes → Bytes
  | _, _, [] => []
  | kind, off, b :: bs => dirEntry kind b.length off ++ directory (kind + 1) (off + b.length) bs

/-- PAGE_COUNT (R537). -/
def State.pageCount (s : State) : Nat := 1 + ceilDiv (s.sections.flatten).length 4096

/-- GRADE of DEVICE_ID and the letter of the ordering code. -/
def State.gradeByte (s : State) : Nat := if s.ident.gradeE then 0x45 else 0x43

/-- ORDERING_CODE: "OLF9600-" and the grade (R537). -/
def State.orderingCode (s : State) : Bytes := padTo 16 ([0x4F, 0x4C, 0x46, 0x39, 0x36, 0x30, 0x30, 0x2D] ++ [BitVec.ofNat 8 s.gradeByte])

/-- BENCH_b of page 0. -/
def State.benchField (s : State) (b : Nat) : Bytes :=
  padTo 16 ([s.activeCores b, spareLeft (s.deadCores b), s.activeSigs b, spareLeft (s.deadSigs b), s.activeCiphers b,
    s.retiredCh b].map (fun n => BitVec.ofNat 8 n))

/-- Page 0 (R537). -/
def State.page0 (s : State) : Bytes :=
  let head := s.orderingCode ++ leBytes 1 0xB0 ++ leBytes 1 s.gradeByte ++ leBytes 6 0 ++ leBytes 8 s.ident.serial.toNat ++
    leBytes 4 s.fwVersion ++ leBytes 4 s.ident.rollback ++ leBytes 2 s.pageCount ++ leBytes 2 0 ++
    leBytes 4 (if s.ucode.loaded then s.ucode.id else 0) ++ leBytes 2 s.ident.subVendor.toNat ++ leBytes 2 s.ident.subId.toNat ++
    leBytes 1 s.link.pair ++ leBytes 1 (if s.vault.active then 1 else 0) ++
    leBytes 1 (if s.ident.ucodeKey.isSome then 1 else 0) ++ leBytes 9 0
  let mid := padTo 256 (head ++ (List.range 4).flatMap s.benchField ++ leBytes 1 s.mramFailed.length)
  padTo 4096 (mid ++ directory 1 0 s.sections)

/-- A page of IDENTIFY (R537). -/
def State.page (s : State) (n : Nat) : Bytes :=
  if n = 0 then s.page0 else padTo 4096 ((s.sections.flatten).drop (4096 * (n - 1)))

/-- IDENTIFY (R537). -/
def execIdentify (p : Nat) (wrOk : Bool) (s : State) : Out3 :=
  adminRow p (isOp 0x01) s (fun s e =>
    let n := W512.fld e 24 2
    if !(commonOk e && dataLenOf e == 4096 && targetOf e == 0 && zeroIn e 26 56 && decide (n < s.pageCount)) then
      s.rejectCmd p e stField
    else s.finishRead p e (s.page n) 4096 false wrOk)

/-! ### GET_FEATURE -/

/-- The value of a feature (R73). -/
def Feats.get (f : Feats) : Nat → Option W
  | 1 => some f.journalMode
  | 2 => some f.journalSplit
  | 3 => some f.sealAlg
  | 4 => some f.benchSplit
  | 5 => some f.coreClock
  | 6 => some f.timeQuality
  | 7 => some f.unsync
  | 8 => some f.tdes
  | 9 => some f.notices
  | 10 => some f.moderation
  | _ => none

/-- GET_FEATURE (R73). -/
def execGetFeature (p : Nat) (s : State) : Out3 :=
  adminRow p (isOp 0x02) s (fun s e =>
    match s.feats.get (W512.fld e 24 2) with
    | some v => if noData e && targetOf e == 0 && zeroIn e 26 56 then s.finish p e 0 0 v else s.rejectCmd p e stField
    | none => s.rejectCmd p e stField)

/-! ### JOURNAL_READ -/

/-- Orders 2 and 3 of JOURNAL_READ (R179). -/
def journalReadFields (e : W512) : Bool :=
  let sel := W512.fld e 24 1
  let ch := W512.fld e 26 2
  let first := W512.fld e 40 8
  let last := W512.fld e 48 8
  commonOk e && dataLenOf e % 64 == 0 && decide (4096 ≤ dataLenOf e) && decide (dataLenOf e ≤ 16777216) && targetOf e == 0 &&
    decide (sel < 2) && decide (W512.fld e 25 1 < 4) && (if sel = 0 then ch == 0 else decide (ch < 4096)) && zeroIn e 28 32 &&
    decide (1 ≤ first) && (last == 0 || decide (first ≤ last))

/-- The channel of an item, from its ACCEPT or EXPIRY record, or from its DONE record where that one has gone (R166). -/
def Stream.itemChannel (st : Stream) (item : Nat) : Option Nat :=
  ((st.find item).or ((st.log.find? (fun e => e.record.rtype == 3 && e.record.itemJsn == item)).map (fun e => e.record))).map
    (fun r => r.channel)

/-- A record is selected by channel (R179). -/
def Stream.concerns (st : Stream) (ch : Nat) (r : Record) : Bool :=
  (r.channel == ch) || (r.itemJsn != 0 && st.itemChannel r.itemJsn == some ch)

/-- Records that fit into a number of bytes, and the JSN of the first that does not (R180). -/
def fitRecords (headers : Bool) : Nat → List Record → List Record × Option Nat
  | _, [] => ([], none)
  | room, r :: rs =>
    let n := if headers then 64 else r.size
    if room < n then ([], some r.jsn)
    else
      let t := fitRecords headers (room - n) rs
      (r :: t.1, t.2)

/-- HEAD_JSN of a stream (R180). -/
def Stream.headJsn (st : Stream) : Nat := if st.role = .mirror then st.rxStaged + 1 else st.nextJsn

/-- NEXT_JSN (R180). -/
def nextJsnOf (stop : Option Nat) (first last head : Nat) : Nat :=
  match stop with
  | some j => j
  | none => if last = 0 ∨ last < head then 0 else max first head

/-- The archive cursor after an advance (R176). -/
def newCursor (cursor first last head next : Nat) : Nat :=
  if cursor < first then cursor
  else max cursor (if next ≠ 0 then min next head else if last ≠ 0 then min (last + 1) head else head)

/-- JOURNAL_READ on a stream: the bytes written, NEXT_JSN and the cursor afterwards (R176, R180). -/
def State.readJournal (s : State) (e : W512) (st : Stream) : Bytes × Nat × Nat :=
  let first := W512.fld e 40 8
  let last := W512.fld e 48 8
  let head := st.headJsn
  let headers := nbit (W512.fld e 25 1) 1
  let kept := s.kept st
  let inRange := kept.filter (fun r => decide (first ≤ r.jsn) && (last == 0 || decide (r.jsn ≤ last)) && decide (r.jsn < head))
  let sel := if W512.fld e 24 1 = 0 then inRange else inRange.filter (st.concerns (W512.fld e 26 2))
  let f := fitRecords headers (dataLenOf e - 64) sel
  let next := nextJsnOf f.2 first last head
  let cursor := if nbit (W512.fld e 25 1) 0 ∧ W512.fld e 24 1 = 0 then newCursor st.cursor first last head next
    else st.cursor
  let body := f.1.flatMap (fun r => if headers then r.bytes.take 64 else r.bytes)
  let tail := ((kept.head?).map (fun r => r.jsn)).getD head
  (leBytes 8 st.id ++ leBytes 8 next ++ leBytes 8 tail ++ leBytes 8 head ++ leBytes 4 f.1.length ++ leBytes 4 body.length ++
    leBytes 8 cursor ++ leBytes 16 0 ++ body, next, cursor)

/-- The stream that JOURNAL_READ names (R179): 0 selects the primary in area 0. -/
def State.readStream (s : State) (id : Nat) : Option Stream :=
  if id = 0 then s.area0.filter (fun st => st.role == .primary) else s.stream id

/-- JOURNAL_READ (R176, R179, R180). -/
def execJournalRead (p : Nat) (wrOk : Bool) (s : State) : Out3 :=
  adminRow p (isOp 0x70) s (fun s e =>
    if !journalReadFields e then s.rejectCmd p e stField
    else match s.readStream (W512.fld e 32 8) with
    | none => s.rejectCmd p e stState
    | some st =>
      let r := s.readJournal e st
      let s := if wrOk && (s.port p).masters then s.modStream st.id (fun x => { x with cursor := r.2.2 }) else s
      s.finishRead p e r.1 (BitVec.ofNat 64 r.2.1) (s.port p).relaxed wrOk)

/-! ### CHANNEL_STATE -/

/-- The submission count below which every accepted MSG_IN has a durable DONE record (R181). -/
def State.doneIndex (s : State) (n : Nat) (x : Channel) : BitVec 32 :=
  (s.items.filter (fun i => i.channel == n && i.kind == .message && !s.postable i)).foldl
    (fun m i => if idxBefore i.idx m then i.idx else m) x.consumed

/-- The consumed count that a copy of a stream shows for a channel: past its last ACCEPT record (log 42). -/
def Stream.copyConsumed (st : Stream) (n : Nat) : BitVec 32 := ((tget st.accepts n).map (fun x => x.2)).getD 0

/-- CHANNEL_STATE of an open channel (R181). -/
def State.openChanState (s : State) (n : Nat) (x : Channel) : Bytes :=
  let st := s.stream x.stream
  let r := s.ring x.cq
  let w (k : Nat) : Bytes := leBytes 4 k
  leBytes 1 (if x.stopped then 2 else 1) ++ leBytes 1 (s.chanPort x) ++ leBytes 2 x.cq ++
    w ((st.map (fun y => y.adoption)).getD 0) ++ leBytes 8 x.stream ++ w x.consumed.toNat ++ w (s.doneIndex n x).toNat ++
    w ((r.map (fun y => y.posted.toNat)).getD 0) ++ w ((r.map (fun y => y.head.toNat)).getD 0) ++ leBytes 8 x.lastAccept ++
    leBytes 8 x.lastDone ++ leBytes 8 ((st.map (fun y => y.lastMirrored)).getD 0) ++
    w (s.dialogues.filter (fun d => W512.fld d.context 30 2 % 4096 == n)).length ++ w x.outq.length ++ w x.bufs.length ++
    w (min x.misses 0xFFFFFFFF)

/-- Where the first ACCEPT record of a channel without a DONE record in the log stands: below its submission count every
accepted MSG_IN of the copy has one (R181). -/
def Stream.copyDone (st : Stream) (n : Nat) : BitVec 32 :=
  let open_ := (st.log.map (fun e => e.record)).filter (fun r => r.rtype == 1 && r.channel == n &&
    !(st.log.any (fun e => e.record.rtype == 3 && e.record.itemJsn == r.jsn)))
  open_.foldl (fun m r => let i := BitVec.ofNat 32 (r.tfld 32 4); if idxBefore i m then i else m) (st.copyConsumed n)

/-- Dialogues of a copy with an ORIGIN_CHANNEL: opened, and neither closed nor expired by a record of its log (R181). -/
def Stream.copyDialogues (st : Stream) (n : Nat) : Nat :=
  let rs := st.log.map (fun e => e.record)
  (rs.filter (fun r => r.rtype == 4 && bfld r.body 30 2 % 4096 == n && !(rs.any (fun x =>
    (x.rtype == 5 && x.tfld 40 8 == r.jsn) || (x.rtype == 6 && x.tfld 48 8 == r.jsn))))).length

/-- Deadline misses of a channel in the DONE records of a copy (R181). -/
def Stream.copyMisses (st : Stream) (n : Nat) : Nat :=
  (st.log.filter (fun e => e.record.rtype == 3 && e.record.channel == n && e.record.tfld 32 2 == stMissed)).length

/-- CHANNEL_STATE of a channel that is held in a copy only, as far as the copy's records say it; a copy posts and holds
nothing, and the counts of its ring are in no record (R181, log 99). -/
def copyChanState (n : Nat) (st : Stream) (x : Channel) : Bytes :=
  leBytes 1 (if st.role = .mirror then 3 else 4) ++ leBytes 1 (((tget st.built.rings x.cq).map (fun r => r.port)).getD 0) ++
    leBytes 2 x.cq ++ leBytes 4 st.adoption ++ leBytes 8 st.id ++ leBytes 4 (st.copyConsumed n).toNat ++
    leBytes 4 (st.copyDone n).toNat ++ leBytes 8 0 ++ leBytes 8 (((tget st.accepts n).map (fun a => a.1)).getD 0) ++
    leBytes 8 ((tget st.dones n).getD 0) ++ leBytes 8 st.lastMirrored ++ leBytes 4 (st.copyDialogues n) ++ leBytes 8 0 ++
    leBytes 4 (min (st.copyMisses n) 0xFFFFFFFF)

/-- CHANNEL_STATE of any channel number (R181). -/
def State.chanState (s : State) (n : Nat) : Bytes :=
  padTo 128 (match s.chan n with
    | some x => s.openChanState n x
    | none =>
      match s.others.find? (fun st => (tget st.built.chans n).isSome) with
      | some st => copyChanState n st ((tget st.built.chans n).getD {})
      | none => [])

/-- CHANNEL_STATE (R181). -/
def execChannelState (p : Nat) (wrOk : Bool) (s : State) : Out3 :=
  adminRow p (isOp 0x71) s (fun s e =>
    if !(commonOk e && dataLenOf e == 128 && decide (targetOf e < 4096) && zeroIn e 24 56) then s.rejectCmd p e stField
    else s.finishRead p e (s.chanState (targetOf e)) 0 false wrOk)

/-! ### TELEMETRY_READ and ERROR_LOG_READ -/

/-- What the last sample holds of a group and index: 0 before any (R509). -/
def State.sampleOf (s : State) (group index : Nat) : List W :=
  (tget s.sample (group * 65536 + index)).getD ((s.counterList group index).map (fun _ => 0))

/-- TELEMETRY_READ (R509). -/
def execTelemetryRead (p : Nat) (wrOk : Bool) (s : State) : Out3 :=
  adminRow p (isOp 0x72) s (fun s e =>
    let g := W512.fld e 24 1
    let i := W512.fld e 28 4
    if !(commonOk e && dataLenOf e == 4096 && targetOf e == 0 && zeroIn e 25 28 && zeroIn e 32 56 && decide (i < groupIndices g)) then
      s.rejectCmd p e stField
    else s.finishRead p e (leBytes 8 s.sampleAt ++ (s.sampleOf g i).flatMap (fun w => leBytes 8 w.toNat)) 0 false wrOk)

/-- An error-log entry as stored (R506). -/
def LogEntry.bytes (l : LogEntry) : Bytes :=
  leBytes 8 l.seq ++ leBytes 8 l.time ++ leBytes 1 l.severity ++ leBytes 1 l.unit ++ leBytes 2 l.number ++ leBytes 2 l.code ++
    leBytes 2 0 ++ leBytes 8 l.jsn ++ leBytes 32 l.detail.toNat

/-- ERROR_LOG_READ (R507). With no entry to return, the manual gives no RESULT: it is free (log 4). -/
def execErrorLogRead (p : Nat) (wrOk : Bool) (s : State) : Out3 :=
  adminRow p (isOp 0x73) s (fun s e =>
    let n := dataLenOf e
    if !(commonOk e && n % 64 == 0 && decide (64 ≤ n) && decide (n ≤ 1048576) && targetOf e == 0 && zeroIn e 24 32 && zeroIn e 40 56) then
      s.rejectCmd p e stField
    else
      let l := ((s.elog.reverse).filter (fun x => decide (W512.fld e 32 8 ≤ x.seq))).take (n / 64)
      match l.getLast? with
      | none => (s.finishRead p e [] s.freeVal false wrOk).nextFree
      | some x => s.finishRead p e (l.flatMap LogEntry.bytes) (BitVec.ofNat 64 (x.seq + 1)) false wrOk)

end Sys2Proof.Machine
end

