-- ==== Sys2Proof/Machine/AdminProg.lean ====
section
/-!
DEFINITION. Channel programs: LOAD_PROGRAM (R205 to R207, R212), ACTIVATE_PROGRAM (R208), retirement of generations (R210),
and the generations that CONFIG records name (R212).
-/

namespace Sys2Proof.Machine

/-! ### LOAD_PROGRAM -/

/-- TARGET names a program identifier (R205). -/
def progId (n : Nat) : Bool := decide (1 ≤ n) && decide (n < 4096)

/-- RESTORE of LOAD_PROGRAM (R205). -/
def isRestore (e : W512) : Bool := nbit (W512.fld e 25 1) 1

/-- Orders 2 and 3 of LOAD_PROGRAM (R205). -/
def loadProgramFields (e : W512) : Bool :=
  let n := dataLenOf e
  commonOk e && decide (1 ≤ n) && decide (n ≤ 16777216) && progId (targetOf e) && decide (1 ≤ W512.fld e 24 1) &&
    decide (W512.fld e 24 1 < 16) && decide (W512.fld e 25 1 < 4) && decide (W512.fld e 26 1 < 16) && zeroIn e 27 28 &&
    decide (1 ≤ W512.fld e 28 4) && decide (W512.fld e 32 4 < W512.fld e 36 4) && decide (1 ≤ W512.fld e 36 4) &&
    decide (W512.fld e 36 4 ≤ n) && decide (W512.fld e 40 4 ≤ 262144) && decide (W512.fld e 44 2 ≤ 10000) &&
    decide (W512.fld e 46 2 < 4096) && zeroIn e 48 56

/-- PARAMS as RESTORE compares them: FLAGS bit 1 left out (R212). -/
def restoreParams (e : W512) : BitVec 256 := BitVec.ofNat 256 (nbits e.toNat 192 256 &&& (2 ^ 256 - 1 - 2 ^ 9))

/-- The generation that a LOAD_PROGRAM entry describes (R205, R207). -/
def mkGen (e : W512) (sha : BitVec 256) (codeAt : Nat) : Gen :=
  let mask := if W512.fld e 26 1 = 0 then 15 else W512.fld e 26 1
  { gen := W512.fld e 28 4, key := W512.fld e 24 1, serial := nbit (W512.fld e 25 1) 0, mask := BitVec.ofNat 4 mask
    entry := W512.fld e 32 4, codeLen := W512.fld e 36 4, dataLen := dataLenOf e, pages := W512.fld e 40 4
    turn := if W512.fld e 44 2 = 0 then 2000 else W512.fld e 44 2, share := W512.fld e 46 2, sha := sha, codeAt := codeAt
    params := restoreParams e }

/-- Bytes of external memory that programs have (R463, R470). -/
def extSize : Nat := 0x500000000

/-- Length rounded up to whole frames. -/
def frameUp (n : Nat) : Nat := ceilDiv n 4096 * 4096

/-- External memory that programs use: base and length of every image and data area. -/
def State.usedSpans (s : State) : List (Nat × Nat) :=
  s.progs.flatMap (fun p =>
    (p.2.gens.filter (fun g => !g.absent)).map (fun g => (g.codeAt, frameUp g.dataLen)) ++
      (if p.2.placed && p.2.pages != 0 then [(p.2.dataAt, 4096 * p.2.pages)] else []))

/-- A span of frames is free of others and within external memory. -/
def spanFree (used : List (Nat × Nat)) (at_ n : Nat) : Bool :=
  at_ % 4096 == 0 && decide (at_ + n ≤ extSize) && used.all (fun u => decide (u.1 + u.2 ≤ at_) || decide (at_ + n ≤ u.1))

/-- Places at which a free span could begin: the base of memory and the ends of the spans in use. -/
def spanStarts (used : List (Nat × Nat)) : List Nat := 0 :: used.map (fun u => u.1 + u.2)

/-- The data area that a LOAD_PROGRAM must create, in bytes: 0 where the identifier has one or needs none. -/
def State.newArea (s : State) (e : W512) : Nat :=
  if (tget s.progs (targetOf e)).any (fun p => p.placed) then 0 else 4096 * W512.fld e 40 4

/-- External memory can hold the image and the data area (R206). -/
def State.canPlace (s : State) (e : W512) : Bool :=
  let used := s.usedSpans
  let code := frameUp (dataLenOf e)
  let area := s.newArea e
  (spanStarts used).any (fun c => spanFree used c code &&
    (area == 0 || (spanStarts ((c, code) :: used)).any (fun d => spanFree ((c, code) :: used) d area)))

/-- The places the device chose hold the image and the data area. -/
def State.placeOk (s : State) (e : W512) (codeAt dataAt : Nat) : Bool :=
  let used := s.usedSpans
  let code := frameUp (dataLenOf e)
  spanFree used codeAt code && (s.newArea e == 0 || spanFree ((codeAt, code) :: used) dataAt (s.newArea e))

/-- An identifier holds a data area (R206). -/
def Prog.holdsArea (p : Prog) : Bool := p.placed && p.pages != 0

/-- Generations of the package in all (R206). -/
def State.genCount (s : State) : Nat := s.progs.foldl (fun n p => n + p.2.gens.length) 0

/-- A RESTORE matches an absent generation (R212). -/
def State.restoreOk (s : State) (e : W512) (sha : BitVec 256) : Bool :=
  (s.genOf (targetOf e) (W512.fld e 28 4)).any (fun g => g.absent && g.sha == sha && g.params == restoreParams e)

/-- Order 5 of LOAD_PROGRAM (R206, R212). -/
def State.loadProgramState (s : State) (e : W512) (sha : BitVec 256) : Bool :=
  let p := (tget s.progs (targetOf e)).getD {}
  let share := W512.fld e 46 2
  (if isRestore e then s.restoreOk e sha
    else decide (p.highest < W512.fld e 28 4) && decide (p.gens.length < 4)) && decide (s.genCount < 1024) &&
    ((p.gens.isEmpty && !p.holdsArea) || (p.pages == W512.fld e 40 4 && p.key == W512.fld e 24 1)) &&
    (share == 0 || (tget s.progs share).any (fun q => q.holdsArea && q.key == W512.fld e 24 1)) && s.canPlace e

/-- Frames of a span given a key and GUARD. -/
def State.setFrames (s : State) (at_ n : Nat) (key : BitVec 4) (guard_ : Bool) : State :=
  (List.range (ceilDiv n 4096)).foldl (fun t i =>
    let f := at_ / 4096 + i
    t.setFrame f { t.frameWord f with key := key, guard_ := guard_ }) s

/-- An image placed in external memory (R207). -/
def State.placeImage (s : State) (at_ : Nat) (image : Bytes) : State :=
  ((s.clearMem at_ (frameUp image.length)).writeMem at_ image).setFrames at_ image.length 0 false

/-- A data area created: zeros, KEY and GUARD 1 (R207). -/
def State.placeArea (s : State) (at_ n key : Nat) : State :=
  (s.clearMem at_ n).setFrames at_ n (BitVec.ofNat 4 key) true

/-- A generation replaced or added. -/
def Prog.putGen (p : Prog) (g : Gen) : Prog :=
  if p.gens.any (fun x => x.gen == g.gen) then { p with gens := p.gens.map (fun x => if x.gen = g.gen then g else x) }
  else { p with gens := p.gens ++ [g] }

/-- LOAD_PROGRAM takes effect (R207, R212). -/
def effLoadProgram (data : Option Bytes) (codeAt dataAt : Nat) : Effect := fun s h =>
  let e := h.entry
  let image := padTo (dataLenOf e) (data.getD [])
  let n := targetOf e
  let p := (tget s.progs n).getD {}
  let area := s.newArea e
  let old := p.gens.find? (fun x => x.gen == W512.fld e 28 4)
  let g := { mkGen e (Config.sha256 image) codeAt with switch := old.bind (fun x => x.switch) }
  let s := s.placeImage codeAt image
  let s := if area = 0 then s else s.placeArea dataAt area (W512.fld e 24 1)
  let p := { p.putGen g with
    pages := W512.fld e 40 4, key := W512.fld e 24 1, dataAt := if area = 0 then p.dataAt else dataAt
    placed := true, highest := max p.highest g.gen }
  (({ s with progs := tset s.progs n p }).refreshReady, 0, 0)

/-! ### ACTIVATE_PROGRAM -/

/-- Orders 2 and 3 of ACTIVATE_PROGRAM (R208). -/
def activateFields (e : W512) : Bool :=
  noData e && progId (targetOf e) && zeroIn e 24 28 && decide (1 ≤ W512.fld e 28 4) && zeroIn e 40 56

/-- Order 5 of ACTIVATE_PROGRAM but for the comparison with the stamp (R208). -/
def State.activateState (s : State) (e : W512) : Bool :=
  let at_ := W512.fld e 32 8
  (s.genOf (targetOf e) (W512.fld e 28 4)).any (fun g => g.switch.isNone) &&
    ((tget s.progs (targetOf e)).map (fun p => p.gens)).any (fun l => l.all (fun g => g.switch.all (fun t => decide (t < at_))))

/-- A switch instant set. -/
def Prog.activate (p : Prog) (gen at_ : Nat) : Prog :=
  { p with gens := p.gens.map (fun g => if g.gen = gen then { g with switch := some at_ } else g) }

/-- ACTIVATE_PROGRAM takes effect (R208). -/
def effActivateProgram : Effect := fun s h =>
  let e := h.entry
  ({ s with progs := tmod s.progs (targetOf e) (fun p => p.activate (W512.fld e 28 4) (W512.fld e 32 8)) }, 0, 0)

/-- An instant lies more than 1 ledger ms after the stamp of the append (R130, R208, R535). -/
def State.laterThanMs (s : State) (x : Nat) : Bool := decide (s.time.ns + 1000000 < x)

/-! ### Retirement -/

/-- A generation may retire (R210). -/
def State.mayRetire (s : State) (prog : Nat) (g : Gen) : Bool :=
  g.switch.isSome && (s.genAt prog s.time.ns).any (fun f => f.gen != g.gen && decide (g.switch.getD 0 < f.switch.getD 0)) &&
    s.items.all (fun i => !(i.program == prog && i.gen == some g.gen) || i.state == .ended)

/-- GENERATION_RETIRE (R210): the code frames are freed. -/
def execGenerationRetire (prog gen : Nat) (s : State) : Out3 :=
  .next (
    match s.genOf prog gen with
    | none => s
    | some g =>
      if !s.mayRetire prog g then s
      else
        let s := if g.absent then s else s.setFrames g.codeAt g.dataLen 0 true
        { s with progs := tmod s.progs prog (fun p => { p with gens := p.gens.filter (fun x => x.gen != gen) }) })

/-! ### Generations known from CONFIG records (R212) -/

/-- A LOAD_PROGRAM or ACTIVATE_PROGRAM record of an adopted stream: a generation the package does not hold is absent. -/
def State.learnProgram (s : State) (r : Record) : State :=
  let e := W512.ofBytes (r.body.take 64)
  let n := r.tfld 36 4
  if r.tfld 32 1 ≠ 0 ∧ r.tfld 32 1 ≠ 1 then s
  else if r.tfld 33 1 = 0x20 ∧ !isRestore e then
    let p := (tget s.progs n).getD {}
    if p.gens.any (fun g => g.gen == W512.fld e 28 4) then s
    else
      let sha := if r.tfld 41 1 = 2 then BitVec.ofNat 256 (beVal ((r.body.drop 64).take 32)) else Config.sha256 (r.body.drop 64)
      let g := { mkGen e sha 0 with absent := true }
      { s with progs := tset s.progs n { p.putGen g with
          pages := W512.fld e 40 4, key := W512.fld e 24 1, highest := max p.highest g.gen } }
  else if r.tfld 33 1 = 0x21 then
    { s with progs := tmod s.progs n (fun p => { p with
        gens := p.gens.map (fun g => if g.gen = W512.fld e 28 4 ∧ g.switch = none then { g with switch := some (W512.fld e 32 8) } else g) }) }
  else s

end Sys2Proof.Machine
end

