-- ==== Sys2Proof/Machine/Tokens.lean ====
section
/-!
DEFINITION. Tokens (R249), their checks (R250), and their making (R256, R257, R264).
-/

namespace Sys2Proof.Machine

/-- FORMAT of a token (R249). -/
def tkFormat (t : Bytes) : Nat := bfld t 0 1
/-- FLAGS. -/
def tkFlags (t : Bytes) : Nat := bfld t 1 1
/-- RIGHTS. -/
def tkRights (t : Bytes) : Nat := bfld t 2 2
/-- SLOT. -/
def tkSlot (t : Bytes) : Nat := bfld t 4 4
/-- GENERATION. -/
def tkGen (t : Bytes) : Nat := bfld t 8 4
/-- CHANNEL. -/
def tkChannel (t : Bytes) : Nat := bfld t 12 2
/-- SPAN_LOG2. -/
def tkSpan (t : Bytes) : Nat := bfld t 14 1
/-- SEAL_KEY_ID. -/
def tkSealId (t : Bytes) : Nat := bfld t 15 1
/-- VALID_FROM. -/
def tkFrom (t : Bytes) : Nat := bfld t 16 8
/-- VALID_UNTIL. -/
def tkUntil (t : Bytes) : Nat := bfld t 24 8

/-- The token statuses (R112). -/
def stSeal : Nat := 0x0201
/-- TOKEN_RIGHTS. -/
def stRights : Nat := 0x0202
/-- TOKEN_WINDOW. -/
def stWindow : Nat := 0x0203
/-- TOKEN_GENERATION. -/
def stGeneration : Nat := 0x0204
/-- KEY_ABSENT. -/
def stKeyAbsent : Nat := 0x0205

/-- A sealing key the hub holds (R246). -/
def State.sealKey (s : State) (id : Nat) : Option (BitVec 256) :=
  if id = 0 then (if s.su.vaultMade then some s.vault.pkgKey else none) else s.vault.sealKeys.lookup id

/-- SEAL over bytes 0 to 31 under a sealing key (R249). -/
def sealOf (key : BitVec 256) (head : Bytes) : Bytes := beBytes 16 (Config.aesCmac (headBytes key) head).toNat

/-- The reserved fields of bytes 0 to 31 are 0 (R249). -/
def tkReservedOk (t : Bytes) : Bool :=
  decide (tkFlags t < 2) && decide (tkRights t < 2 ^ 11) && decide (tkSlot t < 2 ^ 20) && decide (tkChannel t < 4096) &&
    (nbit (tkFlags t) 0 || tkChannel t == 0) && (tkFormat t != 1 || tkSpan t == 0)

/-- Order 1 of R250. -/
def State.sealOk (s : State) (t : Bytes) : Bool :=
  (tkFormat t == 1 || tkFormat t == 2) && tkReservedOk t &&
    (s.sealKey (tkSealId t)).any (fun k => sealOf k (t.take 32) == (t.drop 32).take 16)

/-- What a token is presented for (R250): the format, the rights, the submitting item's channel for a channel program,
the slots named, whether orders 4 and 5 are skipped (R255), and what the key must serve (order 7). -/
structure TokenUse where
  format : Nat
  rights : Nat
  channel : Option Nat := none
  lo : Nat := 0
  count : Nat := 0
  restore : Bool := false
  deriving DecidableEq, Repr

/-- The range of a provisioning token holds the slots named (R249, R250). -/
def tkCovers (t : Bytes) (lo count : Nat) : Bool :=
  decide (tkSlot t ≤ lo) && decide (lo + count ≤ tkSlot t + 2 ^ tkSpan t)

/-- Order 3 of R250. -/
def boundOk (t : Bytes) (u : TokenUse) : Bool :=
  (!nbit (tkFlags t) 0 || u.channel == some (tkChannel t)) && (tkFormat t != 2 || tkCovers t u.lo u.count)

/-- Order 5 of R250. -/
def State.genOk (s : State) (t : Bytes) : Bool :=
  tkGen t == (if tkFormat t = 2 then s.vault.provGen else (s.vslot (tkSlot t)).gen)

/-- The checks of R250 in order; `cached` says that the seal was verified before (R277), `fits` is order 7. -/
def State.tokenBad (s : State) (t : Bytes) (u : TokenUse) (cached : Bool) (fits : VSlot → Bool) : Option Nat :=
  let key : Bool := tkFormat t == 1
  firstBad [(cached || s.sealOk t, stSeal),
    (tkFormat t == u.format && (tkRights t &&& u.rights) == u.rights, stRights),
    (boundOk t u, stRights),
    (u.restore || (decide (tkFrom t ≤ s.time.ns) && (decide (s.time.ns < tkUntil t))), stWindow),
    (u.restore || s.genOk t, stGeneration),
    (!key || (s.vslot (tkSlot t)).st == .loaded, stKeyAbsent),
    (!key || fits (s.vslot (tkSlot t)), stRights)]

/-- Bytes 0 to 31 of a token from its fields (R249). -/
def tokenHead (format flags rights slot gen channel span sealId from_ until_ : Nat) : Bytes :=
  leBytes 1 format ++ leBytes 1 flags ++ leBytes 2 rights ++ leBytes 4 slot ++ leBytes 4 gen ++ leBytes 2 channel ++
    leBytes 1 span ++ leBytes 1 sealId ++ leBytes 8 from_ ++ leBytes 8 until_

/-- A token sealed by the hub (R249). -/
def State.sealToken (s : State) (head : Bytes) : Bytes :=
  head ++ (match s.sealKey (bfld head 15 1) with
    | some k => sealOf k head
    | none => List.replicate 16 0)

end Sys2Proof.Machine
end

