-- ==== Sys2Proof/Machine/AdminKeys.lean ====
section
/-!
DEFINITION. Filling the vault and issuing tokens: IMPORT_KEY (R252 to R255), ISSUE_TOKEN (R256) and REVOKE_SLOT (R257).
-/

namespace Sys2Proof.Machine

/-! ### Key blocks -/

/-- TDES_ENABLE (R258). -/
def State.tdesOn (s : State) : Bool := s.feats.tdes == 1

/-- ASCII codes of a string, as a key block spells its fields. -/
def ascii (t : String) : Bytes := t.toList.map (fun c => BitVec.ofNat 8 c.toNat)

/-- The values of the optional block 0B, with the algorithm and the size each stands for (R253). -/
def keyParams : List (Bytes × Nat × Nat) :=
  [(ascii "P256", 0x45, 256), (ascii "P384", 0x45, 384), (ascii "ED25519", 0x45, 25519), (ascii "MLDSA44", 0x51, 44),
    (ascii "MLDSA65", 0x51, 65), (ascii "MLDSA87", 0x51, 87)]

/-- The data of the optional block 0B. -/
def keyParam (h : Config.KeyHeader) : Option (Nat × Nat) := (h.blocks.lookup 0x3042).bind (fun d => keyParams.lookup d)

/-- The size of the key: its length in bits, or with algorithms E and Q what the block 0B names (R253). -/
def sizeOf (h : Config.KeyHeader) : Nat :=
  if h.alg = 0x45 ∨ h.alg = 0x51 then ((keyParam h).map (fun p => p.2)).getD 0 else h.bits

/-- The optional blocks are PB, TS and 0B; 0B stands exactly with algorithms E and Q, and names one of the algorithm's
(R253). -/
def blocksOk (h : Config.KeyHeader) : Bool :=
  h.blocks.all (fun b => b.1 == 0x5042 || b.1 == 0x5453 || b.1 == 0x3042) &&
    (if h.alg = 0x45 ∨ h.alg = 0x51 then (keyParam h).any (fun p => p.1 == h.alg)
      else (h.blocks.lookup 0x3042).isNone)

/-- Usage, algorithm, mode and size of a key block are of R253's table. Codes are ASCII. -/
def usageOk (h : Config.KeyHeader) : Bool :=
  let a := h.alg
  let n := sizeOf h
  let gvc : Bool := h.mode == 0x47 || h.mode == 0x56 || h.mode == 0x43
  let bde : Bool := h.mode == 0x42 || h.mode == 0x44 || h.mode == 0x45
  let aes : Bool := a == 0x41 && (n == 128 || n == 192 || n == 256)
  let tdes : Bool := a == 0x54 && (n == 128 || n == 192)
  match h.usage with
  | 0x4B30 => (aes || tdes) && bde
  | 0x5030 => (aes || tdes) && bde
  | 0x4D33 => a == 0x54 && n == 128 && gvc
  | 0x4D36 => aes && gvc
  | 0x4D37 => a == 0x48 && n % 8 == 0 && decide (128 ≤ n) && decide (n ≤ 512) && gvc
  | 0x4230 => (aes || tdes) && h.mode == 0x58
  | 0x5330 => (h.mode == 0x53 || h.mode == 0x56) &&
      ((a == 0x45 && n != 0) || (a == 0x51 && n != 0) ||
        (a == 0x52 && (n == 2048 || n == 3072 || n == 4096) && h.pubExp % 2 == 1 && decide (3 ≤ h.pubExp) &&
          decide (h.pubExp < 2 ^ 32)))
  | _ => false

/-- A key block's content is of R253. -/
def headerOk (h : Config.KeyHeader) : Bool :=
  (h.version == 0x44 || h.version == 0x42) && usageOk h && (h.exp == 0x45 || h.exp == 0x4E || h.exp == 0x53) && blocksOk h

/-- Bytes of a key as the vault keeps it (R244, R277, log 96): an RSA private key is in CRT form, an ML-DSA key is encoded as
FIPS 204 encodes it. -/
def keyBytes (alg size mode : Nat) : Nat :=
  let priv : Bool := mode != 0x56
  if alg = 0x45 then
    (if size = 384 then (if priv then 48 else 96) else if size = 25519 then 32 else if priv then 32 else 64)
  else if alg = 0x52 then (if priv then size / 16 * 5 else size / 8 + 4)
  else if alg = 0x51 then
    (if size = 44 then (if priv then 2560 else 1312) else if size = 65 then (if priv then 4032 else 1952)
      else if priv then 4896 else 2592)
  else size / 8

/-- Bytes of the key in a slot. -/
def VSlot.bytes (v : VSlot) : Nat := keyBytes v.alg v.size v.mode

/-! ### IMPORT_KEY -/

/-- FORM of IMPORT_KEY (R252). -/
def formOf (e : W512) : Nat := W512.fld e 24 1
/-- RESTORE of IMPORT_KEY. -/
def importRestore (e : W512) : Bool := nbit (W512.fld e 25 1) 0

/-- Orders 2 and 3 of IMPORT_KEY (R252). -/
def importFields (e : W512) : Bool :=
  commonOk e && decide (208 ≤ dataLenOf e) && decide (dataLenOf e ≤ 16384) && decide (formOf e < 3) &&
    decide (W512.fld e 25 1 < 2) && zeroIn e 26 56 &&
    (if formOf e = 2 then decide (1 ≤ targetOf e) && decide (targetOf e < 256) else decide (targetOf e < 2 ^ 20))

/-- Bytes of a list are 0. -/
def allZero (bs : Bytes) : Bool := bs.all (fun b => b == 0)

/-- The key block of the buffer (R252). -/
def importBlock (data : Bytes) : Bytes := data.drop 192

/-- The key that protects the block: that of the slot the KBPK token names, or the agreed one (R252, R254). -/
def State.kbpk (s : State) (e : W512) (data : Bytes) : Option Bytes :=
  if formOf e = 1 then some (Config.agreedKey s.ident.serial ((data.drop 96).take 96) (targetOf e))
  else
    let v := s.vslot (tkSlot ((data.drop 48).take 48))
    if v.st = .loaded then some v.key else none

/-- The key in the block, where the authenticator verifies. -/
def State.importedKey (s : State) (e : W512) (data : Bytes) : Option Bytes :=
  let block := importBlock data
  match s.kbpk e data, Config.keyBlockHeader block with
  | some k, some h =>
    if Config.keyBlockOk k block then some (bytesOf (keyBytes h.alg (sizeOf h) h.mode) (Config.keyBlockKeyByte k block)) else none
  | _, _ => none

/-- Order 4 of IMPORT_KEY: the content of the buffer, and the header it yields (R252 to R254). A public key in the block is
validated where the block can be opened. -/
def State.importContent (s : State) (e : W512) (data : Bytes) : Option Config.KeyHeader :=
  let agreed : Bool := formOf e == 1
  let mid : Bool := if agreed then allZero ((data.drop 48).take 48) && Config.publicKeyValid 0 ((data.drop 96).take 96)
    else allZero ((data.drop 96).take 96)
  match Config.keyBlockHeader (importBlock data) with
  | none => none
  | some h =>
    let publicOk : Bool := h.usage != 0x5330 || h.mode != 0x56 ||
      (s.importedKey e data).all (fun k => Config.blockKeyValid h.alg (sizeOf h) k)
    if mid && headerOk h && publicOk && (!agreed || h.version == 0x44) &&
        (formOf e != 2 || (h.usage == 0x4B30 && h.alg == 0x41 && h.bits == 256)) then some h
    else none

/-- Units of 64 bytes that a key of `n` bytes takes once wrapped: 8 bytes more than the key, which is a multiple of 8 bytes
(R244). -/
def wrapUnits (n : Nat) : Nat := ceilDiv (8 * ceilDiv n 8 + 8) 64

/-- Units in use in each bench's copy (R244). -/
def State.unitsUsed (s : State) : Nat :=
  s.vault.slots.foldl (fun n v => if v.2.st = .loaded then n + wrapUnits v.2.bytes else n) 0

/-- Order 5 of IMPORT_KEY (R244, R245, R254, R255). -/
def State.importState (s : State) (e : W512) (data : Bytes) (h : Config.KeyHeader) : Bool :=
  let v := s.vslot (targetOf e)
  let tdes : Bool := h.version == 0x42 || h.alg == 0x54
  let free := 1572864 + (if v.st = .loaded then wrapUnits v.bytes else 0)
  (s.home).isSome && (s.tdesOn || !tdes) &&
    (if formOf e = 2 then
      (s.sealKey (targetOf e)).isNone && decide (s.vault.sealKeys.length < 4) && !importRestore e
    else
      decide (s.unitsUsed + wrapUnits (keyBytes h.alg (sizeOf h) h.mode) ≤ free) &&
        (if importRestore e then v.st == .absent && v.hash == Config.sha256 data && v.epoch == s.vault.epoch
          else v.st == .empty || v.gen != genMax))

/-- Order 6 of IMPORT_KEY: where no key is there to check the authenticator under, order 7 fails (R254). -/
def State.importSigned (s : State) (e : W512) (data : Bytes) : Bool :=
  (s.kbpk e data).isNone || (s.importedKey e data).isSome

/-- What the KBPK token's key must be for a block (R253, R265, order 7 of R250). -/
def State.kbpkFits (s : State) (h : Config.KeyHeader) (v : VSlot) : Bool :=
  v.usage == 0x4B30 && v.alg == (if h.version = 0x44 then 0x41 else 0x54) && (v.alg != 0x54 || s.tdesOn)

/-- Order 7 of IMPORT_KEY (R250, R252, R255). -/
def State.importTokens (s : State) (e : W512) (data : Bytes) (h : Config.KeyHeader) : Option Nat :=
  let lo := if formOf e = 2 then 0 else targetOf e
  let count := if formOf e = 2 then 2 ^ 20 else 1
  let r := importRestore e
  match s.tokenBad (data.take 48) { format := 2, rights := 0x200, lo := lo, count := count, restore := r } false (fun _ => true) with
  | some st => some st
  | none =>
    if formOf e = 1 then none
    else s.tokenBad ((data.drop 48).take 48) { format := 1, rights := 0x80, restore := r } false (s.kbpkFits h)

/-- Orders 1 to 7 of IMPORT_KEY. -/
def State.importBad (s : State) (e : W512) (data : Option Bytes) : Option Nat :=
  if !importFields e then some stField
  else match data with
  | none => some stDmaFault
  | some d =>
    let d := padTo (dataLenOf e) d
    match s.importContent e d with
    | none => some stField
    | some h =>
      if !s.importState e d h then some stState
      else if !s.importSigned e d then some stSignature
      else s.importTokens e d h

/-- IMPORT_KEY takes effect (R243, R254, R255). -/
def effImportKey (data : Option Bytes) : Effect := fun s h =>
  let e := h.entry
  let d := padTo (dataLenOf e) (data.getD [])
  let n := targetOf e
  let key := (s.importedKey e d).getD []
  if formOf e = 2 then
    ({ s with vault := { s.vault with sealKeys := s.vault.sealKeys ++ [(n, BitVec.ofNat 256 (beVal key))] } }, 0, 0)
  else
    let v := s.vslot n
    let k := (Config.keyBlockHeader (importBlock d)).getD default
    let gen := if v.st = .empty || importRestore e then v.gen else min genMax (v.gen + 1)
    let copies := [0, 1, 2, 3].map (fun b => bytesOf (8 * ceilDiv key.length 8 + 8) (Config.keyWrapByte (s.bench b).kek key))
    ((s.setVslot n { st := .loaded, gen := gen, alg := k.alg, size := sizeOf k, usage := k.usage, mode := k.mode, exp := k.exp
                     ver := k.ver, hash := Config.sha256 d, key := key, copies := copies, epoch := s.vault.epoch }).purgeKey n, 0, 0)

/-! ### ISSUE_TOKEN -/

/-- Orders 2 and 3 of ISSUE_TOKEN (R256). -/
def issueFields (e : W512) : Bool :=
  let kind := W512.fld e 24 1
  let flags := W512.fld e 25 1
  let rights := W512.fld e 26 2
  let span := W512.fld e 31 1
  let target := targetOf e
  let bound := nbit flags 0
  commonOk e && dataLenOf e == 96 && decide (kind < 3) && decide (flags < 4) && (kind == 0 || flags == 0) &&
    (if bound then decide (W512.fld e 28 2 < 4096) else W512.fld e 28 2 == 0) && decide (W512.fld e 32 8 < W512.fld e 40 8) &&
    zeroIn e 48 56 &&
    (match kind with
      | 0 => decide (1 ≤ rights) && decide (rights < 256) && span == 0 && decide (target < 2 ^ 20)
      | 1 => decide (1 ≤ rights) && decide (rights < 2048) && rights % 256 == 0 && decide (span ≤ 20) &&
          target % 2 ^ span == 0 && decide (target < 2 ^ 20)
      | _ => rights == 0x0700 && span == 20 && target == 0)

/-- A root delivery that is outstanding answers a KIND 2 request (R256). -/
def State.rootDue (s : State) (e : W512) : Bool := W512.fld e 24 1 == 2 && s.vault.rootOut

/-- Order 5 of ISSUE_TOKEN (R245, R256). -/
def State.issueState (s : State) (e : W512) : Bool :=
  let kind := W512.fld e 24 1
  (s.home).isSome && (s.rootDue e || (s.sealKey (W512.fld e 30 1)).isSome) &&
    (kind != 2 || !s.vault.active || s.vault.rootOut) &&
    !(kind == 0 && nbit (W512.fld e 25 1) 1 && (s.vslot (targetOf e)).gen == genMax)

/-- A provisioning token asked for is contained in the one presented (R256). -/
def contained (e : W512) (t : Bytes) : Bool :=
  (W512.fld e 26 2 &&& tkRights t) == W512.fld e 26 2 && tkCovers t (targetOf e) (2 ^ W512.fld e 31 1) &&
    decide (tkFrom t ≤ W512.fld e 32 8) && decide (W512.fld e 40 8 ≤ tkUntil t)

/-- Order 7 of ISSUE_TOKEN (R250, R256). -/
def State.issueTokens (s : State) (e : W512) (t : Bytes) : Option Nat :=
  let kind := W512.fld e 24 1
  if kind = 2 then none
  else match s.tokenBad t { format := 2, rights := 0x100, lo := targetOf e, count := 1 } false (fun _ => true) with
  | some st => some st
  | none => if kind = 1 && !contained e t then some stRights else none

/-- Orders 1 to 7 of ISSUE_TOKEN. -/
def State.issueBad (s : State) (e : W512) (data : Option Bytes) : Option Nat :=
  if !issueFields e then some stField
  else match data with
  | none => some stDmaFault
  | some d =>
    let t := padTo 48 d
    if W512.fld e 24 1 = 2 && !allZero t then some stField
    else if !s.issueState e then some stState
    else s.issueTokens e t

/-- The token that ISSUE_TOKEN makes (R249, R256). -/
def State.newToken (s : State) (e : W512) : Bytes :=
  let kind := W512.fld e 24 1
  let flags := W512.fld e 25 1
  let gen := if kind = 0 then (s.vslot (targetOf e)).gen + (if nbit flags 1 then 1 else 0) else s.vault.provGen
  s.sealToken (tokenHead (if kind = 0 then 1 else 2) (flags % 2) (W512.fld e 26 2) (targetOf e) gen (W512.fld e 28 2)
    (W512.fld e 31 1) (W512.fld e 30 1) (W512.fld e 32 8) (W512.fld e 40 8))

/-- A token written to bytes 48 to 95 of the data buffer; a failed write is DMA_FAULT (R69, R256). -/
def State.writeToken (s : State) (p : Nat) (e : W512) (t : Bytes) (wrOk : Bool) : State × Nat × W :=
  if wrOk && (s.port p).masters then (s.emitOut (.hostWrite p (BitVec.ofNat 64 (dataAddrOf e + 48)) t false), 0, 48)
  else (s, stDmaFault, 0)

/-- ISSUE_TOKEN takes effect (R247, R256, R257). -/
def effIssueToken (p : Nat) (wrOk : Bool) : Effect := fun s h =>
  let e := h.entry
  let t := if s.rootDue e then s.vault.root else s.newToken e
  let r := s.writeToken p e t wrOk
  if W512.fld e 24 1 = 2 then
    ({ r.1 with vault := { r.1.vault with active := true, root := t, rootOut := decide (r.2.1 ≠ 0) } }, r.2)
  else r

/-! ### REVOKE_SLOT -/

/-- PROVISIONING and SEALING of REVOKE_SLOT. -/
def revokeProv (e : W512) : Bool := nbit (W512.fld e 24 1) 1
/-- SEALING. -/
def revokeSealing (e : W512) : Bool := nbit (W512.fld e 24 1) 2
/-- ERASE. -/
def revokeErase (e : W512) : Bool := nbit (W512.fld e 24 1) 0

/-- Orders 2 and 3 of REVOKE_SLOT (R257). -/
def revokeFields (e : W512) : Bool :=
  commonOk e && decide (W512.fld e 24 1 < 8) && !(revokeProv e && revokeSealing e) && zeroIn e 25 56 &&
    dataLenOf e == (if revokeProv e then 96 else 48) &&
    (if revokeProv e then targetOf e == 0
      else if revokeSealing e then decide (1 ≤ targetOf e) && decide (targetOf e < 256)
      else decide (targetOf e < 2 ^ 20))

/-- The slot's generation rises under a REVOKE_SLOT (R257). -/
def revokeRaises (e : W512) : Bool := revokeErase e || !(revokeProv e || revokeSealing e)

/-- Order 5 of REVOKE_SLOT (R243, R245, R257). -/
def State.revokeState (s : State) (e : W512) : Bool :=
  (s.home).isSome && (!revokeRaises e || (s.vslot (targetOf e)).gen != genMax) &&
    (!revokeSealing e || (s.vault.sealKeys.lookup (targetOf e)).isSome)

/-- Orders 1 to 7 of REVOKE_SLOT. -/
def State.revokeBad (s : State) (e : W512) (data : Option Bytes) : Option Nat :=
  if !revokeFields e then some stField
  else match data with
  | none => some stDmaFault
  | some d =>
    let whole : Bool := revokeProv e || revokeSealing e
    if !s.revokeState e then some stState
    else s.tokenBad (padTo 48 d) { format := 2, rights := 0x400, lo := if whole then 0 else targetOf e, count := if whole then 2 ^ 20 else 1 }
      false (fun _ => true)

/-- The root provisioning token of a provisioning generation (R257). -/
def State.rootToken (s : State) (from_ : Nat) : Bytes :=
  s.sealToken (tokenHead 2 0 0x0700 0 s.vault.provGen 0 20 0 from_ 0xFFFFFFFFFFFFFFFF)

/-- A slot erased (R257): EMPTY, its material overwritten. -/
def State.eraseSlot (s : State) (n : Nat) : State := (s.setVslot n { gen := (s.vslot n).gen }).purgeKey n

/-- A sealing key removed, and the verified tokens that name it (R257, R277). -/
def State.dropSealKey (s : State) (n : Nat) : State :=
  let s := { s with vault := { s.vault with sealKeys := s.vault.sealKeys.filter (fun k => k.1 != n) } }
  [0, 1, 2, 3].foldl (fun t b => t.modBench b (fun x => { x with tokCache := x.tokCache.filter (fun k => tkSealId k != n) })) s

/-- What REVOKE_SLOT changes at its CONFIG record (R251, R257). With PROVISIONING the new root token's delivery is due. -/
def State.revoke (s : State) (h : AdminHeld) : State :=
  let e := h.entry
  let n := targetOf e
  let s := if revokeRaises e then s.raiseSlotGen n else s
  let s := if revokeErase e then s.eraseSlot n else s
  let s := if revokeSealing e then s.dropSealKey n else s
  if revokeProv e then
    let s := { s with vault := { s.vault with provGen := s.vault.provGen + 1 } }
    let stamp := ((s.findRecord h.stream h.jsn).map (fun r => r.stamp)).getD s.time.ns
    { s with vault := { s.vault with root := s.rootToken stamp, rootOut := true } }
  else s

/-- The new root token is written to the host once the record is durable; a write that fails leaves its delivery due
(R65, R257). -/
def effDeliverRoot (p : Nat) (wrOk : Bool) : Effect := fun s h =>
  if revokeProv h.entry then
    let r := s.writeToken p h.entry s.vault.root wrOk
    ({ r.1 with vault := { r.1.vault with rootOut := decide (r.2.1 ≠ 0) } }, r.2)
  else (s, 0, 0)

/-- REVOKE_SLOT takes effect at its CONFIG record (R251, R257). -/
def effRevokeSlot (p : Nat) (wrOk : Bool) : Effect := fun s h =>
  let s := s.revoke h
  if s.durable h.stream h.jsn then effDeliverRoot p wrOk s h else (s, 0, 0)

end Sys2Proof.Machine
end

