-- ==== Sys2Proof/Machine/Flags.lean ====
section
/-!
DEFINITION. The flag groups (R326) and the results of the integer, shift and bit-field operations (R325, R327 to R329),
on W-bit numbers.
-/

namespace Sys2Proof.Machine

/-- W: 32 with OSZ, else 64 (R325). -/
def opWidth (o : Bool) : Nat := if o then 32 else 64

/-- Bit W - 1 of a W-bit number. -/
def topBit (w r : Nat) : Bool := r.testBit (w - 1)

/-- The sum of W-bit numbers and a carry. -/
def addRes (w a b cin : Nat) : Nat := (a % 2 ^ w + b % 2 ^ w + cin) % 2 ^ w

/-- ARITH flags of an addition (R326). -/
def addFl (w a b cin : Nat) : W :=
  let x := a % 2 ^ w
  let y := b % 2 ^ w
  let r := addRes w a b cin
  flOf (decide (2 ^ w ≤ x + y + cin)) (r == 0) (topBit w r)
    (topBit w x == topBit w y && topBit w r != topBit w x) (decide (16 ≤ x % 16 + y % 16 + cin))

/-- The difference of W-bit numbers less a borrow. -/
def subRes (w a b cin : Nat) : Nat := (a % 2 ^ w + 2 ^ w + 2 ^ w - b % 2 ^ w - cin) % 2 ^ w

/-- ARITH flags of a subtraction or compare (R326). -/
def subFl (w a b cin : Nat) : W :=
  let x := a % 2 ^ w
  let y := b % 2 ^ w
  let r := subRes w a b cin
  flOf (decide (x < y + cin)) (r == 0) (topBit w r)
    (topBit w x != topBit w y && topBit w r != topBit w x) (decide (x % 16 < y % 16 + cin))

/-- LOGIC flags of a W-bit result; H is kept (R326). -/
def logicFl (k : Core) (w r : Nat) : W := flOf false (r == 0) (topBit w r) false k.fH

/-- Flags of a shift or rotate: Z and N of the result, C as given, V 0, H kept (R329). -/
def shiftFl (k : Core) (w r : Nat) (c : Bool) : W := flOf c (r == 0) (topBit w r) false k.fH

/-- The signed value of a W-bit number. -/
def signedOf (w a : Nat) : Int := sint w a

/-- Bytes of a W-bit number in reverse order (BSWAP). -/
def bswapRes (w a : Nat) : Nat := beVal (leBytes (w / 8) a)

/-- Leading zero bits of a W-bit number (CLZ). -/
def clzRes (w a : Nat) : Nat := if a % 2 ^ w = 0 then w else w - 1 - Nat.log2 (a % 2 ^ w)

/-- Trailing zero bits of a W-bit number (CTZ). -/
def ctzRes (w a : Nat) : Nat := ((List.range w).find? (fun i => a.testBit i)).getD w

/-- One bits of a W-bit number (POPC). -/
def popcRes (w a : Nat) : Nat := ((List.range w).filter (fun i => a.testBit i)).length

/-- The five shifts and rotates of R329. -/
inductive ShiftOp where
  | shl | shr | sar | rol | ror
  deriving DecidableEq, Repr

/-- Result and C of a shift or rotate of the W-bit `x` by `n`; `c` is C before it (R329). -/
def shiftRes (op : ShiftOp) (w x n : Nat) (c : Bool) : Nat × Bool :=
  match op with
  | .shl => if n = 0 then (x, c) else if n ≤ w then ((x <<< n) % 2 ^ w, x.testBit (w - n)) else (0, false)
  | .shr => if n = 0 then (x, c) else if n ≤ w then (x >>> n, x.testBit (n - 1)) else (0, false)
  | .sar =>
    if n = 0 then (x, c)
    else if n < w then (uint w (sint w x / (2 ^ n : Nat)), x.testBit (n - 1))
    else (if topBit w x then 2 ^ w - 1 else 0, topBit w x)
  | .rol =>
    let k := n % w
    if k = 0 then (x, c)
    else
      let d := ((x <<< k) % 2 ^ w) ||| (x >>> (w - k))
      (d, d.testBit 0)
  | .ror =>
    let k := n % w
    if k = 0 then (x, c)
    else
      let d := (x >>> k) ||| ((x <<< (w - k)) % 2 ^ w)
      (d, topBit w d)

/-- A condition byte's test (R331). -/
def condHolds (k : Core) (c : Nat) : Bool :=
  match c with
  | 0x0 => k.fZ
  | 0x1 => !k.fZ
  | 0x2 => k.fC
  | 0x3 => !k.fC
  | 0x4 => k.fN
  | 0x5 => !k.fN
  | 0x6 => k.fV
  | 0x7 => !k.fV
  | 0x8 => !k.fC && !k.fZ
  | 0x9 => k.fC || k.fZ
  | 0xA => k.fN != k.fV
  | 0xB => k.fN == k.fV
  | 0xC => !k.fZ && (k.fN == k.fV)
  | 0xD => k.fZ || (k.fN != k.fV)
  | 0xE => true
  | 0xF => k.fH
  | _ => false

end Sys2Proof.Machine
end

