-- ==== Sys2Proof/Machine/CoreMem.lean ====
section
/-!
DEFINITION. The physical address space as a core sees it: the map (R463), the access rules of each region (R292, R296,
R300, R464, R481), storage keys (R294 to R297), alignment and split accesses (R299, R306, R307), poisoned lines (R474),
and reading and storing bytes.
-/

namespace Sys2Proof.Machine

/-- What an address names (R463). -/
inductive Region where
  | ext
  | fw
  | pool
  | loc (off : Nat)
  | hub (off : Nat)
  | bench (b off : Nat)
  | journal (off : Nat)
  | nothing
  deriving DecidableEq, Repr

/-- The base of the core-local alias (R300). -/
def locBase : Nat := 0x002000000000

/-- The map of R463, for addresses below 2^48. -/
def regionOf (a : Nat) : Region :=
  if a < 0x000500000000 then .ext
  else if a < 0x000520000000 then .fw
  else if a < 0x001000000000 then .nothing
  else if a < 0x001400000000 then .pool
  else if a < 0x002000000000 then .nothing
  else if a < 0x002000022000 then .loc (a - locBase)
  else if a < 0x003000000000 then .nothing
  else if a < 0x003001000000 then .hub (a - 0x003000000000)
  else if a < 0x003005000000 then .bench ((a - 0x003001000000) / 0x01000000) ((a - 0x003001000000) % 0x01000000)
  else if a < 0x004000000000 then .nothing
  else if a < 0x004200000000 then .journal (a - 0x004000000000)
  else .nothing

/-- How an access counts for alignment causes and key checks (R295, R393). -/
inductive Acc where
  | read
  | write
  | rmw
  deriving DecidableEq, Repr

/-- Whether an access is checked as a write (R295). -/
def Acc.isWrite : Acc → Bool
  | .read => false
  | _ => true

/-- The key check of R295. -/
def keyAllows (key level : Nat) (w : FrameWord) (write : Bool) : Bool :=
  if key = 0 ∧ 0 < level then true
  else if key ≠ 0 ∧ key = w.key.toNat then true
  else if w.guard_ then false
  else !write

/-- A pool address lies within a granule of an item (R296). -/
def Item.holds (i : Item) (a : Nat) : Bool :=
  i.kind == .message && decide (i.win ≤ a) && decide (a < i.win + 256 * i.granules)

/-- A pool address lies within an assigned granule (R481). -/
def State.granuleAssigned (s : State) (a : Nat) : Bool :=
  s.windows.any (fun w => decide (w.1 ≤ a) && decide (a < w.1 + 256 * w.2.granules))

/-- Access to core-local SRAM and the flag plane by level (R217, R292, R300). -/
def locAllowed (k : Core) (level off : Nat) (write : Bool) : Option Nat :=
  if level = 0 then
    match k.runningSlot with
    | none => some 4
    | some i =>
      let lo := 0x8000 + 0x3000 * i
      if off < lo + 0x400 then some 4
      else if off < lo + 0x480 then (if write then some 4 else none)
      else if off < lo + 0x3000 then none
      else some 4
  else if off < 0x1000 then none
  else if off < 0x2000 then
    if level < 2 then some 2
    else if !write then none
    else if off < 0x1400 then some 2
    else if k.esc then none else some 2
  else none

/-- Checks 2 to 4 of R299 for an access that lies in one region, one frame and one granule: the vector and cause of the
first that fails. -/
def State.checkAt (s : State) (c key level a : Nat) (write : Bool) : Option (Nat × Nat) :=
  if 2 ^ 48 ≤ a then some (3, 2) else
  let keyed : Option (Nat × Nat) := if keyAllows key level (s.frameWord (a / 4096)) write then none else some (4, 1)
  match regionOf a with
  | .nothing => some (3, 1)
  | .ext => keyed
  | .fw => if level < 2 then some (4, 2) else keyed
  | .pool =>
    let ok : Bool := if level = 0 then (s.runningItem c).any (fun i => i.holds a) else s.granuleAssigned a
    if ok then keyed else some (4, 3)
  | .loc off => (locAllowed (s.core c) level off write).map (fun cause => (4, cause))
  | .hub _ => if level < 2 then some (4, 2) else none
  | .bench _ _ => if level < 2 then some (4, 2) else none
  | .journal _ => if level = 0 || write then some (4, 2) else none

/-- The parts of an access: itself when aligned, else the two halves of R307. -/
def halves (a : W) (n : Nat) : List (Nat × Nat) :=
  let x := a.toNat
  if n ≤ 1 ∨ x % n = 0 then [(x, n)]
  else
    let b := x - x % n + n
    [(x, b - x), (b % 2 ^ 64, x + n - b)]

/-- The number of a 64-byte line in the list of poisoned lines: by physical address, a core's own SRAM apart by core. -/
def lineOf (c a : Nat) : Nat :=
  match regionOf a with
  | .loc off => 2 ^ 42 * (c + 1) + off / 64
  | _ => a / 64

/-- Some line that bytes `[a, a + n)` touch is poisoned (R474). -/
def State.poisonedAt (s : State) (c a n : Nat) : Bool :=
  s.poisoned.any (fun l => decide (lineOf c a ≤ l) && decide (l ≤ lineOf c (a + n - 1)))

/-- The first address in `[a, a + n)` whose line is poisoned (R393, R474). A write does not read the lines that it covers
whole. -/
def State.poisonIn (s : State) (c a n : Nat) (write : Bool := false) : Option Nat :=
  let lo := lineOf c a
  let base (l : Nat) : Nat := a - a % 64 + 64 * (l - lo)
  let met (l : Nat) : Bool := decide (lo ≤ l) && decide (l ≤ lineOf c (a + n - 1)) &&
    !(write && decide (a ≤ base l) && decide (base l + 64 ≤ a + n))
  ((s.poisoned.filter met).map (fun l => max a (base l))).foldl
    (fun m x => some (match m with | none => x | some y => min x y)) none

/-- An access as a core or an engine acting for it makes it: core, access key, level, strict alignment. -/
structure Who where
  core : Nat
  key : Nat
  level : Nat
  strict : Bool := false
  deriving DecidableEq, Repr

/-- The checks of R299 on an access of `n` bytes, then its poisoned lines: the first exception, if any. -/
def State.checkAccess (s : State) (w : Who) (a : W) (n : Nat) (acc : Acc) : Option Exn :=
  if w.strict && a.toNat % n != 0 then
    some { vec := 2, cause := match acc with | .read => 1 | .write => 2 | .rmw => 3, g2 := a }
  else
    let hs := halves a n
    match hs.findSome? (fun h => (s.checkAt w.core w.key w.level h.1 acc.isWrite).map (fun e => (e, h.1))) with
    | some (e, at_) => some { vec := e.1, cause := e.2, g2 := BitVec.ofNat 64 at_ }
    | none =>
      match hs.find? (fun h => s.poisonedAt w.core h.1 h.2) with
      | some h => some { vec := 14, cause := 1, g2 := BitVec.ofNat 64 h.1 }
      | none => none

/-- The first byte of `[a, a + n)` that checks 2 to 4 of R299 refuse as byte accesses, with vector and cause. -/
def State.checkBytes (s : State) (w : Who) (a n : Nat) (write : Bool) : Option Exn :=
  match (List.range n).findSome? (fun i =>
      (s.checkAt w.core w.key w.level ((a + i) % 2 ^ 64) write).map (fun e => (e, (a + i) % 2 ^ 64))) with
  | some (e, at_) => some { vec := e.1, cause := e.2, g2 := BitVec.ofNat 64 at_ }
  | none =>
    if n = 0 then none
    else (s.poisonIn w.core a n write).map (fun p => { vec := 14, cause := 1, g2 := BitVec.ofNat 64 p })

/-! ### Reading and storing -/

/-- A byte as it stands at an address (R463, R466, R424, R465). -/
def State.readByte (s : State) (c a : Nat) : Byte :=
  match regionOf a with
  | .ext => Memory.read s.mem a
  | .fw => Memory.read s.mem a
  | .pool => Memory.read s.mem a
  | .loc off => Memory.read (s.core c).loc off
  | .bench b off =>
    if off < 0x1000 then BitVec.ofNat 8 ((s.evcReg b (off - off % 8)).toNat >>> (8 * (off % 8)))
    else BitVec.ofNat 8 (s.freeVal.toNat >>> (8 * (off % 8)))
  | .hub off => BitVec.ofNat 8 (s.freeVal.toNat >>> (8 * (off % 8)))
  | .journal x => (s.journalByte x).getD (BitVec.ofNat 8 (s.freeVal.toNat >>> (8 * (x % 8))))
  | .nothing => 0

/-- `n` bytes from an address, modulo 2^64. -/
def State.readBytes (s : State) (c a n : Nat) : Bytes := (List.range n).map (fun i => s.readByte c ((a + i) % 2 ^ 64))

/-- The little-endian value of `n` bytes (R7). -/
def State.readVal (s : State) (c a n : Nat) : Nat := leVal (s.readBytes c a n)

/-- ACCESSED, and WRITTEN for a write, of the frames of performed bytes (R297). -/
def State.touch (s : State) (a n : Nat) (write : Bool) : State :=
  let mark (t : State) (f : Nat) : State :=
    let w := t.frameWord f
    t.setFrame f { w with accessed := true, written := w.written || write }
  match regionOf a with
  | .ext | .fw | .pool =>
    let t := mark s (a / 4096)
    if n != 0 && (a + n - 1) / 4096 != a / 4096 then mark t ((a + n - 1) / 4096) else t
  | _ => s

/-- What a performed read leaves: the frame's ACCESSED bit, and the counter of free values past a value that came from a
register or journal space the manual does not fix (log 4). -/
def State.afterRead (s : State) (a n : Nat) : State :=
  match regionOf a with
  | .hub _ => s.nextFree
  | .bench _ _ => s.nextFree
  | .journal _ => s.nextFree
  | _ => s.touch a n false

/-- Bytes written to a core's own SRAM (R300, R474). -/
def State.writeLoc (s : State) (c off : Nat) (bs : Bytes) : State :=
  { s with poisoned := linesLeft s.poisoned (2 ^ 42 * (c + 1)) off bs.length }.modCore c (fun k =>
    { k with loc := Memory.writeN k.loc off bs })

/-- Bytes stored at an address within one region. A store into a queue slot may free it (R417); one into the slice's
registers is a register write (R424); one into another unit's register is handed to that unit (R465). -/
def State.storeBytes (s : State) (c a : Nat) (bs : Bytes) : State :=
  match regionOf a with
  | .ext | .fw | .pool => (s.writeMem a bs).touch a bs.length true
  | .loc off =>
    (s.writeLoc c off bs).afterQueueStore c off bs.length
  | .bench b off =>
    if off < 0x1000 then s.evcWrite b off bs.length (BitVec.ofNat 64 (leVal bs))
    else s.emitOut (.unitStore a bs)
  | .hub _ => s.emitOut (.unitStore a bs)
  | .journal _ => s
  | .nothing => s

/-- A store of `n` bytes of a value, split as R307 says. -/
def State.store (s : State) (c : Nat) (a : W) (n v : Nat) : State :=
  let bs := leBytes n v
  (halves a n).foldl (fun t h => t.storeBytes c h.1 ((bs.drop ((h.1 + 2 ^ 64 - a.toNat) % 2 ^ 64)).take h.2)) s

/-- Bytes stored one after the other, frame by frame of 4 KiB, as an engine or a string instruction makes them. -/
def State.storeLong (s : State) (c a : Nat) (bs : Bytes) : State :=
  let first := min bs.length (4096 - a % 4096)
  let rest := bs.drop first
  let s := s.storeBytes c a (bs.take first)
  (List.range (ceilDiv rest.length 4096)).foldl (fun t i =>
    t.storeBytes c ((a + first + 4096 * i) % 2 ^ 64) ((rest.drop (4096 * i)).take 4096)) s

/-- Reads of `n` bytes marked in every frame they touch. -/
def State.touchRead (s : State) (a n : Nat) : State :=
  (List.range (if n = 0 then 0 else ceilDiv (a % 4096 + n) 4096)).foldl (fun t i =>
    t.touch (if i = 0 then a else a - a % 4096 + 4096 * i) 1 false) s

/-- The address lies in core-local SRAM or external memory, where TSBs and templates may lie (R407). -/
def tsbPlace (a : Nat) : Bool :=
  match regionOf a with
  | .ext => true
  | .fw => true
  | .loc off => decide (off < 0x20000)
  | _ => false

/-- A read at machine level with access key 0, never checked against keys (R392). -/
def State.rawRead (s : State) (c a n : Nat) : Bytes := s.readBytes c a n

/-- A write at machine level with access key 0, as entry and TAKE make it (R392). -/
def State.rawWrite (s : State) (c a : Nat) (bs : Bytes) : State :=
  match regionOf a with
  | .ext | .fw | .pool => (s.writeMem a bs).touch a bs.length true
  | .loc off => s.writeLoc c off bs
  | _ => s

end Sys2Proof.Machine
end

