-- ==== Sys2Proof/Machine/Except.lean ====
section
/-!
DEFINITION. The task-state block (R290, R291), entry (R392 to R400), escalation and check-stop (R407 to R410), and the
return from a handler (R401 to R403).
-/

namespace Sys2Proof.Machine

/-! ### The task-state block -/

/-- FLX (R290). -/
def Core.flx (k : Core) : Nat :=
  nbits k.fl.toNat 0 5 + (k.mst.toNat % 65536) * 2 ^ 8 + k.fcsr.toNat * 2 ^ 32

/-- The control group as stored at offset 0x360 (R290). -/
def Core.controlBytes (k : Core) (pc : Nat) : Bytes :=
  leBytes 8 pc ++ leBytes 8 k.flx ++ leBytes 8 k.mode.toNat ++ leBytes 8 k.mlo.toNat ++ leBytes 8 k.mhi.toNat ++
    leBytes 8 k.ssr.toNat ++ leBytes 8 k.fpia.toNat ++ leBytes 8 k.baseb.toNat

/-- The general group as stored at offset 0 (R290). -/
def Core.generalBytes (k : Core) : Bytes := (List.range 32).flatMap (fun i => leBytes 8 (k.rg i).toNat)

/-- One optional group as stored, with its offset (R290): 0 decimal, 1 floating point, 2 loop, 3 address unit. -/
def Core.groupBytes (k : Core) (g : Nat) : Nat × Bytes :=
  if g = 0 then (0x100, (List.range 16).flatMap (fun i => leBytes 16 (k.rd i).toNat))
  else if g = 1 then (0x200, (List.range 16).flatMap (fun i => leBytes 8 (k.rf i).toNat))
  else if g = 2 then (0x280, (List.range 4).flatMap (fun i =>
    let l := k.lvl i
    leBytes 8 l.ls.toNat ++ leBytes 8 l.le.toNat ++ leBytes 4 l.lc.toNat ++ leBytes 4 l.lf.toNat))
  else (0x2E0, (List.range 4).flatMap (fun i =>
    let u := k.au i
    leBytes 8 u.base.toNat ++ leBytes 8 u.length.toNat ++ leBytes 8 u.index.toNat ++ leBytes 4 u.step.toNat ++
      leBytes 4 u.mode.toNat))

/-- The control group of a TSB loaded; MODE is given apart (R291). -/
def Core.loadControl (k : Core) (t : Bytes) : Core :=
  let flx := bfld t 0x368 8
  { k with
    pc := BitVec.ofNat 48 (bfld t 0x360 8)
    fl := BitVec.ofNat 64 (flx % 32)
    fcsr := BitVec.ofNat 32 (nbits flx 32 32) &&& 0x00071F1F
    mlo := BitVec.ofNat 64 (bfld t 0x378 8)
    mhi := BitVec.ofNat 64 (bfld t 0x380 8)
    ssr := BitVec.ofNat 64 (bfld t 0x388 8) &&& 0xFFFFFFFFFFFFFF01
    fpia := BitVec.ofNat 64 (bfld t 0x390 6)
    baseb := BitVec.ofNat 64 (bfld t 0x398 6) }

/-- The general group of a TSB loaded. -/
def Core.loadGeneral (k : Core) (t : Bytes) : Core :=
  { k with g := Vector.ofFn (fun i : Fin 32 => BitVec.ofNat 64 (bfld t (8 * i.val) 8)) }

/-- The optional groups: loaded where the SAVE bit is 1, written with 0 elsewhere (R291). -/
def Core.loadGroups (k : Core) (t : Bytes) : Core :=
  { k with
    dr := Vector.ofFn (fun i : Fin 16 => if k.saveBit 0 then BitVec.ofNat 128 (bfld t (0x100 + 16 * i.val) 16) else 0)
    f := Vector.ofFn (fun i : Fin 16 => if k.saveBit 1 then BitVec.ofNat 64 (bfld t (0x200 + 8 * i.val) 8) else 0)
    loops := Vector.ofFn (fun i : Fin 4 =>
      let o := 0x280 + 24 * i.val
      if k.saveBit 2 then
        { ls := BitVec.ofNat 64 (bfld t o 8), le := BitVec.ofNat 64 (bfld t (o + 8) 8)
          lc := BitVec.ofNat 32 (bfld t (o + 16) 4), lf := BitVec.ofNat 32 (bfld t (o + 20) 4 % 2) }
      else {})
    aus := Vector.ofFn (fun i : Fin 4 =>
      let o := 0x2E0 + 32 * i.val
      if k.saveBit 3 then
        { base := BitVec.ofNat 64 (bfld t o 8), length := BitVec.ofNat 64 (bfld t (o + 8) 8)
          index := BitVec.ofNat 64 (bfld t (o + 16) 8), step := BitVec.ofNat 32 (bfld t (o + 24) 4)
          mode := BitVec.ofNat 32 (bfld t (o + 28) 4) }
      else {}) }

/-- Every outstanding multiply, divide and floating-point instruction completes (R291). -/
def Core.completeAll (k : Core) : Core := k.finishFloats.finishMul

/-! ### Saving -/

/-- The save of a context into the TSB at `a`, group by group in the order of R398: control, general, then each optional
group that `want` selects, its dirty bit cleared. A save that meets a poisoned line stops there (SAVE_ERROR). -/
def State.saveContext (s : State) (c a pc : Nat) (want : Nat → Bool) : State × Bool :=
  let put (t : State × Bool) (off : Nat) (bs : Bytes) : State × Bool :=
    if !t.2 then t
    else if t.1.poisonedAt c (a + off) bs.length then (t.1, false)
    else (t.1.rawWrite c (a + off) bs, true)
  let k := s.core c
  let t := put (s, true) 0x360 (k.controlBytes pc)
  let t := put t 0 k.generalBytes
  (List.range 4).foldl (fun t g =>
    if want g then
      let gb := k.groupBytes g
      let t := put t gb.1 gb.2
      if t.2 then (t.1.modCore c (fun k => { k with mode := k.mode &&& ~~~(BitVec.ofNat 64 (2 ^ (16 + g))) }), true)
      else t
    else t) t

/-! ### EXCINFO -/

/-- G0 of the handler (R394). -/
def excInfo (vec cause fromLevel fromElevel : Nat) (chained replaced resuming : Bool) : W :=
  BitVec.ofNat 64 (vec + cause * 2 ^ 8 + fromLevel * 2 ^ 16 + fromElevel * 2 ^ 20 +
    (if chained then 2 ^ 24 else 0) + (if replaced then 2 ^ 25 else 0) + (if resuming then 2 ^ 26 else 0))

/-- What an entry is made for. A context that lies in its TSB already, after a RETT that chains (R403) or an escalation
(R409), is not saved again: `held`. -/
structure Entry where
  vec : Nat
  cause : Nat
  g2 : W
  pc : Nat
  fromLevel : Nat
  fromElevel : Nat
  tsb : Nat
  resuming : Bool
  replaced : Bool := false
  chained : Bool := false
  held : Bool := false
  deriving DecidableEq, Repr

/-! ### Check-stop and escalation -/

/-- A core check-stops (R410). -/
def State.checkStop (s : State) (c : Nat) : State :=
  let s := s.logErr 3 1 c 0
  let s := s.msixAll 514
  let s := s.raise (benchOf c) 65 c
  s.coreGone c

/-- Where the escalation TSB lies (R408). -/
def escTsb : Nat := locBase + 0x1000

/-- The interrupted context put into the escalation TSB, every group (R408): the core's registers, or, where the context
lies in its TSB already, that TSB's bytes. None where it cannot be read or saved (R410). -/
def State.saveEscalated (s : State) (c : Nat) (e : Entry) : Option State :=
  if s.poisonedAt c escTsb 1024 then none
  else if e.held then
    if s.poisonedAt c e.tsb 0x3A0 then none else some (s.rawWrite c escTsb (s.rawRead c e.tsb 0x3A0))
  else some (s.saveContext c escTsb e.pc (fun _ => true)).1

/-- The registers escalation entry sets (R408). -/
def Core.escalated (k : Core) (e : Entry) (reason at_ : Nat) : Core :=
  { k with
    g := ((((((Vector.replicate 32 (0 : W)).setIfInBounds 31 (BitVec.ofNat 64 (locBase + 0x2000))).setIfInBounds 0
      (excInfo 15 reason e.fromLevel e.fromElevel e.chained e.replaced e.resuming)).setIfInBounds 1
      (BitVec.ofNat 64 e.tsb)).setIfInBounds 2 (BitVec.ofNat 64 at_)).setIfInBounds 3
      (BitVec.ofNat 64 (e.vec + e.cause * 256)))
    dr := Vector.replicate 16 0
    f := Vector.replicate 16 0
    loops := Vector.replicate 4 {}
    aus := Vector.replicate 4 {}
    pc := Config.escalationEntry
    fl := 0
    fcsr := 0
    mlo := 0
    mhi := 0
    mst := 0
    ssr := 0
    fpia := 0
    baseb := 0
    mode := 0x0F000102
    tsbp := BitVec.ofNat 64 escTsb
    esc := true }

/-- Escalation entry (R408), and what R409 and R410 make of it: the core check-stops unless the failure lies in a vector entry
or template of a table that is not firmware's, whose entry `State.enter` makes again. The failing address is that of the
vector entry, the template, the TSB concerned, or the data that cannot be read. -/
def State.escalate (s : State) (c : Nat) (e : Entry) (reason at_ : Nat) : State :=
  let vtb := (s.core c).vtb
  match s.saveEscalated c e with
  | none => s.checkStop c
  | some s =>
    let s := s.setCore c ((s.core c).escalated e reason at_)
    let s := s.logErr 2 1 c 0 ([e.vec, e.cause, reason, at_, e.pc].map (BitVec.ofNat 64))
    if (reason ≤ 3 ∨ reason = 8) ∧ vtb ≠ Config.firmwareTable then s.evalEvc (benchOf c) else s.checkStop c

/-! ### Entry -/

/-- The handler's code is firmware's own: it lies in firmware's region of external memory, which only machine level can
execute (R463, R464). DEDUCED, log 12. -/
def firmwareCode (pc : Nat) : Bool := regionOf pc == .fw

/-- A template of firmware's own, whose contents the manual does not give: free values, but for a LEVEL of S or M and the
zeros of reserved bits (R397, log 12). -/
def State.firmwareTemplate (s : State) : Bytes :=
  let word (i : Nat) : W := Config.freeWord (s.free + i)
  (List.range 116).flatMap (fun i =>
    leBytes 8 (if i = 0x360 / 8 then (word i).toNat % 2 ^ 48
      else if i = 0x370 / 8 then ((word i &&& ~~~modeReserved &&& ~~~(3 : W)) ||| (1 + word 116 % 2)).toNat
      else (word i).toNat))

/-- A vector of firmware's own: VTB names firmware's table, and nothing has written the vector's entry (log 12). -/
def State.ownVector (s : State) (c vec : Nat) : Bool :=
  let k := s.core c
  k.vtb == Config.firmwareTable && leVal (s.rawRead c (k.vtb.toNat + 8 * vec) 8) == 0

/-- A read of `n` bytes at `a` marks the frames it touches (R297). -/
def State.rawTouch (s : State) (a n : Nat) : State := s.touchRead a n

/-- The parts of a template or TSB that its load reads, by offset and length, in the order of R398 and R402: control,
general, then each optional group whose SAVE bit the loaded MODE has (R291). -/
def loadedParts (mode : W) : List (Nat × Nat) :=
  let group (i off n : Nat) : List (Nat × Nat) := if nbit mode.toNat (12 + i) then [(off, n)] else []
  [(0x360, 64), (0, 256)] ++ group 0 0x100 256 ++ group 1 0x200 128 ++ group 2 0x280 96 ++ group 3 0x2E0 128

/-- The first address that a load of a template or TSB at `a` meets poisoned (R407, R411). -/
def State.loadPoison (s : State) (c a : Nat) (mode : W) : Option Nat :=
  (loadedParts mode).findSome? (fun p => s.poisonIn c (a + p.1) p.2)

/-- The reads of a load of a template or TSB at `a` marked (R297). -/
def State.loadTouch (s : State) (a : Nat) (mode : W) : State :=
  (loadedParts mode).foldl (fun t p => t.rawTouch (a + p.1) p.2) s

/-- Steps 6 to 9 of R398: the handler's registers, from the template's bytes `t`, in a core whose context is saved. -/
def Core.handler (k : Core) (e : Entry) (t : Bytes) (hl : Nat) : Core :=
  let mode : W := BitVec.ofNat 64 (bfld t 0x370 8)
  let mode := (mode &&& ~~~modeDirty &&& ~~~(0xF000000 : W)) ||| BitVec.ofNat 64 (hl * 2 ^ 24)
  let k := ({ k with mode := mode }.loadControl t).loadGeneral t
  let k := k.loadGroups t
  let k := { k with
    tsbp := BitVec.ofNat 64 (locBase + 0x4000 + 0x400 * hl)
    mode := k.mode ||| modeDirty
    turnRaised := k.turnRaised && !(decide (1 ≤ e.vec) && decide (e.vec ≤ 16) && e.fromLevel == 0) }
  let k := k.wg 0 (excInfo e.vec e.cause e.fromLevel e.fromElevel e.chained e.replaced e.resuming)
  let k := k.wg 1 (BitVec.ofNat 64 e.tsb)
  let k := k.wg 2 e.g2
  k.wg 3 0

/-- The template's MODE and PC fail the checks of R397. -/
def badTemplate (mode : W) (pc : Nat) : Bool :=
  nbits mode.toNat 0 2 == 0 || nbits mode.toNat 0 2 == 3 || mode &&& modeReserved != 0 || decide (2 ^ 48 ≤ pc)

/-- Steps 3 to 11 of R398: the context is saved unless its TSB holds it already, and the handler's state is loaded, from the
template as it stands after the save. `own` says that the template is one of firmware's own, with the bytes `fresh`. The
second component says that the handler is firmware's. -/
def State.enterSaved (s : State) (c : Nat) (e : Entry) (tpl hl : Nat) (own : Bool) (fresh : Bytes) : State × Bool :=
  let k := s.core c
  let sv := if e.held then (s, true) else s.saveContext c e.tsb e.pc (fun g => k.saveBit g && k.dirtyBit g)
  if !sv.2 then (sv.1.escalate c e 7 e.tsb, false)
  else
    let s := sv.1
    let t := if own then fresh else s.rawRead c tpl 0x3A0
    let mode : W := BitVec.ofNat 64 (bfld t 0x370 8)
    match (if own then none else s.loadPoison c tpl mode) with
    | some at_ => (s.escalate c e 8 at_, false)
    | none =>
      let s := if own then s else s.loadTouch tpl mode
      let s := (s.setCore c ((s.core c).handler e t hl)).evalEvc (benchOf c)
      let s := if e.vec = 32 then s.modCore c (fun k => k.wg 2 (BitVec.ofNat 64 k.queue.length)) else s
      (s, own || firmwareCode (bfld t 0x360 8))

/-- Steps 2 to 11 of R398: the vector entry and the template's MODE and PC are read and checked, then the rest follows. An
entry of firmware's own table that nothing has written names a template of firmware's own (log 12). -/
def State.enterOnce (s : State) (c : Nat) (e : Entry) : State × Bool :=
  let k := s.core c
  let ea := k.vtb.toNat + 8 * e.vec
  if regionOf ea == .nothing then (s.escalate c e 2 ea, false)
  else
    let own := s.ownVector c e.vec
    let entry := if own then locBase + 0x2801 else leVal (s.rawRead c ea 8)
    if s.poisonedAt c ea 8 then (s.escalate c e 8 ea, false)
    else
      let s := s.rawTouch ea 8
      if nbits entry 0 1 = 0 ∨ nbits entry 1 9 ≠ 0 ∨ nbits entry 48 16 ≠ 0 then (s.escalate c e 1 ea, false)
      else
        let tpl := entry - entry % 1024
        if !tsbPlace tpl then (s.escalate c e 2 tpl, false)
        else if !own && s.poisonedAt c (tpl + 0x360) 0x18 then (s.escalate c e 8 (tpl + 0x360), false)
        else
          let fresh := s.firmwareTemplate
          let t := if own then fresh else s.rawRead c tpl 0x3A0
          let s := if own then s.skipFree (8 * 117) else s.rawTouch (tpl + 0x360) 0x18
          let mode : W := BitVec.ofNat 64 (bfld t 0x370 8)
          if badTemplate mode (bfld t 0x360 8) then (s.escalate c e 3 tpl, false)
          else
            let hl := max (max (nbits mode.toNat 24 4) (e.fromElevel + 1)) (if e.vec = 32 then k.topLevel else 0)
            let save := locBase + 0x4000 + 0x400 * hl
            if 15 < hl then (s.escalate c e 4 tpl, false)
            else if !e.held ∧ save = e.tsb then (s.escalate c e 5 save, false)
            else if !e.held ∧ !tsbPlace e.tsb then (s.escalate c e 6 e.tsb, false)
            else s.enterSaved c e tpl hl own fresh

/-- Entry, and what R409 makes of a failure that lies in a table a monitor installed: firmware's escalation handler writes
its own table's address to VTB and enters the failed vector under its own handler, with the context that the escalation
TSB holds. -/
def State.enter (s : State) (c : Nat) (e : Entry) : State × Bool :=
  let r := s.enterOnce c e
  let k := r.1.core c
  if k.esc then
    (r.1.setCore c { k with esc := false, vtb := Config.firmwareTable }).enterOnce c
      { e with tsb := escTsb, held := true }
  else r

/-- The entry a core's own context makes now. -/
def Core.entry (k : Core) (vec cause : Nat) (g2 : W) (pc : Nat) (replaced : Bool := false) : Entry :=
  { vec := vec, cause := cause, g2 := g2, pc := pc, fromLevel := k.level, fromElevel := k.elevel
    tsb := k.tsbp.toNat, resuming := nbit k.ssr.toNat 0, replaced := replaced }

/-- Entry into vector 32 while a queued record has a LEVEL above the handler's (R399). HL rises with each. -/
def State.enterEvents (fuel : Nat) (s : State) (c : Nat) : State :=
  match fuel with
  | 0 => s
  | n + 1 =>
    let k := s.core c
    if k.eventDue && k.run == .active then
      State.enterEvents n (s.enter c (k.entry 32 0 0 k.pc.toNat)).1 c
    else s

/-- A faulted item's vector and cause (R238): an exception of vectors 1 to 13, or TRAP. -/
def endsItem (vec cause : Nat) : Bool :=
  (decide (1 ≤ vec) && decide (vec ≤ 13)) || (vec == 16 && cause == 0) || (decide (17 ≤ vec) && decide (vec ≤ 31))

/-- The records of the core's own turn timer in its queue, by slot of the queue and item slot (R417, R422). -/
def Core.turnRecords (k : Core) (c : Nat) : List (Nat × Nat) :=
  (k.queue.filter (fun q => q.kind == 1 && q.bench == benchOf c && q.src == 80 + c % 24)).map (fun q => (q.slot, q.payload))

/-- Firmware has done with a queued record: it writes 0 to the KIND byte, which frees the slot (R417, log 59). -/
def State.consumeRecord (s : State) (c slot : Nat) : State :=
  (s.modCore c (fun k => { k with loc := Memory.writeN k.loc (16 * slot + 11) [0] })).freeQueueSlot c slot

/-- Firmware's event handler takes the core's turn-timer records: a turn that runs yet has exceeded its limit, and its item
ends with vector 0 and cause 0x00 (R221, R238, R239). -/
def State.endTurns (s : State) (c : Nat) (e : Entry) (mode : W) : State :=
  ((s.core c).turnRecords c).foldl (fun t r =>
    let t := t.consumeRecord c r.1
    if e.fromLevel ≠ 0 ∨ slotOfTsb e.tsb ≠ some r.2 then t
    else
      match ((t.core c).slot r.2).item with
      | none => t
      | some (st, j) => (t.programFault st j 0 0 e.pc mode).modCore c (fun k => k.wslot r.2 (k.slot r.2).freed)) s

/-- What firmware's handler does to the item that a task-level entry interrupted: PROGRAM_FAULT under R238 and R239, or a
machine check under R411, whose memory firmware leaves to the scrubs (log 12). -/
def State.firmwareHandler (s : State) (c : Nat) (e : Entry) (mode : W) : State :=
  if e.vec = 32 then s.endTurns c e mode
  else if e.fromLevel ≠ 0 then s else
  match slotOfTsb e.tsb with
  | none => s
  | some i =>
    match ((s.core c).slot i).item with
    | none => s
    | some (st, j) =>
      if endsItem e.vec e.cause then
        (s.programFault st j e.vec e.cause e.pc mode).modCore c (fun k => k.wslot i (k.slot i).freed)
      else if e.vec = 14 then
        let frame := e.g2.toNat / 4096
        let recorded : Bool := (s.item st j).any (fun it => it.frames.contains frame)
        let s := if recorded then s.itemDeviceFault st j e.cause e.pc mode
          else (s.modItem st j (fun it => { it with frames := frame :: it.frames })).itemToAccepted st j
        s.modCore c (fun k => k.wslot i (k.slot i).freed)
      else s

/-- A core's EWAIT ends: where it waited for work, WORK_READY is raised if the queue still holds any (R222, R233). -/
def State.endEwait (s : State) (c : Nat) : State :=
  let k := s.core c
  if k.ewaitFrom.isNone then s
  else
    let s' := s.setCore c { k with ewaitFrom := none }
    if k.awaitsWork then s'.workReady (benchOf c) else s'

/-- What an entry finds (R291, R398): outstanding multiplies, divides and floating-point work are complete, and what an
interrupted EWAIT, work instruction or routine waited for is given up (R233, R406). -/
def State.settleCore (s : State) (c : Nat) : State :=
  ((s.modCore c (fun k => { k.completeAll with uwait := none })).endEwait c).dropWaits c

/-- Taking an exception (R398 to R400): outstanding work completes; a pending floating-point trap replaces the entry
(R351); an exception in escalation check-stops the core (R410); then the entry, what firmware's handler does to the
interrupted item, and entries into vector 32 that follow (R399). `pc` is the PC that R393 says is saved; `at_` that of
the instruction. -/
def State.takeEntry (s : State) (c vec cause : Nat) (g2 : W) (pc at_ : Nat) : State :=
  let s := s.settleCore c
  let k := s.core c
  if k.esc then s.checkStop c
  else
    let enter (s : State) (e : Entry) : State :=
      let r := s.enter c e
      (if r.2 then r.1.firmwareHandler c e k.mode else r.1).enterEvents 16 c
    match (if vec = 9 then none else k.trap) with
    | some (fcause, fpc) =>
      let s := s.setCore c { k with trap := none, fpia := fpc.setWidth 64 }
      enter s ((s.core c).entry 9 fcause (fpc.setWidth 64) at_ true)
    | none => enter s (k.entry vec cause g2 pc)

/-- Delivery of the pending floating-point trap at an instruction (R351). -/
def State.deliverTrap (s : State) (c : Nat) : State :=
  let k := s.core c
  match k.trap with
  | none => s
  | some (cause, fpc) =>
    (s.setCore c { k with trap := none, fpia := fpc.setWidth 64 }).takeEntry c 9 cause (fpc.setWidth 64)
      k.pc.toNat k.pc.toNat

/-! ### RETT -/

/-- The first part of a TSB that the level may not read, by vector and address: its 256-byte quarters lie each in one region,
frame and granule (check 1 of R401). -/
def State.tsbUnreadable (s : State) (c level a : Nat) : Option (Nat × Nat) :=
  if 2 ^ 48 ≤ a then some (3, a) else
  [0, 0x100, 0x200, 0x300].findSome? (fun o =>
    (s.checkAt c 0 level (a + o) false).map (fun e => (e.1, a + o)))

/-- The slot that RETT runs becomes RUNNING, unless its item has ended (R218, R220). -/
def Core.runSlot (k : Core) (a : Nat) : Core :=
  match slotOfTsb a with
  | none => k
  | some i =>
    let sl := k.slot i
    if sl.item.isSome && sl.st != .ended then k.wslot i { sl with st := .running, wait := 0 } else k

/-- RETT's checks (R401) on the TSB at TSBP, of which MODE and PC are read: the first that fails. -/
def State.rettCheck (s : State) (c : Nat) : Option Exn :=
  let k := s.core c
  let a := k.tsbp.toNat
  match s.tsbUnreadable c k.level a with
  | some (vec, at_) => some { vec := vec, cause := if vec = 3 then 1 else 2, g2 := BitVec.ofNat 64 at_ }
  | none =>
    match s.poisonIn c (a + 0x360) 0x18 with
    | some at_ => some { vec := 14, cause := 1, g2 := BitVec.ofNat 64 at_ }
    | none =>
      let mode : W := BitVec.ofNat 64 (leVal (s.rawRead c (a + 0x370) 8))
      let pc := leVal (s.rawRead c (a + 0x360) 8)
      if nbits mode.toNat 0 2 = 3 ∨ mode &&& modeReserved ≠ 0 then some Exn.reserved
      else if k.level < nbits mode.toNat 0 2 then some { vec := 10, cause := 5 }
      else if 2 ^ 48 ≤ pc then some { vec := 3, cause := 3, g2 := BitVec.ofNat 64 pc }
      else none

/-- The restore of R402: control, general, and the groups whose SAVE bit the loaded MODE has; the others are 0. Poison in
what is loaded gives a machine check, and nothing is restored. -/
def State.rettRestore (s : State) (c a : Nat) (mode : W) : Eff :=
  match s.loadPoison c a mode with
  | some at_ => .exc { vec := 14, cause := 1, g2 := BitVec.ofNat 64 at_ }
  | none =>
    let t := s.rawRead c a 0x3A0
    let k := (((({ s.core c with mode := mode &&& ~~~modeDirty }).loadControl t).loadGeneral t).loadGroups t).runSlot a
    .placed ((s.loadTouch a mode).setCore c k)

/-- RETT (R401 to R403), with outstanding work done and no trap pending: from its first cycles on the core's routing level
is the loaded ELEVEL, and a queued record above it is entered in place of the restore. -/
def State.rett (s : State) (c : Nat) : Eff :=
  match s.rettCheck c with
  | some e => .exc e
  | none =>
    let k := s.core c
    let a := k.tsbp.toNat
    let mode : W := BitVec.ofNat 64 (leVal (s.rawRead c (a + 0x370) 8))
    let elevel := nbits mode.toNat 24 4
    let s := ((s.rawTouch (a + 0x360) 0x18).setCore c { k with
      esc := false, mode := (k.mode &&& ~~~(0xF000000 : W)) ||| BitVec.ofNat 64 (elevel * 2 ^ 24) }).evalEvc (benchOf c)
    if elevel < (s.core c).topLevel then
      match s.poisonIn c (a + 0x388) 8 with
      | some at_ => .exc { vec := 14, cause := 1, g2 := BitVec.ofNat 64 at_ }
      | none =>
        let e : Entry :=
          { vec := 32, cause := 0, g2 := 0, pc := leVal (s.rawRead c (a + 0x360) 8), fromLevel := nbits mode.toNat 0 2
            fromElevel := elevel, tsb := a, resuming := nbit (leVal (s.rawRead c (a + 0x388) 8)) 0, chained := true, held := true }
        let r := (s.rawTouch (a + 0x388) 8).enter c e
        .placed ((if r.2 then r.1.firmwareHandler c e mode else r.1).enterEvents 16 c)
    else s.rettRestore c a mode

end Sys2Proof.Machine
end

