-- ==== Sys2Proof/Machine/Operands.lean ====
section
/-!
DEFINITION. Operand forms: prefixes (R316), register bytes (R317), memory specifiers and effective addresses (R318),
address units (R303 to R305), and the load instructions' effect (R336, R353).
-/

namespace Sys2Proof

/-- The number that tells prefixes apart: the low bits of the prefix byte. -/
def Pfx.kind : Pfx → Nat
  | .osz => 0
  | .dlen _ => 1
  | .key _ => 2
  | .strict => 3
  | .lock => 4
  | .au _ => 5
  | .relaxed => 6
  | .nt => 7

/-- Bytes a prefix takes, payload included. -/
def Pfx.len : Pfx → Nat
  | .dlen _ => 2
  | .key _ => 2
  | .au _ => 2
  | _ => 1

/-- A prefix's payload holds no reserved bit or value (check 6 of R320). -/
def Pfx.payloadOk : Pfx → Bool
  | .dlen p => decide (1 ≤ p.toNat) && decide (p.toNat ≤ 31)
  | .key p => decide (p.toNat < 16)
  | .au p => decide (p.toNat < 4)
  | _ => true

/-- AMODE. -/
def MemSpec.amode (m : MemSpec) : Nat := m.b1.toNat / 32

/-- Displacement bytes; none for AMODE 6 and 7 (R320). -/
def MemSpec.dispLen (m : MemSpec) : Nat :=
  if m.amode = 1 then 1 else if m.amode = 2 then 2 else if m.amode = 3 ∨ m.amode = 4 ∨ m.amode = 5 then 4 else 0

/-- Bytes of the specifier. -/
def MemSpec.len (m : MemSpec) : Nat := 3 + m.dispLen

/-- The specifier's addressing bytes hold no reserved value, byte by byte (R305, R318). -/
def MemSpec.oks (m : MemSpec) (au : Bool) : List Bool :=
  if au then [m.b1 == 0, m.b2 == 0]
  else [decide (m.amode ≤ 5) && (decide (m.amode < 4) || decide (m.b1.toNat % 32 = 0)), decide (128 ≤ m.b2.toNat) || m.b2 == 0]

end Sys2Proof

namespace Sys2Proof.Machine

/-! ### Prefixes (R315, R316) -/

/-- Bytes the prefixes take. -/
def pxLen (px : List Pfx) : Nat := px.foldl (fun n p => n + p.len) 0

/-- A prefix is present. -/
def hasPx (px : List Pfx) (kind : Nat) : Bool := px.any (fun p => p.kind == kind)

/-- OSZ is present (R316). -/
def osz (px : List Pfx) : Bool := hasPx px 0

/-- A prefix repeats, or STRICT and RELAXED both appear (check 1 of R320). -/
def pxMisuse (px : List Pfx) : Bool :=
  (List.range 8).any (fun i => decide (1 < (px.filter (fun p => p.kind == i)).length)) || (hasPx px 3 && hasPx px 6)

/-- The opcodes of MEMORY (R316). -/
def inMemory (op : Nat) : Bool :=
  (decide (0x10 ≤ op) && decide (op ≤ 0x16)) || (decide (0x18 ≤ op) && decide (op ≤ 0x1F)) ||
  (decide (0x60 ≤ op) && decide (op ≤ 0x68)) || op == 0x7B || op == 0x7C ||
  (decide (0x87 ≤ op) && decide (op ≤ 0x8A)) || op == 0x8E || (decide (0xA0 ≤ op) && decide (op ≤ 0xA5))

/-- The opcodes of ALIGNED (R316). -/
def inAligned (op : Nat) : Bool :=
  (decide (0x11 ≤ op) && decide (op ≤ 0x13)) || op == 0x15 || op == 0x16 ||
  (decide (0x19 ≤ op) && decide (op ≤ 0x1F)) || op == 0x7B || op == 0x7C

/-- A prefix is allowed on an opcode of the one-byte page (R316). -/
def pxAllowed (op : Nat) (p : Pfx) : Bool :=
  match p with
  | .osz => (decide (0x20 ≤ op) && decide (op ≤ 0x2E)) || (decide (0x30 ≤ op) && decide (op ≤ 0x36)) ||
      (decide (0x40 ≤ op) && decide (op ≤ 0x51)) || op == 0x54 || op == 0x55 || (decide (0x70 ≤ op) && decide (op ≤ 0x7D))
  | .dlen _ => decide (0x80 ≤ op) && decide (op ≤ 0x8F)
  | .key _ => inMemory op
  | .strict => inAligned op
  | .lock => (decide (0x10 ≤ op) && decide (op ≤ 0x16)) || (decide (0x18 ≤ op) && decide (op ≤ 0x1F)) ||
      (decide (0x60 ≤ op) && decide (op ≤ 0x62)) || op == 0x67
  | .au _ => (decide (0x10 ≤ op) && decide (op ≤ 0x16)) || (decide (0x18 ≤ op) && decide (op ≤ 0x1D)) || op == 0x7B ||
      op == 0x7C || op == 0x87 || op == 0x88
  | .relaxed => inAligned op
  | .nt => inMemory op

/-- The payload of the KEY prefix. -/
def pxKey (px : List Pfx) : Option Nat := px.findSome? (fun p => match p with | .key b => some (b.toNat % 16) | _ => none)

/-- The unit the AU prefix names. -/
def pxAu (px : List Pfx) : Option Nat := px.findSome? (fun p => match p with | .au b => some (b.toNat % 4) | _ => none)

/-- The digit count of the DLEN prefix. -/
def pxDlen (px : List Pfx) : Option Nat := px.findSome? (fun p => match p with | .dlen b => some (b.toNat % 32) | _ => none)

/-- The rights and alignment mode of an instruction's data accesses (R295, R306, R316). -/
def whoOf (c : Nat) (k : Core) (px : List Pfx) : Who :=
  { core := c, key := (pxKey px).getD k.key, level := k.level
    strict := if hasPx px 3 then true else if hasPx px 6 then false else k.align }

/-! ### Register bytes (R317) -/

/-- An operand byte that names a G register has bits [7:5] at 0. -/
def okG (b : Byte) : Bool := decide (b.toNat < 32)

/-- An operand byte that names a DR or F register has bits [7:4] at 0. -/
def okF (b : Byte) : Bool := decide (b.toNat < 16)

/-! ### Memory specifiers (R318) -/

/-- The displacement, sign-extended to 64 bits. -/
def dispVal (m : MemSpec) : W :=
  BitVec.ofInt 64 (sint (8 * m.dispLen) m.disp.toNat)

/-- The effective address (R318); `next` is the address after the instruction. -/
def specEa (m : MemSpec) (k : Core) (next : Nat) : W :=
  let base : W :=
    if m.amode ≤ 3 then k.rg (m.b1.toNat % 32) else if m.amode = 5 then BitVec.ofNat 64 next else 0
  let idx : W := if 128 ≤ m.b2.toNat then (k.rg (m.b2.toNat % 32)) <<< (m.b2.toNat / 32 % 4) else 0
  base + idx + dispVal m

/-! ### Address units (R303 to R305) -/

/-- The first illegal point of a unit's configuration, as a cause of vector 12 (R304, R393). -/
def AddrUnit.illegal (u : AddrUnit) : Option Nat :=
  let kind := nbits u.mode.toNat 0 2
  let st : Int := sint 32 u.step.toNat
  let len := u.length.toNat
  if kind = 3 then some 1
  else if 4 < nbits u.mode.toNat 2 4 then some 2
  else if nbits u.mode.toNat 6 26 ≠ 0 then some 3
  else if 2 ^ 48 ≤ u.base.toNat then some 4
  else if kind = 1 then
    if len = 0 ∨ 2 ^ 32 < len then some 5
    else if len ≤ u.index.toNat then some 6
    else if len ≤ st.natAbs then some 7
    else none
  else if kind = 2 then
    if len < 2 ∨ 2 ^ 32 < len ∨ 2 ^ (Nat.log2 len) ≠ len then some 5
    else if len ≤ u.index.toNat then some 6
    else none
  else none

/-- The unit's address (R303). -/
def AddrUnit.ea (u : AddrUnit) : W := u.base + (u.index <<< (nbits u.mode.toNat 2 4))

/-- The unit after an access (R303). -/
def AddrUnit.advance (u : AddrUnit) : AddrUnit :=
  let kind := nbits u.mode.toNat 0 2
  let st : Int := sint 32 u.step.toNat
  if kind = 0 then { u with index := u.index + BitVec.ofInt 64 st }
  else if kind = 1 then
    { u with index := BitVec.ofNat 64 (((u.index.toNat : Int) + st) % (u.length.toNat : Int)).toNat }
  else
    let kk := Nat.log2 u.length.toNat
    { u with index := BitVec.ofNat 64 (revBits kk ((revBits kk u.index.toNat +
        revBits kk (u.step.toNat % 2 ^ kk)) % 2 ^ kk)) }

/-- The address of a memory operand, or vector 12; the second component names the unit that advances. -/
def memEa (k : Core) (px : List Pfx) (m : MemSpec) (next : Nat) : Except Exn (W × Option Nat) :=
  match pxAu px with
  | none => .ok (specEa m k next, none)
  | some u =>
    match (k.au u).illegal with
    | some cause => .error { vec := 12, cause := cause, g2 := BitVec.ofNat 64 u }
    | none => .ok ((k.au u).ea, some u)

/-- The unit of an instruction that has completed advances (R305). -/
def Core.advanceAu (k : Core) : Option Nat → Core
  | none => k
  | some u => k.wau u ((k.au u).advance)

/-! ### Loads (R336, R353) -/

/-- Bytes a load takes; FLD takes 4 with OSZ. -/
def LoadOp.size (op : LoadOp) (px : List Pfx) : Nat :=
  match op with
  | .b | .sb => 1
  | .h | .sh => 2
  | .w | .sw => 4
  | .d => 8
  | .q => 16
  | .fld => if osz px then 4 else 8

/-- Loaded registers (R336): zero- or sign-extended, a pair for LD.Q, an F register for FLD. -/
def LoadOp.writeBack (op : LoadOp) (k : Core) (d v : Nat) : Core :=
  match op with
  | .sb => k.wg d (BitVec.ofInt 64 (sint 8 v))
  | .sh => k.wg d (BitVec.ofInt 64 (sint 16 v))
  | .sw => k.wg d (BitVec.ofInt 64 (sint 32 v))
  | .q => (k.wg d (BitVec.ofNat 64 v)).wg (d + 1) (BitVec.ofNat 64 (v / 2 ^ 64))
  | .fld => k.wf d (BitVec.ofNat 64 v)
  | _ => k.wg d (BitVec.ofNat 64 v)

/-- A load's effect, once every check has passed or with the exception of the first that fails. -/
def loadBody (c : Nat) (op : LoadOp) (px : List Pfx) (m : MemSpec) (s : State) (next : Nat) : Eff :=
  let k := s.core c
  match memEa k px m next with
  | .error e => .exc e
  | .ok (a, u) =>
    let n := op.size px
    match s.checkAccess (whoOf c k px) a n .read with
    | some e => .exc e
    | none =>
      let v := s.readVal c a.toNat n
      let s := s.afterRead a.toNat n
      .next (s.modCore c (fun k => (op.writeBack k m.data.toNat v).advanceAu u))

end Sys2Proof.Machine
end

