-- ==== Sys2Proof/Machine/DecOps.lean ====
section
/-!
DEFINITION. Decimal data (R358 to R361), limits and flags (R362 to R364), and the effect of the decimal instructions that
may complete out of order (R365 to R373).
-/

namespace Sys2Proof.Machine

/-- Digit `i` of a decimal register (R287). -/
def drDigit (v : BitVec 128) (i : Nat) : Nat := nbits v.toNat (4 + 4 * i) 4

/-- A sign nibble reads as minus (R359). -/
def signMinus (n : Nat) : Bool := n == 0xB || n == 0xD

/-- The cause of vector 6 that a register raises: the first invalid nibble from the most significant end (R358, R365). -/
def drCheck (v : BitVec 128) : Option Nat :=
  if (List.range 31).any (fun i => decide (9 < drDigit v i)) then some 1
  else if nbits v.toNat 0 4 < 10 then some 2
  else none

/-- The magnitude of a register. -/
def drMag (v : BitVec 128) : Nat := (List.range 31).foldl (fun acc i => acc * 10 + drDigit v (30 - i)) 0

/-- The value of a register (R358, R359). -/
def drValue (v : BitVec 128) : Int := if signMinus (nbits v.toNat 0 4) then -(drMag v : Int) else (drMag v : Int)

/-- The sign of a register, as DDIV and DSCL read it (R359, R367). -/
def drMinus (v : BitVec 128) : Bool := signMinus (nbits v.toNat 0 4)

/-- A number's packed digits, the units digit lowest. -/
def bcdOf : Nat → Nat → Nat
  | 0, _ => 0
  | n + 1, m => m % 10 + 16 * bcdOf n (m / 10)

/-- The register of a magnitude below 10^31: sign 0xC for plus and zero, 0xD for minus (R359). -/
def mkDr (minus : Bool) (mag : Nat) : BitVec 128 :=
  BitVec.ofNat 128 ((if minus && mag != 0 then 0xD else 0xC) + 16 * bcdOf 31 mag)

/-- The operand length (R362). -/
def decLen (px : List Pfx) : Nat := (pxDlen px).getD 31

/-- DEC flags (R363): H is unchanged. -/
def Core.decFlags (k : Core) (z n v c : Bool) : Core := k.setFl c z n v k.fH

/-- A result written to a decimal register under R363 and R364. -/
def Core.decWrite (k : Core) (d len : Nat) (minus : Bool) (mag : Nat) (c : Bool) : Except Exn Core :=
  let tooBig := decide (10 ^ len ≤ mag)
  if tooBig && k.doe then .error { vec := 7, cause := 1 }
  else
    let m := mag % 10 ^ len
    .ok ((k.wd d (mkDr minus m)).decFlags (m == 0) (minus && m != 0) tooBig c)

/-- The validity of register operands in order (R365): vector 6 with G2 0. -/
def decValid : List (BitVec 128) → Option Exn
  | [] => none
  | v :: vs => match drCheck v with
    | some cause => some { vec := 6, cause := cause }
    | none => decValid vs

/-- DSCL's scaled magnitude (R368). -/
def dsclMag (v : Nat) (s : Int) (mode : Nat) : Nat :=
  if 0 ≤ s then v * 10 ^ s.toNat
  else
    let p := 10 ^ (-s).toNat
    let q := v / p
    let rem := v % p
    let half := p / 2
    if mode = 1 ∧ half ≤ rem then q + 1
    else if mode = 2 ∧ (half < rem ∨ (rem = half ∧ q % 2 = 1)) then q + 1
    else q

/-- The first invalid nibble of a packed field: cause and byte (R360, R365). -/
def packedCheck (len : Nat) (bs : Bytes) : Option (Nat × Nat) :=
  let nb := len / 2 + 1
  (List.range nb).findSome? (fun i =>
    let b := byteAt bs i
    let hi := b / 16
    let lo := b % 16
    if i = 0 ∧ len % 2 = 0 ∧ hi ≠ 0 then some (4, i)
    else if 9 < hi then some (1, i)
    else if i + 1 = nb then (if lo < 10 then some (2, i) else none)
    else if 9 < lo then some (1, i) else none)

/-- The magnitude of a valid packed field. -/
def packedMag (bs : Bytes) : Nat :=
  (bs.foldl (fun acc b => (acc * 10 + b.toNat / 16) * 10 + b.toNat % 16) 0) / 10

/-- A packed field's magnitude without the sign nibble. -/
def packedValue (bs : Bytes) : Nat :=
  let last := byteAt bs (bs.length - 1)
  packedMag (bs.take (bs.length - 1) ++ [BitVec.ofNat 8 (last - last % 16)])

/-- A packed field of `len` digits (R360). -/
def packedOf (len : Nat) (minus : Bool) (mag : Nat) : Bytes :=
  beBytes (len / 2 + 1) ((if minus && mag != 0 then 0xD else 0xC) + 16 * bcdOf len mag)

/-- The first invalid nibble of a zoned field: cause and byte (R361, R371). -/
def zonedCheck (len : Nat) (bs : Bytes) : Option (Nat × Nat) :=
  (List.range len).findSome? (fun i =>
    let z := byteAt bs i / 16
    let zoneOk : Bool := z == 3 || z == 15 || (i + 1 == len && decide (10 ≤ z))
    if !zoneOk then some (3, i) else if 9 < byteAt bs i % 16 then some (1, i) else none)

/-- The magnitude of a valid zoned field. -/
def zonedMag (bs : Bytes) : Nat := bs.foldl (fun acc b => acc * 10 + b.toNat % 16) 0

/-- A zoned field of `len` digits: the ASCII form, or the signed form (R361, R372). -/
def zonedOf (signed : Bool) (len : Nat) (minus : Bool) (mag : Nat) : Bytes :=
  (List.range len).map (fun i =>
    let dig := mag / 10 ^ (len - 1 - i) % 10
    let zone := if !signed then 3 else if i + 1 < len then 15 else if minus && mag != 0 then 13 else 12
    BitVec.ofNat 8 (zone * 16 + dig))

/-- A register-only decimal instruction's effect on its core. -/
def decRegs (op : DecOp) (px : List Pfx) (d a b e : Nat) (k : Core) : Except Exn Core :=
  let len := decLen px
  let va := k.rd a
  let vb := k.rd b
  match op with
  | .add => match decValid [va, vb] with
    | some x => .error x
    | none => k.decWrite d len (decide (drValue va + drValue vb < 0)) (drValue va + drValue vb).natAbs false
  | .sub => match decValid [va, vb] with
    | some x => .error x
    | none => k.decWrite d len (decide (drValue va - drValue vb < 0)) (drValue va - drValue vb).natAbs false
  | .mul => match decValid [va, vb] with
    | some x => .error x
    | none => k.decWrite d len (decide (drValue va * drValue vb < 0)) (drValue va * drValue vb).natAbs false
  | .div => match decValid [va, vb] with
    | some x => .error x
    | none =>
      if drMag vb = 0 then .error { vec := 8, cause := 1 }
      else
        let q := drMag va / drMag vb
        let r := drMag va % drMag vb
        match k.decWrite d len (drMinus va != drMinus vb) q (r != 0) with
        | .error x => .error x
        | .ok k => .ok (k.wd (d + 1) (mkDr (drMinus va) r))
  | .cmp => match decValid [va, vb] with
    | some x => .error x
    | none =>
      let lt := decide (drValue va < drValue vb)
      .ok (k.decFlags (drValue va == drValue vb) lt false lt)
  | .nrm => match decValid [va] with
    | some x => .error x
    | none => k.decWrite d len (drMinus va) (drMag va) false
  | .scl => match decValid [va] with
    | some x => .error x
    | none => k.decWrite d len (drMinus va) (dsclMag (drMag va) (sint 8 b) e) false
  | .gtod =>
    let v := (k.rg a).toInt
    k.decWrite d len (decide (v < 0)) v.natAbs false
  | .dtog => match decValid [va] with
    | some x => .error x
    | none =>
      let v := drValue va
      let fits := decide (-(2 ^ 63 : Int) ≤ v) && decide (v ≤ 2 ^ 63 - 1)
      if !fits && k.doe then .error { vec := 7, cause := 2 }
      else
        let r := BitVec.ofInt 64 v
        .ok ((k.wg d r).decFlags (r == 0) r.msb (!fits) false)
  | .ld => .ok k
  | .ztod => .ok k

/-- The effect of a decimal instruction that may complete out of order. For DSCL `b` is the scale and `e` the mode. -/
def decBody (c : Nat) (o : DecOut) (s : State) (next : Nat) : Eff :=
  let k := s.core c
  let len := decLen o.px
  match o.op with
  | .ld =>
    match memEa k o.px o.m next with
    | .error e => .exc e
    | .ok (a, u) =>
      let n := len / 2 + 1
      match s.checkBytes (whoOf c k o.px) a.toNat n false with
      | some e => .exc e
      | none =>
        let bs := s.readBytes c a.toNat n
        match packedCheck len bs with
        | some (cause, i) => .exc { vec := 6, cause := cause, g2 := a + BitVec.ofNat 64 i }
        | none =>
          match k.decWrite o.m.data.toNat len (signMinus (byteAt bs (n - 1) % 16)) (packedValue bs) false with
          | .error e => .exc e
          | .ok k' => .next ((s.touchRead a.toNat n).setCore c (k'.advanceAu u))
  | .ztod =>
    match memEa k o.px o.m next with
    | .error e => .exc e
    | .ok (a, _) =>
      match s.checkBytes (whoOf c k o.px) a.toNat len false with
      | some e => .exc e
      | none =>
        let bs := s.readBytes c a.toNat len
        match zonedCheck len bs with
        | some (cause, i) => .exc { vec := 6, cause := cause, g2 := a + BitVec.ofNat 64 i }
        | none =>
          match k.decWrite o.m.data.toNat len (signMinus (byteAt bs (len - 1) / 16)) (zonedMag bs) false with
          | .error e => .exc e
          | .ok k' => .next ((s.touchRead a.toNat len).setCore c k')
  | _ =>
    match decRegs o.op o.px o.d.toNat o.a.toNat o.b.toNat o.e.toNat k with
    | .error e => .exc e
    | .ok k' => .next (s.setCore c k')

end Sys2Proof.Machine
end

