-- ==== Sys2Proof/Machine/Instr.lean ====
section
/-!
DEFINITION. How a core executes one instruction: what comes before it at the boundary (R404), decoding checks (R320),
level checks (R292), its effect, the hardware-loop end check (R334), and the exception it ends in (R283, R393).
-/

namespace Sys2Proof.Machine

/-- What decoding knows of an instruction. -/
structure Desc where
  /-- The opcode byte; 0xFC for its page, 0xE0 for a customer opcode. -/
  op : Nat
  /-- Bytes after the prefixes. -/
  len : Nat
  /-- Bytes after the prefixes that checks 1 to 3 of R320 read. -/
  head : Nat := 1
  /-- Of each operand byte after the first `head` bytes that check 6 examines, in order: it holds no reserved value. -/
  ok : List Bool := []
  /-- The operand bytes end in a memory specifier, whose third byte gives the length (R320). -/
  spec : Bool := false
  /-- The failure of check 2 or 3, as a cause of vector 1. -/
  undef : Option Nat := none
  /-- The prefixes are allowed, where R316 does not decide by the opcode byte alone. -/
  pxOk : Option Bool := none
  /-- The lowest level that may execute it (R292). -/
  minLevel : Nat := 0
  /-- A delivery point of R351, which also waits for outstanding floating-point work. -/
  delivers : Bool := false
  /-- It reads or writes MLO or MHI, or is a multiply or divide (R341). -/
  ml : Bool := false
  /-- It reads or writes FL. -/
  fl : Bool := false
  deriving DecidableEq, Repr

/-- The device lets its cores issue instructions: start-up has reached the self-test step, no reset, flush or trip holds
it, and no firmware switch or clock change runs (R493, R497, R502); and the core is active (R410, R420). -/
def State.coreRuns (s : State) (c : Nat) : Bool :=
  decide (5 ≤ s.su.step) && !s.su.halted && !s.su.sysResetLow && s.power.fwSwitch.isNone && !s.power.clkChange &&
    (s.core c).run == .active

/-- No event is taken yet: a microcode routine that waits has staged something (R450), or a work instruction's append is held
(R406). -/
def Core.staged (k : Core) : Bool :=
  k.uwait.any (fun u => !u.regs.isEmpty || u.ssrp.isSome || !u.writes.isEmpty) || k.wait == .append

/-- The innermost active loop level (R334). -/
def Core.topLoop (k : Core) : Option Nat := [3, 2, 1, 0].find? (fun i => nbit (k.lvl i).lf.toNat 0)

/-- The end check (R334): it fires when the instruction starts below LE and its next is at or above LE. -/
def Core.endCheck : Nat → Nat → Nat → Core → Core
  | 0, _, nxt, k => { k with pc := BitVec.ofNat 48 nxt }
  | fuel + 1, start, nxt, k =>
    match k.topLoop with
    | none => { k with pc := BitVec.ofNat 48 nxt }
    | some i =>
      let l := k.lvl i
      if start < l.le.toNat ∧ l.le.toNat ≤ nxt then
        if 1 < l.lc.toNat then { k.wl i { l with lc := l.lc - 1 } with pc := l.ls.setWidth 48 }
        else Core.endCheck fuel start nxt (k.wl i { l with lc := 0, lf := 0 })
      else { k with pc := BitVec.ofNat 48 nxt }

/-- What an effect leaves: PC moved on, or the entry its exception makes on the state before it. -/
def State.resolve (s : State) (c start nxt : Nat) : Eff → State
  | .next t => t.modCore c (fun k => Core.endCheck 5 start nxt { k with retired := k.retired + 1, ewaitFrom := none, uwait := none, wait := .nothing })
  | .branch t target =>
    if 2 ^ 48 ≤ target.toNat then s.takeEntry c 3 3 target start start
    else t.modCore c (fun k => { k with pc := target.setWidth 48, retired := k.retired + 1, uwait := none })
  | .exc e => s.takeEntry c e.vec e.cause e.g2 start start
  | .wait t => t
  | .placed t => t.modCore c (fun k => { k with retired := k.retired + 1, uwait := none })

/-- Bytes of a load instruction after its prefixes. -/
def LoadOut.len (o : LoadOut) : Nat := pxLen o.px + 1 + o.m.len

/-- Bytes of a decimal instruction, prefixes included (R319). -/
def DecOut.len (o : DecOut) : Nat :=
  pxLen o.px + match o.op with
    | .ld => 1 + o.m.len
    | .ztod => 1 + o.m.len
    | .add => 4
    | .sub => 4
    | .mul => 4
    | .div => 4
    | .scl => 5
    | _ => 3

/-- The outstanding load of a core completes (R400). The second component is false when it raised an exception. -/
def State.finishLoad (s : State) (c : Nat) : State × Bool :=
  let k := s.core c
  match k.load with
  | none => (s, true)
  | some o =>
    let s := s.setCore c { k with load := none }
    let pc := k.pc.toNat
    match loadBody c o.op o.px o.m s (pc + o.len) with
    | .exc e => (s.takeEntry c e.vec e.cause e.g2 pc pc, false)
    | r => (s.resolve c pc (pc + o.len) r, true)

/-- The outstanding decimal instruction of a core completes (R282, R366). -/
def State.finishDec (s : State) (c : Nat) : State × Bool :=
  let k := s.core c
  match k.dec with
  | none => (s, true)
  | some o =>
    let s := s.setCore c { k with dec := none }
    let pc := k.pc.toNat
    match decBody c o s (pc + o.len) with
    | .exc e => (s.takeEntry c e.vec e.cause e.g2 pc pc, false)
    | r => (s.resolve c pc (pc + o.len) r, true)

/-- The load and the decimal instruction that a core has outstanding complete. Both are precise, so nothing later has been
executed; the second component is false when one raised an exception (R282, R400). -/
def State.completeLate (s : State) (c : Nat) : State × Bool :=
  let r := s.finishLoad c
  if r.2 then r.1.finishDec c else r

/-- Outstanding work that the next instruction depends on completes first (R282, R341, R351). -/
def State.beforeIssue (s : State) (c : Nat) (d : Desc) : State × Bool :=
  let r := s.completeLate c
  if !r.2 then r else
  let s := r.1
  let s := if d.delivers || (s.core c).floatTouchesInt then s.modCore c Core.finishFloats else s
  let k := s.core c
  let s := if d.ml || (d.fl && k.muldiv.any (fun m => m.v.isSome)) then s.setCore c k.finishMul else s
  (s, true)

/-- A queued event that may be taken at this boundary is taken (row 3 of R404, R406). -/
def State.takeEvent (s : State) (c : Nat) : State :=
  let k := s.core c
  if k.eventDue && !k.staged then s.takeEntry c 32 0 0 k.pc.toNat k.pc.toNat else s

/-- An instruction boundary: an event that may be taken is taken, late work completing first (R400, R404). With none the state
stays. -/
def State.boundary (s : State) (c : Nat) : State :=
  let r := s.completeLate c
  if !r.2 then r.1
  else if (r.1.core c).eventDue && !(r.1.core c).staged then r.1.takeEvent c else s

/-- The instruction's bytes can be fetched (R295, R299, R320, R411): the first that cannot gives its exception. -/
def State.fetchCheck (s : State) (c n : Nat) : Option Exn :=
  let k := s.core c
  match s.checkBytes { core := c, key := k.key, level := k.level } k.pc.toNat n false with
  | some e => some (if e.vec = 14 then { e with cause := 2 } else e)
  | none => none

/-- Bytes read until a prefix repeats, or STRICT and RELAXED both have appeared (check 1 of R320). -/
def misusedAt (px : List Pfx) : Option Nat :=
  (List.range px.length).findSome? (fun i => if pxMisuse (px.take (i + 1)) then some (pxLen (px.take i) + 1) else none)

/-- A failure of vector 1 with a cause. -/
def Exn.decode (cause : Nat) : Exn := { vec := 1, cause := cause }

/-- The checks of R320 in order and the level checks of R292: how many of the instruction's bytes each needs, and its
failure. -/
def Core.checks (k : Core) (px : List Pfx) (d : Desc) : List (Nat × Option Exn) :=
  let pl := pxLen px
  let known := pl + d.head + (if d.spec then d.ok.length - 1 else 0)
  let allowed : Bool := match d.pxOk with | some b => b | none => px.all (pxAllowed d.op)
  let operand := d.ok.findIdx (fun b => !b)
  (match misusedAt px with | some n => [(n, some (Exn.decode 1))] | none => []) ++
  [ (pl + d.head, d.undef.map Exn.decode),
    (min 15 known, if 15 < pl + d.len then some (Exn.decode 4) else none),
    (min 15 known, if allowed then none else some (Exn.decode 1)),
    (min 15 known, if px.all Pfx.payloadOk then none else some Exn.reserved),
    (min 15 (if operand < d.ok.length then pl + d.head + operand + 1 else known),
      if operand < d.ok.length then some Exn.reserved else none),
    (pl + d.len, if k.level < d.minLevel then some { vec := 10, cause := 1 }
      else if k.level = 0 && hasPx px 2 then some { vec := 10, cause := 2 } else none) ]

/-- Checks made in order, `seen` bytes having been fetched: the first failure, or the fetch that a check needs and that
cannot be made; and the bytes fetched by then. -/
def State.runChecks (s : State) (c : Nat) : Nat → List (Nat × Option Exn) → Option Exn × Nat
  | seen, [] => (none, seen)
  | seen, (n, failure) :: rest =>
    match s.fetchCheck c n with
    | some e => (some e, max seen (e.g2.toNat - (s.core c).pc.toNat))
    | none =>
      match failure with
      | some e => (some e, max seen n)
      | none => s.runChecks c (max seen n) rest

/-- What decoding finds (R320, R292): the exception, if any, and how many of the instruction's bytes it fetched. -/
def State.decodeCheck (s : State) (c : Nat) (px : List Pfx) (d : Desc) : Option Exn × Nat :=
  s.runChecks c 0 ((s.core c).checks px d)

/-- One instruction of a core (R404): outstanding work, the pending floating-point trap, a queued event, the checks, and
the effect. A core that does not run issues nothing. -/
def State.instrStep (s : State) (c : Nat) (px : List Pfx) (d : Desc) (body : State → Nat → Eff) : State :=
  if !s.coreRuns c then s else
  let r := s.beforeIssue c d
  if !r.2 then r.1 else
  let s := r.1
  let k := s.core c
  if d.delivers && k.trap.isSome then s.deliverTrap c
  else if k.eventDue && !k.staged then s.takeEvent c
  else
    let pc := k.pc.toNat
    let nxt := pc + pxLen px + d.len
    let r := s.decodeCheck c px d
    match r.1 with
    | some e => (s.touchRead pc r.2).takeEntry c e.vec e.cause e.g2 pc pc
    | none =>
      let s := s.touchRead pc (pxLen px + d.len)
      s.resolve c pc nxt (body s nxt)

/-- An instruction as a command: it names one of the 96 cores. -/
def State.instr (s : State) (c : Nat) (px : List Pfx) (d : Desc) (body : State → Nat → Eff) : Out3 :=
  if c < 96 then .next (s.instrStep c px d body) else .fault .noSuchUnit

/-- An instruction whose effect is on its core's registers alone. -/
def State.regInstr (s : State) (c : Nat) (px : List Pfx) (d : Desc) (f : Core → Core) : Out3 :=
  s.instr c px d (fun s _ => .next (s.modCore c f))

end Sys2Proof.Machine
end

