-- ==== Sys2Proof/Machine/Integer.lean ====
section
/-!
DEFINITION. Integer arithmetic and logic, bit fields, shifts and rotates (R324 to R330).
-/

namespace Sys2Proof.Machine

/-- Format R3 with G registers (R319). -/
def fmtR3 (op : Nat) (d a b : Byte) : Desc := { op := op, len := 4, ok := [okG d, okG a, okG b], fl := true }

/-- Format R2 with G registers. -/
def fmtR2 (op : Nat) (d a : Byte) : Desc := { op := op, len := 3, ok := [okG d, okG a], fl := true }

/-- Format R2I32. -/
def fmtR2I32 (op : Nat) (d a : Byte) : Desc := { op := op, len := 7, ok := [okG d, okG a], fl := true }

/-- Format RRI8. -/
def fmtRRI8 (op : Nat) (d a : Byte) : Desc := { op := op, len := 4, ok := [okG d, okG a], fl := true }

/-- A 32-bit immediate extended to 64 bits (R317). -/
def imm32 (i : BitVec 32) : Nat := (i.signExtend 64).toNat

/-- An 8-bit immediate extended to 64 bits (R317). -/
def imm8 (i : Byte) : Nat := (i.signExtend 64).toNat

/-- A result and FL written: bits above W are 0 (R325). -/
def Core.wgFl (k : Core) (d r : Nat) (fl : W) : Core := { k.wg d (BitVec.ofNat 64 r) with fl := fl }

/-- An addition's effect. -/
def Core.opAdd (k : Core) (w d a b cin : Nat) : Core := k.wgFl d (addRes w a b cin) (addFl w a b cin)

/-- A subtraction's effect. -/
def Core.opSub (k : Core) (w d a b cin : Nat) : Core := k.wgFl d (subRes w a b cin) (subFl w a b cin)

/-- A logical operation's effect. -/
def Core.opLogic (k : Core) (w d r : Nat) : Core := k.wgFl d (r % 2 ^ w) (logicFl k w (r % 2 ^ w))

/-- The value of a G register as a number. -/
def Core.gn (k : Core) (b : Byte) : Nat := (k.rg b.toNat).toNat

/-- A count's effect: the destination, and Z of the operand (R327). -/
def Core.opCount (k : Core) (w d a r : Nat) : Core := (k.wg d (BitVec.ofNat 64 r)).setZ (a % 2 ^ w == 0)

/-- A shift's effect (R329). -/
def Core.opShift (k : Core) (op : ShiftOp) (w d a n : Nat) : Core :=
  let r := shiftRes op w (a % 2 ^ w) n k.fC
  k.wgFl d r.1 (shiftFl k w r.1 r.2)

/-- ADD (R327). -/
def execIAdd (c : Nat) (px : List Pfx) (d a b : Byte) (s : State) : Out3 :=
  s.regInstr c px (fmtR3 0x20 d a b) (fun k => k.opAdd (opWidth (osz px)) d.toNat (k.gn a) (k.gn b) 0)

/-- ADC (R327). -/
def execIAdc (c : Nat) (px : List Pfx) (d a b : Byte) (s : State) : Out3 :=
  s.regInstr c px (fmtR3 0x21 d a b) (fun k => k.opAdd (opWidth (osz px)) d.toNat (k.gn a) (k.gn b) k.fC.toNat)

/-- SUB (R327). -/
def execISub (c : Nat) (px : List Pfx) (d a b : Byte) (s : State) : Out3 :=
  s.regInstr c px (fmtR3 0x22 d a b) (fun k => k.opSub (opWidth (osz px)) d.toNat (k.gn a) (k.gn b) 0)

/-- SBB (R327). -/
def execISbb (c : Nat) (px : List Pfx) (d a b : Byte) (s : State) : Out3 :=
  s.regInstr c px (fmtR3 0x23 d a b) (fun k => k.opSub (opWidth (osz px)) d.toNat (k.gn a) (k.gn b) k.fC.toNat)

/-- AND (R327). -/
def execIAnd (c : Nat) (px : List Pfx) (d a b : Byte) (s : State) : Out3 :=
  s.regInstr c px (fmtR3 0x24 d a b) (fun k => k.opLogic (opWidth (osz px)) d.toNat (k.gn a &&& k.gn b))

/-- OR (R327). -/
def execIOr (c : Nat) (px : List Pfx) (d a b : Byte) (s : State) : Out3 :=
  s.regInstr c px (fmtR3 0x25 d a b) (fun k => k.opLogic (opWidth (osz px)) d.toNat (k.gn a ||| k.gn b))

/-- XOR (R327). -/
def execIXor (c : Nat) (px : List Pfx) (d a b : Byte) (s : State) : Out3 :=
  s.regInstr c px (fmtR3 0x26 d a b) (fun k => k.opLogic (opWidth (osz px)) d.toNat (k.gn a ^^^ k.gn b))

/-- ANDN (R327). -/
def execIAndn (c : Nat) (px : List Pfx) (d a b : Byte) (s : State) : Out3 :=
  s.regInstr c px (fmtR3 0x27 d a b) (fun k => k.opLogic (opWidth (osz px)) d.toNat (k.gn a &&& (~~~(k.rg b.toNat)).toNat))

/-- MOV (R327). -/
def execIMov (c : Nat) (px : List Pfx) (d a : Byte) (s : State) : Out3 :=
  s.regInstr c px { fmtR2 0x28 d a with fl := false } (fun k => k.wg d.toNat (BitVec.ofNat 64 (k.gn a % 2 ^ (opWidth (osz px)))))

/-- NEG (R327). -/
def execINeg (c : Nat) (px : List Pfx) (d a : Byte) (s : State) : Out3 :=
  s.regInstr c px (fmtR2 0x29 d a) (fun k => k.opSub (opWidth (osz px)) d.toNat 0 (k.gn a) 0)

/-- NOT (R327). -/
def execINot (c : Nat) (px : List Pfx) (d a : Byte) (s : State) : Out3 :=
  s.regInstr c px (fmtR2 0x2A d a) (fun k => k.opLogic (opWidth (osz px)) d.toNat (~~~(k.rg a.toNat)).toNat)

/-- CMP (R327). -/
def execICmp (c : Nat) (px : List Pfx) (a b : Byte) (s : State) : Out3 :=
  s.regInstr c px (fmtR2 0x2B a b) (fun k => { k with fl := subFl (opWidth (osz px)) (k.gn a) (k.gn b) 0 })

/-- TST (R327). -/
def execITst (c : Nat) (px : List Pfx) (a b : Byte) (s : State) : Out3 :=
  s.regInstr c px (fmtR2 0x2C a b) (fun k => { k with fl := logicFl k (opWidth (osz px)) ((k.gn a &&& k.gn b) % 2 ^ (opWidth (osz px))) })

/-- MIN (R327). -/
def execIMin (c : Nat) (px : List Pfx) (d a b : Byte) (s : State) : Out3 :=
  s.regInstr c px { fmtR3 0x2D d a b with fl := false } (fun k => k.wg d.toNat (BitVec.ofNat 64 ((if sint (opWidth (osz px)) (k.gn b) < sint (opWidth (osz px)) (k.gn a) then k.gn b else k.gn a) % 2 ^ (opWidth (osz px)))))

/-- MAX (R327). -/
def execIMax (c : Nat) (px : List Pfx) (d a b : Byte) (s : State) : Out3 :=
  s.regInstr c px { fmtR3 0x2E d a b with fl := false } (fun k => k.wg d.toNat (BitVec.ofNat 64 ((if sint (opWidth (osz px)) (k.gn a) < sint (opWidth (osz px)) (k.gn b) then k.gn b else k.gn a) % 2 ^ (opWidth (osz px)))))

/-- ADDI (R327). -/
def execIAddi (c : Nat) (px : List Pfx) (d a : Byte) (imm : BitVec 32) (s : State) : Out3 :=
  s.regInstr c px (fmtR2I32 0x30 d a) (fun k => k.opAdd (opWidth (osz px)) d.toNat (k.gn a) (imm32 imm) 0)

/-- SUBI (R327). -/
def execISubi (c : Nat) (px : List Pfx) (d a : Byte) (imm : BitVec 32) (s : State) : Out3 :=
  s.regInstr c px (fmtR2I32 0x31 d a) (fun k => k.opSub (opWidth (osz px)) d.toNat (k.gn a) (imm32 imm) 0)

/-- ANDI (R327). -/
def execIAndi (c : Nat) (px : List Pfx) (d a : Byte) (imm : BitVec 32) (s : State) : Out3 :=
  s.regInstr c px (fmtR2I32 0x32 d a) (fun k => k.opLogic (opWidth (osz px)) d.toNat (k.gn a &&& imm32 imm))

/-- ORI (R327). -/
def execIOri (c : Nat) (px : List Pfx) (d a : Byte) (imm : BitVec 32) (s : State) : Out3 :=
  s.regInstr c px (fmtR2I32 0x33 d a) (fun k => k.opLogic (opWidth (osz px)) d.toNat (k.gn a ||| imm32 imm))

/-- XORI (R327). -/
def execIXori (c : Nat) (px : List Pfx) (d a : Byte) (imm : BitVec 32) (s : State) : Out3 :=
  s.regInstr c px (fmtR2I32 0x34 d a) (fun k => k.opLogic (opWidth (osz px)) d.toNat (k.gn a ^^^ imm32 imm))

/-- CMPI (R327). -/
def execICmpi (c : Nat) (px : List Pfx) (a : Byte) (imm : BitVec 32) (s : State) : Out3 :=
  s.regInstr c px { op := 0x35, len := 6, ok := [okG a], fl := true }
    (fun k => { k with fl := subFl (opWidth (osz px)) (k.gn a) (imm32 imm) 0 })

/-- TSTI (R327). -/
def execITsti (c : Nat) (px : List Pfx) (a : Byte) (imm : BitVec 32) (s : State) : Out3 :=
  s.regInstr c px { op := 0x36, len := 6, ok := [okG a], fl := true }
    (fun k => { k with fl := logicFl k (opWidth (osz px)) ((k.gn a &&& imm32 imm) % 2 ^ (opWidth (osz px))) })

/-- MOVI (R327). -/
def execIMovi (c : Nat) (px : List Pfx) (d : Byte) (imm : BitVec 32) (s : State) : Out3 :=
  s.regInstr c px { op := 0x37, len := 6, ok := [okG d] } (fun k => k.wg d.toNat (imm.signExtend 64))

/-- MOVI.64 (R327). -/
def execIMovi64 (c : Nat) (px : List Pfx) (d : Byte) (imm : W) (s : State) : Out3 :=
  s.regInstr c px { op := 0x38, len := 10, ok := [okG d] } (fun k => k.wg d.toNat imm)

/-- CMPI.8 (R327). -/
def execICmpi8 (c : Nat) (px : List Pfx) (a imm : Byte) (s : State) : Out3 :=
  s.regInstr c px { op := 0x39, len := 3, ok := [okG a], fl := true }
    (fun k => { k with fl := subFl 64 (k.gn a) (imm8 imm) 0 })

/-- Bit fields p and l are legal (R328). -/
def fieldLegal (w p l : Nat) : Bool := decide (1 ≤ l) && decide (p + l ≤ w)

/-- EXT (R327, R328). -/
def execIExt (c : Nat) (px : List Pfx) (d a p l : Byte) (s : State) : Out3 :=
  s.instr c px { op := 0x4A, len := 5, ok := [okG d, okG a], fl := true } (fun s _ =>
    if fieldLegal (opWidth (osz px)) p.toNat l.toNat then
      .next (s.modCore c (fun k => k.opLogic (opWidth (osz px)) d.toNat (nbits (k.gn a) p.toNat l.toNat)))
    else .exc Exn.reserved)

/-- Bits [p + l - 1:p] of `x` replaced by the low bits of `y`. -/
def insRes (x y p l : Nat) : Nat := x - (nbits x p l) * 2 ^ p + (y % 2 ^ l) * 2 ^ p

/-- INS (R327, R328). -/
def execIIns (c : Nat) (px : List Pfx) (d a p l : Byte) (s : State) : Out3 :=
  s.instr c px { op := 0x4B, len := 5, ok := [okG d, okG a], fl := true } (fun s _ =>
    if fieldLegal (opWidth (osz px)) p.toNat l.toNat then
      .next (s.modCore c (fun k =>
        k.opLogic (opWidth (osz px)) d.toNat (insRes (k.gn d % 2 ^ (opWidth (osz px))) (k.gn a) p.toNat l.toNat)))
    else .exc Exn.reserved)

/-- BSWAP (R327). -/
def execIBswap (c : Nat) (px : List Pfx) (d a : Byte) (s : State) : Out3 :=
  s.regInstr c px { fmtR2 0x4C d a with fl := false } (fun k => k.wg d.toNat (BitVec.ofNat 64 (bswapRes (opWidth (osz px)) (k.gn a))))

/-- CLZ (R327). -/
def execIClz (c : Nat) (px : List Pfx) (d a : Byte) (s : State) : Out3 :=
  s.regInstr c px (fmtR2 0x4D d a) (fun k => k.opCount (opWidth (osz px)) d.toNat (k.gn a) (clzRes (opWidth (osz px)) (k.gn a)))

/-- CTZ (R327). -/
def execICtz (c : Nat) (px : List Pfx) (d a : Byte) (s : State) : Out3 :=
  s.regInstr c px (fmtR2 0x4E d a) (fun k => k.opCount (opWidth (osz px)) d.toNat (k.gn a) (ctzRes (opWidth (osz px)) (k.gn a)))

/-- POPC (R327). -/
def execIPopc (c : Nat) (px : List Pfx) (d a : Byte) (s : State) : Out3 :=
  s.regInstr c px (fmtR2 0x4F d a) (fun k => k.opCount (opWidth (osz px)) d.toNat (k.gn a) (popcRes (opWidth (osz px)) (k.gn a)))

/-- SHL (R329). -/
def execIShl (c : Nat) (px : List Pfx) (d a b : Byte) (s : State) : Out3 :=
  s.regInstr c px (fmtR3 0x40 d a b) (fun k => k.opShift .shl (opWidth (osz px)) d.toNat (k.gn a) (k.gn b))

/-- SHR (R329). -/
def execIShr (c : Nat) (px : List Pfx) (d a b : Byte) (s : State) : Out3 :=
  s.regInstr c px (fmtR3 0x41 d a b) (fun k => k.opShift .shr (opWidth (osz px)) d.toNat (k.gn a) (k.gn b))

/-- SAR (R329). -/
def execISar (c : Nat) (px : List Pfx) (d a b : Byte) (s : State) : Out3 :=
  s.regInstr c px (fmtR3 0x42 d a b) (fun k => k.opShift .sar (opWidth (osz px)) d.toNat (k.gn a) (k.gn b))

/-- ROL (R329). -/
def execIRol (c : Nat) (px : List Pfx) (d a b : Byte) (s : State) : Out3 :=
  s.regInstr c px (fmtR3 0x43 d a b) (fun k => k.opShift .rol (opWidth (osz px)) d.toNat (k.gn a) (k.gn b))

/-- ROR (R329). -/
def execIRor (c : Nat) (px : List Pfx) (d a b : Byte) (s : State) : Out3 :=
  s.regInstr c px (fmtR3 0x44 d a b) (fun k => k.opShift .ror (opWidth (osz px)) d.toNat (k.gn a) (k.gn b))

/-- SHLI (R329). -/
def execIShli (c : Nat) (px : List Pfx) (d a imm : Byte) (s : State) : Out3 :=
  s.regInstr c px (fmtRRI8 0x45 d a) (fun k => k.opShift .shl (opWidth (osz px)) d.toNat (k.gn a) imm.toNat)

/-- SHRI (R329). -/
def execIShri (c : Nat) (px : List Pfx) (d a imm : Byte) (s : State) : Out3 :=
  s.regInstr c px (fmtRRI8 0x46 d a) (fun k => k.opShift .shr (opWidth (osz px)) d.toNat (k.gn a) imm.toNat)

/-- SARI (R329). -/
def execISari (c : Nat) (px : List Pfx) (d a imm : Byte) (s : State) : Out3 :=
  s.regInstr c px (fmtRRI8 0x47 d a) (fun k => k.opShift .sar (opWidth (osz px)) d.toNat (k.gn a) imm.toNat)

/-- ROLI (R329). -/
def execIRoli (c : Nat) (px : List Pfx) (d a imm : Byte) (s : State) : Out3 :=
  s.regInstr c px (fmtRRI8 0x48 d a) (fun k => k.opShift .rol (opWidth (osz px)) d.toNat (k.gn a) imm.toNat)

/-- RORI (R329). -/
def execIRori (c : Nat) (px : List Pfx) (d a imm : Byte) (s : State) : Out3 :=
  s.regInstr c px (fmtRRI8 0x49 d a) (fun k => k.opShift .ror (opWidth (osz px)) d.toNat (k.gn a) imm.toNat)

/-- NOP (R327). -/
def execINop (c : Nat) (px : List Pfx) (s : State) : Out3 :=
  s.regInstr c px { op := 0x01, len := 1 } (fun k => k)

/-- Bytes of an undefined opcode that decoding reads (R320, R323): two where the opcode byte at PC is the escape 0xFC, whose
function byte is the reserved one. -/
def State.illLen (s : State) (c : Nat) (px : List Pfx) : Nat :=
  if s.readBytes c ((s.core c).pc.toNat + pxLen px) 1 = [0xFC] then 2 else 1

/-- ILL (R322, R323, R327): vector 1 with cause UNDEFINED, which every reserved byte of the two grids raises alike. -/
def execIIll (c : Nat) (px : List Pfx) (s : State) : Out3 :=
  let n := s.illLen c px
  s.instr c px { op := 0x00, len := n, head := n, undef := some 2 } (fun _ _ => .exc { vec := 1, cause := 2 })

end Sys2Proof.Machine
end

