-- ==== Sys2Proof/Machine/Control.lean ====
section
/-!
DEFINITION. Branches and calls (R331, R332) and hardware loops (R333 to R335).
-/

namespace Sys2Proof.Machine

/-- A relative target (R317, R332): modulo 2^64. -/
def relTarget (nxt : Nat) (w : Nat) (rel : Nat) : W := BitVec.ofNat 64 nxt + BitVec.ofInt 64 (sint w rel)

/-- BR.8 (R332). -/
def execIBr8 (c : Nat) (px : List Pfx) (rel : Byte) (s : State) : Out3 :=
  s.instr c px { op := 0x02, len := 2 } (fun s nxt => .branch s (relTarget nxt 8 rel.toNat))

/-- BR.32 (R332). -/
def execIBr32 (c : Nat) (px : List Pfx) (rel : BitVec 32) (s : State) : Out3 :=
  s.instr c px { op := 0x03, len := 5 } (fun s nxt => .branch s (relTarget nxt 32 rel.toNat))

/-- BCC.8 (R331, R332). -/
def execIBcc8 (c : Nat) (px : List Pfx) (cc rel : Byte) (s : State) : Out3 :=
  s.instr c px { op := 0x04, len := 3, ok := [decide (cc.toNat < 16)], fl := true } (fun s nxt =>
    if condHolds (s.core c) cc.toNat then .branch s (relTarget nxt 8 rel.toNat) else .next s)

/-- BCC.32 (R331, R332). -/
def execIBcc32 (c : Nat) (px : List Pfx) (cc : Byte) (rel : BitVec 32) (s : State) : Out3 :=
  s.instr c px { op := 0x05, len := 6, ok := [decide (cc.toNat < 16)], fl := true } (fun s nxt =>
    if condHolds (s.core c) cc.toNat then .branch s (relTarget nxt 32 rel.toNat) else .next s)

/-- CALL (R332). -/
def execICall (c : Nat) (px : List Pfx) (d : Byte) (rel : BitVec 32) (s : State) : Out3 :=
  s.instr c px { op := 0x06, len := 6, ok := [okG d] } (fun s nxt =>
    .branch (s.modCore c (fun k => k.wg d.toNat (BitVec.ofNat 64 nxt))) (relTarget nxt 32 rel.toNat))

/-- JMP (R332). -/
def execIJmp (c : Nat) (px : List Pfx) (a : Byte) (s : State) : Out3 :=
  s.instr c px { op := 0x07, len := 2, ok := [okG a] } (fun s _ => .branch s ((s.core c).rg a.toNat))

/-- CALLR (R332): the old value of the register is the target. -/
def execICallr (c : Nat) (px : List Pfx) (d a : Byte) (s : State) : Out3 :=
  s.instr c px { op := 0x08, len := 3, ok := [okG d, okG a] } (fun s nxt =>
    .branch (s.modCore c (fun k => k.wg d.toNat (BitVec.ofNat 64 nxt))) ((s.core c).rg a.toNat))

/-- The level a new loop takes: one above the highest active (R333). -/
def Core.nextLoop (k : Core) : Nat :=
  match k.topLoop with
  | none => 0
  | some i => i + 1

/-- The start of a hardware loop (R333). -/
def loopStart (c : Nat) (count : Nat) (rel : BitVec 16) (s : State) (nxt : Nat) : Eff :=
  if rel.toNat = 0 ∨ 32767 < rel.toNat then .exc Exn.reserved
  else if count = 0 then .branch s (BitVec.ofNat 64 (nxt + rel.toNat))
  else
    let l := (s.core c).nextLoop
    if l = 4 then .exc Exn.reserved
    else .next (s.modCore c (fun k => k.wl l
      { ls := BitVec.ofNat 64 nxt, le := BitVec.ofNat 64 (nxt + rel.toNat), lc := BitVec.ofNat 32 count, lf := 1 }))

/-- LOOP (R333): the count is G[a][31:0]. -/
def execILoop (c : Nat) (px : List Pfx) (a : Byte) (rel : BitVec 16) (s : State) : Out3 :=
  s.instr c px { op := 0x09, len := 4, ok := [okG a] } (fun s nxt =>
    loopStart c ((s.core c).gn a % 2 ^ 32) rel s nxt)

/-- LOOPI (R333). -/
def execILoopi (c : Nat) (px : List Pfx) (imm : BitVec 32) (rel : BitVec 16) (s : State) : Out3 :=
  s.instr c px { op := 0x0A, len := 7 } (fun s nxt => loopStart c imm.toNat rel s nxt)

/-- The innermost active level ends (R335). -/
def Core.leave (k : Core) : Core :=
  match k.topLoop with
  | none => k
  | some i => k.wl i { k.lvl i with lc := 0, lf := 0 }

/-- LEAVE (R335). -/
def execILeave (c : Nat) (px : List Pfx) (s : State) : Out3 :=
  s.regInstr c px { op := 0x0B, len := 1 } Core.leave

end Sys2Proof.Machine
end

