-- ==== Sys2Proof/Machine/BitInstr.lean ====
section
/-!
DEFINITION. Bit space (R301, R302) and the bit-space instructions (R337, R338).
-/

namespace Sys2Proof.Machine

/-- Where a bit address lies (R301): a byte of the flag plane, by offset of the core-local alias, or of memory. -/
inductive BitPlace where
  | flag (off bit : Nat)
  | mem (a bit : Nat)
  deriving DecidableEq, Repr

/-- The byte that a bit address below 2^32 maps to; vector 11 for a memory byte at or above 2^48 (R301, R393). -/
def bitPlace (k : Core) (x : Nat) : Except Exn BitPlace :=
  if x < 65536 then .ok (.flag (0x20000 + x / 8) (x % 8))
  else
    let a := nbits k.baseb.toNat 0 48 + (x - 65536) / 8
    if 2 ^ 48 ≤ a then .error { vec := 11, cause := 2, g2 := BitVec.ofNat 64 x } else .ok (.mem a (x % 8))

/-- The byte of a bit operand and its checks: range (R301), then the byte access of R299. -/
def State.bitOperand (s : State) (c : Nat) (px : List Pfx) (v : W) (write : Bool) : Except Exn BitPlace :=
  let k := s.core c
  if 2 ^ 32 ≤ v.toNat then .error { vec := 11, cause := 1, g2 := v }
  else match bitPlace k v.toNat with
  | .error e => .error e
  | .ok (.flag o b) => .ok (.flag o b)
  | .ok (.mem a b) =>
    match s.checkAccess (whoOf c k px) (BitVec.ofNat 64 a) 1 (if write then .write else .read) with
    | some e => .error e
    | none => .ok (.mem a b)

/-- The value of a bit. -/
def State.readBit (s : State) (c : Nat) : BitPlace → Bool
  | .flag o b => (Memory.read (s.core c).loc o).getLsbD b
  | .mem a b => (s.readByte c a).getLsbD b

/-- A byte with one bit set to a value. -/
def byteWith (x : Byte) (b : Nat) (v : Bool) : Byte :=
  if v then x ||| BitVec.ofNat 8 (2 ^ b) else x &&& ~~~(BitVec.ofNat 8 (2 ^ b))

/-- A bit written. -/
def State.writeBit (s : State) (c : Nat) (p : BitPlace) (v : Bool) : State :=
  match p with
  | .flag o b => s.modCore c (fun k => { k with loc := Memory.write k.loc o (byteWith (Memory.read k.loc o) b v) })
  | .mem a b => s.storeBytes c a [byteWith (s.readByte c a) b v]

/-- What a performed read of a bit leaves (R297). -/
def State.afterBit (s : State) : BitPlace → State
  | .flag _ _ => s
  | .mem a _ => s.afterRead a 1

/-- The decoding of a bit instruction with one operand register. -/
def fmtBit (op : Nat) (a : Byte) : Desc := { op := op, len := 2, ok := [okG a], fl := true }

/-- A bit instruction that writes the bit: C and Z from the old value (R337). -/
def bitModify (c : Nat) (px : List Pfx) (a : Byte) (f : Bool → Bool) (s : State) (_nxt : Nat) : Eff :=
  match s.bitOperand c px ((s.core c).rg a.toNat) true with
  | .error e => .exc e
  | .ok p =>
    let b := s.readBit c p
    .next ((s.writeBit c p (f b)).modCore c (fun k => k.setCZ b (!b)))

/-- BSET (R337). -/
def execIBset (c : Nat) (px : List Pfx) (a : Byte) (s : State) : Out3 :=
  s.instr c px (fmtBit 0x60 a) (bitModify c px a (fun _ => true))

/-- BCLR (R337). -/
def execIBclr (c : Nat) (px : List Pfx) (a : Byte) (s : State) : Out3 :=
  s.instr c px (fmtBit 0x61 a) (bitModify c px a (fun _ => false))

/-- BINV (R337). -/
def execIBinv (c : Nat) (px : List Pfx) (a : Byte) (s : State) : Out3 :=
  s.instr c px (fmtBit 0x62 a) (bitModify c px a (fun b => !b))

/-- BTST (R337). -/
def execIBtst (c : Nat) (px : List Pfx) (a : Byte) (s : State) : Out3 :=
  s.instr c px (fmtBit 0x63 a) (fun s _ =>
    match s.bitOperand c px ((s.core c).rg a.toNat) false with
    | .error e => .exc e
    | .ok p => .next ((s.afterBit p).modCore c (fun k => k.setCZ (s.readBit c p) (!(s.readBit c p)))))

/-- A branch on a bit (R337). -/
def bitBranch (c : Nat) (px : List Pfx) (a : Byte) (rel : BitVec 16) (want : Bool) (s : State) (nxt : Nat) : Eff :=
  match s.bitOperand c px ((s.core c).rg a.toNat) false with
  | .error e => .exc e
  | .ok p =>
    if s.readBit c p = want then .branch (s.afterBit p) (relTarget nxt 16 rel.toNat) else .next (s.afterBit p)

/-- BBS (R337). -/
def execIBbs (c : Nat) (px : List Pfx) (a : Byte) (rel : BitVec 16) (s : State) : Out3 :=
  s.instr c px { op := 0x64, len := 4, ok := [okG a] } (bitBranch c px a rel true)

/-- BBC (R337). -/
def execIBbc (c : Nat) (px : List Pfx) (a : Byte) (rel : BitVec 16) (s : State) : Out3 :=
  s.instr c px { op := 0x65, len := 4, ok := [okG a] } (bitBranch c px a rel false)

/-- BTOC (R337). -/
def execIBtoc (c : Nat) (px : List Pfx) (a : Byte) (s : State) : Out3 :=
  s.instr c px (fmtBit 0x66 a) (fun s _ =>
    match s.bitOperand c px ((s.core c).rg a.toNat) false with
    | .error e => .exc e
    | .ok p => .next ((s.afterBit p).modCore c (fun k => k.setC (s.readBit c p))))

/-- BFROMC (R337). -/
def execIBfromc (c : Nat) (px : List Pfx) (a : Byte) (s : State) : Out3 :=
  s.instr c px (fmtBit 0x67 a) (fun s _ =>
    match s.bitOperand c px ((s.core c).rg a.toNat) true with
    | .error e => .exc e
    | .ok p => .next (s.writeBit c p (s.core c).fC))

/-- The field position of a bit address, and back (R338). -/
def fieldPos (x : Nat) : Nat := x - x % 8 + 7 - x % 8

/-- The first byte of a range of bytes that cannot be read (R338). -/
def State.bffsCheck (s : State) (c : Nat) (px : List Pfx) (v : W) (start n : Nat) : Option Exn :=
  let k := s.core c
  if n = 0 then none
  else if 2 ^ 32 ≤ start + n - 1 then some { vec := 11, cause := 1, g2 := v }
  else
    let lo := start / 8
    let hi := (start + n - 1) / 8
    if lo < 8192 ∧ 8192 ≤ hi then some { vec := 11, cause := 3, g2 := v }
    else if hi < 8192 then none
    else
      let base := nbits k.baseb.toNat 0 48
      if 2 ^ 48 ≤ base + (hi - 8192) then some { vec := 11, cause := 2, g2 := v }
      else s.checkBytes (whoOf c k px) (base + (lo - 8192)) (hi - lo + 1) false

/-- BFFS (R338). -/
def execIBffs (c : Nat) (px : List Pfx) (d a b : Byte) (s : State) : Out3 :=
  s.instr c px (fmtR3 0x68 d a b) (fun s _ =>
    let k := s.core c
    let v := k.rg a.toNat
    let n := k.gn b
    if 2 ^ 32 ≤ v.toNat then .exc { vec := 11, cause := 1, g2 := v }
    else if 4096 < n then .exc { vec := 11, cause := 4, g2 := v }
    else
      let start := fieldPos v.toNat
      match s.bffsCheck c px v start n with
      | some e => .exc e
      | none =>
        let hit := (List.range n).find? (fun i =>
          match bitPlace k (fieldPos (start + i)) with
          | .error _ => false
          | .ok p => s.readBit c p)
        let s := if n = 0 ∨ start / 8 < 8192 then s
          else s.touchRead (nbits k.baseb.toNat 0 48 + (start / 8 - 8192)) ((start + n - 1) / 8 - start / 8 + 1)
        .next (s.modCore c (fun k => (k.wg d.toNat (BitVec.ofNat 64 (hit.getD n))).setZ hit.isNone)))

end Sys2Proof.Machine
end

