-- ==== Sys2Proof/Machine/System.lean ====
section
/-!
DEFINITION. System registers (R286 to R289), storage keys (R298), FENCE, ISYNC, FBAR, RETT and TRAP.
-/

namespace Sys2Proof.Machine

/-- The decoding of an instruction on the 0xFC page: no prefix is allowed (R316). -/
def fmtFC (len : Nat) (ok : List Bool) (minLevel : Nat) (px : List Pfx) : Desc :=
  { op := 0xFC, len := len, head := 2, ok := ok, pxOk := some px.isEmpty, minLevel := minLevel }

/-- A system-register number that R286 assigns. -/
def sysNamed (n : Nat) : Bool :=
  decide (n ≤ 0xD) || (decide (0x10 ≤ n) && decide (n ≤ 0x1F)) || (decide (0x20 ≤ n) && decide (n ≤ 0x3F) && decide (n % 8 ≤ 4))

/-- A register with an RW field (R286, R289). -/
def sysWritable (n : Nat) : Bool := sysNamed n && !(n == 4 || n == 6 || n == 0xB || n == 0xC || n == 0xD)

/-- COREID (R289). -/
def coreId (c : Nat) (k : Core) : W :=
  BitVec.ofNat 64 (c + (c / 24) * 2 ^ 8 + (k.position.getD (c % 24)) * 2 ^ 16)

/-- Core cycles that have passed since CYCLES was last read, beyond one for each instruction: a free number, small enough that
the count does not run round (R286, log 10). -/
def cyclesMore (fv : W) : Nat := fv.toNat % 2 ^ 56

/-- Core cycles since the core's last reset: at least one for each instruction retired (R282, R286). -/
def Core.cycles (k : Core) : Nat := k.retired - k.cycFrom + k.cycMore

/-- A system register's value; what CYCLES has gained and the lag of LTIME are free (log 4, log 10). -/
def sysRead (c now : Nat) (fv : W) (k : Core) (n : Nat) : W :=
  match n with
  | 0x0 => k.fl
  | 0x1 => k.fcsr.setWidth 64
  | 0x2 => k.mlo
  | 0x3 => k.mhi
  | 0x4 => k.mst
  | 0x5 => k.ssr
  | 0x6 => k.fpia
  | 0x7 => k.baseb
  | 0x8 => k.mode
  | 0x9 => k.tsbp
  | 0xA => k.vtb
  | 0xB => coreId c k
  | 0xC => BitVec.ofNat 64 (k.cycles + cyclesMore fv)
  | 0xD => BitVec.ofNat 64 (ltimeOf now k.lastLt fv.toNat)
  | _ =>
    if n < 0x20 then
      let l := k.lvl ((n - 0x10) / 4)
      match n % 4 with
      | 0 => l.ls
      | 1 => l.le
      | 2 => l.lc.setWidth 64
      | _ => l.lf.setWidth 64
    else
      let u := k.au ((n - 0x20) / 8)
      match n % 8 with
      | 0 => u.base
      | 1 => u.length
      | 2 => u.index
      | 3 => u.step.setWidth 64
      | _ => u.mode.setWidth 64

/-- The reserved bits of a system register as MTSR checks them (R288, R289). No field of LS and LE is called reserved. -/
def sysReserved (n : Nat) : W :=
  match n with
  | 0x0 => 0xFFFFFFFFFFFFFFE0
  | 0x1 => 0xFFFFFFFFFFF8E0E0
  | 0x5 => 0x00000000000000FE
  | 0x7 => 0xFFFF000000000000
  | 0x8 => modeReserved
  | 0x9 => 0xFFFF0000000003FF
  | 0xA => 0xFFFF0000000001FF
  | _ =>
    if 0x10 ≤ n ∧ n < 0x20 then
      match n % 4 with
      | 0 => 0
      | 1 => 0
      | 2 => 0xFFFFFFFF00000000
      | _ => 0xFFFFFFFFFFFFFFFE
    else 0

/-- A system register written, its value checked before. -/
def sysWrite (k : Core) (n : Nat) (v : W) : Core :=
  match n with
  | 0x0 => { k with fl := v }
  | 0x1 => { k with fcsr := v.setWidth 32 }
  | 0x2 => { k with mlo := v }
  | 0x3 => { k with mhi := v }
  | 0x5 => { k with ssr := v }
  | 0x7 => { k with baseb := v }
  | 0x8 => { k with mode := (v &&& ~~~modeDirty) ||| (k.mode &&& modeDirty) }
  | 0x9 => { k with tsbp := v, mode := k.mode ||| modeDirty }
  | 0xA => { k with vtb := v }
  | _ =>
    if n < 0x20 then
      let i := (n - 0x10) / 4
      let l := k.lvl i
      match n % 4 with
      | 0 => k.wl i { l with ls := v }
      | 1 => k.wl i { l with le := v }
      | 2 => k.wl i { l with lc := v.setWidth 32 }
      | _ => k.wl i { l with lf := v.setWidth 32 }
    else
      let i := (n - 0x20) / 8
      let u := k.au i
      match n % 8 with
      | 0 => k.wau i { u with base := v }
      | 1 => k.wau i { u with length := v }
      | 2 => k.wau i { u with index := v }
      | 3 => k.wau i { u with step := v.setWidth 32 }
      | _ => k.wau i { u with mode := v.setWidth 32 }

/-- The decoding of MFSR and MTSR of a register: FCSR and FPIA are delivery points (R351); MLO and MHI wait for MBUSY. -/
def fmtSys (ok : List Bool) (n : Nat) (px : List Pfx) : Desc :=
  { fmtFC 4 ok 0 px with delivers := n == 1 || n == 6, ml := n == 2 || n == 3, fl := n == 0 }

/-- MFSR (R288). -/
def execIMfsr (c : Nat) (px : List Pfx) (d n : Byte) (s : State) : Out3 :=
  s.instr c px (fmtSys [okG d, sysNamed n.toNat] n.toNat px) (fun s _ =>
    let k := s.core c
    if (n.toNat = 9 ∨ n.toNat = 0xA) ∧ k.level = 0 then .exc { vec := 10, cause := 3 }
    else
      let fv := s.freeVal
      let v := sysRead c s.time.ns fv k n.toNat
      let s := if n.toNat = 0xC ∨ n.toNat = 0xD then s.nextFree else s
      .next (s.modCore c (fun k =>
        { k.wg d.toNat v with
          lastLt := if n.toNat = 0xD then v.toNat else k.lastLt
          cycMore := if n.toNat = 0xC then k.cycMore + cyclesMore fv else k.cycMore })))

/-- MTSR (R288, R292). -/
def execIMtsr (c : Nat) (px : List Pfx) (a n : Byte) (s : State) : Out3 :=
  s.instr c px (fmtSys [okG a, sysWritable n.toNat] n.toNat px) (fun s _ =>
    let k := s.core c
    let v := k.rg a.toNat
    let need := if n.toNat = 8 ∨ n.toNat = 9 then 1 else if n.toNat = 0xA then 2 else 0
    if k.level < need then .exc { vec := 10, cause := 3 }
    else if v &&& sysReserved n.toNat ≠ 0 ∨ (n.toNat = 8 ∧ nbits v.toNat 0 2 = 3) then .exc Exn.reserved
    else if n.toNat = 8 ∧ k.level < 2 ∧ nbits v.toNat 0 2 = 2 then .exc { vec := 10, cause := 6 }
    else
      let s := s.modCore c (fun k => sysWrite k n.toNat v)
      .next (if n.toNat = 8 then s.evalEvc (benchOf c) else s))

/-- KSET (R298). -/
def execIKset (c : Nat) (px : List Pfx) (a b : Byte) (s : State) : Out3 :=
  s.instr c px (fmtFC 4 [okG a, okG b] 1 px) (fun s _ =>
    let k := s.core c
    let addr := k.rg a.toNat
    let v := (k.rg b.toNat).toNat
    if k.rg b.toNat &&& 0xFFFFFFFFF0FCFEF0 ≠ 0 then .exc Exn.reserved
    else if 2 ^ 48 ≤ addr.toNat then .exc { vec := 3, cause := 2, g2 := addr }
    else match regionOf addr.toNat with
    | .ext | .pool | .fw =>
      if regionOf addr.toNat = .fw ∧ k.level < 2 then .exc { vec := 4, cause := 5, g2 := addr }
      else
        let f := addr.toNat / 4096
        let w := s.frameWord f
        let w' : FrameWord :=
          { key := if nbit v 24 then BitVec.ofNat 4 v else w.key
            guard_ := if nbit v 25 then nbit v 8 else w.guard_
            accessed := if nbit v 26 then nbit v 16 else w.accessed
            written := if nbit v 27 then nbit v 17 else w.written }
        .next (if nbits v 24 4 = 0 then s else s.setFrame f w')
    | _ => .exc { vec := 3, cause := 1, g2 := addr })

/-- The frame value KGET returns (R298). -/
def FrameWord.value (w : FrameWord) : W :=
  BitVec.ofNat 64 (w.key.toNat + (if w.guard_ then 2 ^ 8 else 0) + (if w.accessed then 2 ^ 16 else 0) +
    (if w.written then 2 ^ 17 else 0))

/-- KGET (R298). -/
def execIKget (c : Nat) (px : List Pfx) (d a : Byte) (s : State) : Out3 :=
  s.instr c px (fmtFC 4 [okG d, okG a] 1 px) (fun s _ =>
    let addr := (s.core c).rg a.toNat
    if 2 ^ 48 ≤ addr.toNat then .exc { vec := 3, cause := 2, g2 := addr }
    else match regionOf addr.toNat with
    | .ext | .pool | .fw => .next (s.modCore c (fun k => k.wg d.toNat (s.frameWord (addr.toNat / 4096)).value))
    | _ => .exc { vec := 3, cause := 1, g2 := addr })

/-- ISYNC (R314): commands act on one state, so every store is already visible. -/
def execIIsync (c : Nat) (px : List Pfx) (s : State) : Out3 :=
  s.regInstr c px (fmtFC 2 [] 0 px) (fun k => k)

/-- FENCE (R310): the type byte is checked; every access is already performed for every agent. -/
def execIFence (c : Nat) (px : List Pfx) (ty : Byte) (s : State) : Out3 :=
  s.regInstr c px (fmtFC 3 [decide (ty.toNat ≤ 4)] 0 px) (fun k => k)

/-- FBAR (R352). -/
def execIFbar (c : Nat) (px : List Pfx) (s : State) : Out3 :=
  s.regInstr c px { fmtFC 2 [] 0 px with delivers := true } (fun k => k)

/-- The decoding of RETT: a delivery point that writes MLO, MHI and FL, so that what is outstanding completes first
(R341, R351, R402). -/
def fmtRett (px : List Pfx) : Desc := { fmtFC 2 [] 1 px with delivers := true, ml := true, fl := true }

/-- RETT (R401 to R403). -/
def execIRett (c : Nat) (px : List Pfx) (s : State) : Out3 :=
  s.instr c px (fmtRett px) (fun s _ => s.rett c)

/-- The entry of an instruction that saves the next instruction's PC (TRAP, YIELD): the instruction completes, its
hardware-loop end check included, and the entry is made. A trap pending from outstanding floating-point work replaces
it, and the instruction is then not executed (R351). -/
def State.enterAfter (s : State) (c vec cause nxt : Nat) : State :=
  let start := (s.core c).pc.toNat
  let t := s.modCore c Core.completeAll
  if (t.core c).trap.isSome then t.takeEntry c vec cause 0 start start
  else
    let t := t.modCore c (fun k => Core.endCheck 5 start nxt k)
    t.takeEntry c vec cause 0 (t.core c).pc.toNat start

/-- TRAP (R393). -/
def execITrap (c : Nat) (px : List Pfx) (n : Byte) (s : State) : Out3 :=
  s.instr c px (fmtFC 3 [decide (n.toNat ≤ 15)] 0 px) (fun s nxt => .placed (s.enterAfter c (16 + n.toNat) 0 nxt))

/-- EVENT_ENTRY (R404): at an instruction boundary a queued record above the core's level enters vector 32. -/
def execEventEntry (core : Nat) (s : State) : Out3 :=
  if core < 96 then .next (if s.coreRuns core then s.boundary core else s) else .fault .noSuchUnit

end Sys2Proof.Machine
end

