-- ==== Sys2Proof/Machine/Microcode.lean ====
section
/-!
DEFINITION. Customer microcode (R426 to R452): the microword's fields, what one word does, commits, waits and the watchdog,
and the customer opcodes.
-/

namespace Sys2Proof.Machine

/-! ### The microword (R429) -/

/-- A field of a microword. -/
def uf (w : BitVec 144) (lo len : Nat) : Nat := nbits w.toNat lo len
/-- Core cycles of a word, waits apart. -/
def uLen (w : BitVec 144) : Nat := uf w 0 2 + 1
/-- SEQ. -/
def uSeq (w : BitVec 144) : Nat := uf w 2 3
/-- TARGET. -/
def uTarget (w : BitVec 144) : Nat := uf w 5 15
/-- COND. -/
def uCond (w : BitVec 144) : Nat := uf w 20 6
/-- ASRC. -/
def uA (w : BitVec 144) : Nat := uf w 28 6
/-- BSRC. -/
def uB (w : BitVec 144) : Nat := uf w 34 6
/-- ALU. -/
def uAlu (w : BitVec 144) : Nat := uf w 40 5
/-- DEST. -/
def uDest (w : BitVec 144) : Nat := uf w 45 6
/-- MEM. -/
def uMem (w : BitVec 144) : Nat := uf w 52 4
/-- MSIZE. -/
def uSize (w : BitVec 144) : Nat := uf w 56 3
/-- MADDR. -/
def uMaddr (w : BitVec 144) : Nat := uf w 59 2
/-- WAIT. -/
def uWait (w : BitVec 144) : Nat := uf w 65 4
/-- WTIME. -/
def uWtime (w : BitVec 144) : Nat := uf w 69 12
/-- UCNT. -/
def uCnt (w : BitVec 144) : Nat := uf w 81 4
/-- CONST, sign-extended. -/
def uConst (w : BitVec 144) : W := BitVec.ofInt 64 (sint 32 (uf w 85 32))

/-- The first word of the customer region (R426). -/
def customerBase : Nat := 24576

/-- The word of the control store at an address. The manual does not give a word that the image does not load: it is free
(log 14). -/
def State.uWord (s : State) (a : Nat) : BitVec 144 :=
  if a < customerBase then Config.storeWord a else s.ucode.words.getD (a - customerBase) (Config.storeWord a)

/-! ### What the instruction gives its routine -/

/-- The customer instruction that runs: its core, prefixes, binding, image tag, operand registers, immediate, the address
of the next instruction and the access rights. -/
structure UInst where
  c : Nat
  px : List Pfx
  b : UBind
  tag : Nat
  ops : List Byte
  imm : W
  next : Nat
  deriving DecidableEq, Repr

/-- Register operand bytes of a layout (R451). -/
def custRegs (format : Nat) (o : CustOps) : List Byte :=
  match format with
  | 0x00 => []
  | 0x01 => [o.r0]
  | 0x02 => [o.r0, o.r1]
  | 0x03 => [o.r0, o.r1, o.r2]
  | 0x04 => [o.r0, o.r1, o.r2, o.r3]
  | 0x05 => [o.r0, o.r1]
  | 0x06 => [o.r0, o.r1]
  | 0x07 => [o.r0, o.r1]
  | 0x08 => [o.r0]
  | 0x09 => [o.r0]
  | 0x0A => [o.m.data]
  | _ => [o.r0, o.m.data]

/-- The layout has a memory specifier. -/
def custMem (format : Nat) : Bool := format == 0x0A || format == 0x0B

/-- The immediate of a layout (R433). -/
def custImm (format : Nat) (o : CustOps) : W :=
  match format with
  | 0x05 => BitVec.ofInt 64 (sint 8 o.imm8a.toNat)
  | 0x06 => BitVec.ofNat 64 (o.imm8a.toNat + 256 * o.imm8b.toNat)
  | 0x07 => BitVec.ofInt 64 (sint 32 o.imm32.toNat)
  | 0x08 => BitVec.ofInt 64 (sint 8 o.imm8a.toNat)
  | 0x09 => BitVec.ofInt 64 (sint 32 o.imm32.toNat)
  | _ => 0

/-- Bytes of a customer instruction after its prefixes (R319, R451). -/
def custLen (format : Nat) (o : CustOps) : Nat :=
  2 + match format with
    | 0x00 => 0
    | 0x01 => 1
    | 0x02 => 2
    | 0x03 => 3
    | 0x04 => 4
    | 0x05 => 3
    | 0x06 => 4
    | 0x07 => 6
    | 0x08 => 2
    | 0x09 => 5
    | 0x0A => o.m.len
    | _ => 1 + o.m.len

/-! ### Sources and destinations (R433) -/

/-- A G register with the routine's staged write, if any (R438). -/
def UState.reg (u : UState) (k : Core) (n : Nat) : W := (u.regs.lookup n).getD (k.rg n)

/-- A source. LTIME is given apart. -/
def UState.src (u : UState) (i : UInst) (k : Core) (lt cst : W) (n : Nat) : W :=
  if 0x20 ≤ n then u.reg k (n - 0x20)
  else if 0x08 ≤ n ∧ n < 0x10 then u.t.toArray.getD (n - 8) 0
  else match n with
  | 0x01 => ((i.ops[0]?).map (fun b => u.reg k b.toNat)).getD 0
  | 0x02 => ((i.ops[1]?).map (fun b => u.reg k b.toNat)).getD 0
  | 0x03 => ((i.ops[2]?).map (fun b => u.reg k b.toNat)).getD 0
  | 0x04 => ((i.ops[3]?).map (fun b => u.reg k b.toNat)).getD 0
  | 0x05 => i.imm
  | 0x06 => u.ea
  | 0x07 => cst
  | 0x10 => u.mar0
  | 0x11 => u.mar1
  | 0x12 => u.mdr
  | 0x13 => u.ucnt.setWidth 64
  | 0x14 => (u.ssrp.getD (BitVec.ofNat 32 (k.ssr.toNat / 2 ^ 32))).setWidth 64
  | 0x15 => u.fl
  | 0x16 => BitVec.ofNat 64 i.next
  | 0x17 => lt
  | 0x18 => BitVec.ofNat 64 (decLen i.px)
  | _ => 0

/-- A G register staged. -/
def UState.stage (u : UState) (n : Nat) (v : W) : UState := { u with regs := (n, v) :: u.regs }

/-- The ALU result written to DEST. -/
def UState.put (u : UState) (i : UInst) (n : Nat) (v : W) : UState :=
  if 0x20 ≤ n then u.stage (n - 0x20) v
  else if 0x08 ≤ n ∧ n < 0x10 then { u with t := u.t.setIfInBounds (n - 8) v }
  else if 0x01 ≤ n ∧ n ≤ 0x04 then
    match i.ops[n - 1]? with
    | some b => u.stage b.toNat v
    | none => u
  else match n with
  | 0x10 => { u with mar0 := v }
  | 0x11 => { u with mar1 := v }
  | 0x14 => { u with ssrp := some (v.setWidth 32) }
  | _ => u

/-! ### The ALU (R434) -/

/-- The result of an ALU operation with UC and UV. -/
def uAluRes (op : Nat) (a b : W) : W × Bool × Bool :=
  let x := a.toNat
  let y := b.toNat
  let sub : W × Bool × Bool := (a - b, decide (x < y), decide (signedOf 64 x - signedOf 64 y ≠ signedOf 64 (a - b).toNat))
  let shift (o : ShiftOp) : W × Bool × Bool :=
    let r := shiftRes o 64 x y false
    (BitVec.ofNat 64 r.1, r.2, false)
  match op with
  | 0x01 => (a + b, decide (2 ^ 64 ≤ x + y), decide (signedOf 64 x + signedOf 64 y ≠ signedOf 64 (a + b).toNat))
  | 0x02 => sub
  | 0x03 => sub
  | 0x04 => (a &&& b, false, false)
  | 0x05 => (a ||| b, false, false)
  | 0x06 => (a ^^^ b, false, false)
  | 0x07 => (a &&& ~~~b, false, false)
  | 0x08 => shift .shl
  | 0x09 => shift .shr
  | 0x0A => shift .sar
  | 0x0B => shift .rol
  | 0x0C => (BitVec.ofNat 64 (nbits x (8 * (y % 8)) 8), false, false)
  | 0x0D => (BitVec.ofNat 64 (bswapRes 64 x), false, false)
  | 0x0E => (BitVec.ofNat 64 (clzRes 64 x), false, false)
  | 0x0F => (BitVec.ofNat 64 (ctzRes 64 x), false, false)
  | 0x10 => (BitVec.ofNat 64 (popcRes 64 x), false, false)
  | 0x11 => (if x < y then a else b, false, false)
  | 0x12 => (if x < y then b else a, false, false)
  | 0x13 => (BitVec.ofNat 64 ((x % 256 + 256 - 0x30) % 256), decide (x % 256 < 0x30) || decide (0x39 < x % 256), false)
  | 0x14 => (BitVec.ofNat 64 (x % 16 + 0x30), decide (9 < x % 16), false)
  | 0x15 => (BitVec.ofNat 64 (x * 10 + y), decide (2 ^ 64 ≤ x * 10 + y), false)
  | _ => (a, false, false)

/-- The micro-flags written by SETF. -/
def UState.setFlags (u : UState) (r : W × Bool × Bool) : UState :=
  { u with uz := r.1 == 0, uc := r.2.1, un := r.1.getLsbD 63, uv := r.2.2 }

/-! ### Memory (R435, R438, R439) -/

/-- Bytes of memory with the staged writes over them. -/
def overlay (a : Nat) (bs : Bytes) (writes : List (W × Bytes)) : Bytes :=
  writes.foldl (fun bs w => bs.mapIdx (fun j x => w.2.getD ((a + j + 2 ^ 64 - w.1.toNat) % 2 ^ 64) x)) bs

/-- The address of a memory operation. -/
def UState.addrOf (u : UState) (maddr : Nat) (r : W) : W := if maddr = 0 then u.mar0 else if maddr = 1 then u.mar1 else r

/-- MAR0 or MAR1 advanced by an access. -/
def UState.advanceMar (u : UState) (maddr n : Nat) : UState :=
  match maddr with
  | 0 => { u with mar0 := u.mar0 + BitVec.ofNat 64 n }
  | 1 => { u with mar1 := u.mar1 + BitVec.ofNat 64 n }
  | _ => u

/-- Bytes of staged writes. -/
def UState.stagedBytes (u : UState) : Nat := u.writes.foldl (fun n w => n + w.2.length) 0

/-- The watchdog's exception (R442, R443). -/
def overrun (b : UBind) : Exn := { vec := 13, cause := if b.resumable then 3 else 1, g2 := BitVec.ofNat 64 b.op }

/-- The memory operation of a word on the core's memory: the routine's new state, or the exception of its check. -/
def uMemOp (i : UInst) (w : BitVec 144) (r bv : W) (start : Nat) (s : State) (u : UState) : Except Exn (State × UState) :=
  let n := if uSize w = 4 then 64 else 2 ^ uSize w
  let a := u.addrOf (uMaddr w) r
  let who := whoOf i.c (s.core i.c) i.px
  let u' := u.advanceMar (uMaddr w) n
  match uMem w with
  | 0 => .ok (s, u)
  | 1 =>
    match s.checkBytes who a.toNat n false with
    | some e => .error e
    | none =>
      let v := leVal (overlay a.toNat (s.readBytes i.c a.toNat n) u.writes)
      .ok (s.afterRead a.toNat n, { u' with mdr := BitVec.ofNat 64 v, mdrAt := start + 3 })
  | 2 =>
    match s.checkBytes who a.toNat n true with
    | some e => .error e
    | none =>
      if 8 ≤ u.writes.length ∨ 64 < u.stagedBytes + n then .error (overrun i.b)
      else .ok (s, { u' with writes := u.writes ++ [(a, leBytes n bv.toNat)] })
  | m =>
    match s.checkBytes who a.toNat n (m == 4) with
    | some e => if e.vec = 14 then .ok (s, u') else .error e
    | none => .ok (s, u')

/-- The UCNT operation (R436). -/
def UState.count (u : UState) (w : BitVec 144) (r : W) : UState :=
  match uCnt w with
  | 1 => { u with ucnt := BitVec.ofNat 16 (uf w 85 16) }
  | 2 => { u with ucnt := r.setWidth 16 }
  | 3 => { u with ucnt := if u.ucnt = 0 then 0 else u.ucnt - 1 }
  | _ => u

/-! ### Conditions and waits (R432, R445, R449) -/

/-- SSR holds progress of this customer opcode (R445). -/
def ssrNames (k : Core) (op : Nat) : Bool :=
  nbit k.ssr.toNat 0 && nbits k.ssr.toNat 8 8 == 0xE0 + op / 256 && nbits k.ssr.toNat 16 8 == op % 256

/-- COND (R432). -/
def UState.cond (u : UState) (i : UInst) (k : Core) (n : Nat) : Bool :=
  match n with
  | 0x00 => true
  | 0x01 => u.uz
  | 0x02 => u.uc
  | 0x03 => u.un
  | 0x04 => u.uv
  | 0x05 => u.ucnt == 0
  | 0x06 => ssrNames k i.b.op && nbits k.ssr.toNat 24 8 == i.tag
  | 0x07 => osz i.px
  | 0x08 => hasPx i.px 1
  | _ => k.level == 0

/-- WAIT is honoured: the word lies in the privileged window (R449). -/
def uWaits (a : Nat) (w : BitVec 144) : Bool := decide (a < customerBase + 64) && uWait w != 0

/-- The condition of a wait. Every store of the model is performed at once, so DRAIN holds (R449). -/
def uWaitHolds (i : UInst) (w : BitVec 144) (s : State) (u : UState) : Except Exn (State × Bool) :=
  let t0 := u.t.toArray.getD 0 0
  match uWait w with
  | 1 => .ok (s, true)
  | 4 => .ok (s, decide (t0.toNat ≤ s.time.ns))
  | n =>
    match s.bitOperand i.c i.px t0 false with
    | .error e => .error e
    | .ok p => .ok (s.afterBit p, s.readBit i.c p == (n == 2))

/-! ### Commits (R441 to R444) -/

/-- FL with the micro-flags that FLMASK names (R429). -/
def uFl (u : UState) (w : BitVec 144) (k : Core) : W :=
  flOf (if nbit w.toNat 61 then u.uc else k.fC) (if nbit w.toNat 62 then u.uz else k.fZ)
    (if nbit w.toNat 63 then u.un else k.fN) (if nbit w.toNat 64 then u.uv else k.fV) k.fH

/-- The staged writes performed in order, and FLMASK applied. -/
def uCommit (i : UInst) (w : BitVec 144) (s : State) (u : UState) : State :=
  let s := s.modCore i.c (fun k => { u.regs.reverse.foldl (fun k r => k.wg r.1 r.2) k with fl := uFl u w k })
  u.writes.foldl (fun t x => t.storeLong i.c x.1.toNat x.2) s

/-- SSR at a UNIT commit (R444). -/
def unitSsr (i : UInst) (u : UState) (k : Core) : W :=
  let hi := (u.ssrp.getD (BitVec.ofNat 32 (k.ssr.toNat / 2 ^ 32))).toNat
  BitVec.ofNat 64 (1 + (0xE0 + i.b.op / 256) * 2 ^ 8 + (i.b.op % 256) * 2 ^ 16 + i.tag * 2 ^ 24 + hi * 2 ^ 32)

/-- What is staged is dropped after a commit, and the cycle count starts again. -/
def UState.fresh (u : UState) : UState := { u with regs := [], ssrp := none, writes := [], cyc := 0, mdrAt := u.mdrAt - u.cyc }

/-- A commit that ran too long is counted (R448). -/
def State.countLong (s : State) (i : UInst) (cyc : Nat) : State :=
  s.modCore i.c (fun k =>
    if i.b.resumable then (if 256 < cyc then { k with unitLong := k.unitLong + 1 } else k)
    else if 160 < cyc then { k with atomicLong := k.atomicLong + 1 } else k)

/-! ### Words -/

/-- What a routine comes to: its end, an exception, a stop at a UNIT for an event, a wait, or a restart, from the state of its
last commit, after a word that could not be read, with the UNIT commits that still come before an event. -/
inductive URes where
  | done (s : State)
  | stop (s : State) (e : Exn)
  | pause (s : State)
  | wait (s : State) (u : UState)
  | redo (s : State) (left : Option Nat)
  deriving DecidableEq, Repr

/-- What one word comes to: the next word, or the routine's end at END or UNIT. `redo` says that the word at an address has an
error beyond correction (R428). -/
inductive WordRes where
  | go (s : State) (u : UState)
  | commit (s : State) (u : UState) (w : BitVec 144) (unit_ : Bool)
  | stop (s : State) (e : Exn)
  | wait (s : State) (u : UState)
  | redo (a : Nat)
  deriving DecidableEq, Repr

/-- A bench's record of the error in one of its words. -/
def State.setWordErr (s : State) (b a : Nat) (e : Option WordErr) : State :=
  s.modBench b (fun x => { x with wordErr := match e with | some e => tset x.wordErr a e | none => terase x.wordErr a })

/-- A word is read without an uncorrectable error (R428, R482): an error of one bit is corrected, rewritten in place and
counted. -/
def State.wordRead (s : State) (b a : Nat) : State :=
  match tget (s.bench b).wordErr a with
  | none => s
  | some .single => (s.setWordErr b a none).logCorrected b 6 b
  | some (.double _ _) => s.setWordErr b a none

/-- The words of a region are written in every control store (R426 to R428): their ECC fields are computed anew. -/
def State.rewriteWords (s : State) (region : Nat → Bool) : State :=
  { s with benches := s.benches.map (fun b => { b with wordErr := b.wordErr.filter (fun e => !region e.1) }) }

/-- The next read of a word finds an uncorrectable error. -/
def WordErr.fails : WordErr → Bool
  | .single => false
  | .double left _ => left != 0

/-- A word with an uncorrectable error is rewritten; the third failure in succession is a device fault (R428). -/
def State.wordFailed (s : State) (b a : Nat) : State :=
  match tget (s.bench b).wordErr a with
  | some (.double left failed) =>
    let s := s.setWordErr b a (some (.double (left - 1) (failed + 1)))
    if 3 ≤ failed + 1 then (s.logErr 4 6 b 0).deviceFault else s
  | _ => s

/-- The sequencer (R431): `u` has the word's address. -/
def uNext (i : UInst) (w : BitVec 144) (s : State) (u : UState) : WordRes :=
  let nxt := u.addr + 1
  match uSeq w with
  | 0 => .go s { u with addr := nxt }
  | 1 => .go s { u with addr := uTarget w }
  | 2 => .go s { u with addr := if u.cond i (s.core i.c) (uCond w) != nbit w.toNat 26 then uTarget w else nxt }
  | 3 => .go s { u with addr := uTarget w, stack := nxt :: u.stack }
  | 4 => .go s { u with addr := u.stack.headD nxt, stack := u.stack.tail }
  | 5 =>
    let n := u.ucnt - 1
    .go s { u with ucnt := n, addr := if n = 0 then nxt else uTarget w }
  | 6 => .commit s { u with addr := uTarget w } w true
  | _ => .commit s u w false

/-- The limit of the watchdog (R442, R443). -/
def UBind.limit (b : UBind) : Nat := if b.resumable then 640 else 400

/-- The sequencer step of a word whose wait, if any, has ended; the watchdog comes before a commit. -/
def uFinish (i : UInst) (w : BitVec 144) (s : State) (u : UState) : WordRes :=
  if i.b.limit ≤ u.cyc then .stop s (overrun i.b) else uNext i w s u

/-- The wait of a word (R449, R450), then its end. -/
def uAwait (i : UInst) (w : BitVec 144) (s : State) (u : UState) : WordRes :=
  if !uWaits u.addr w then uFinish i w s u
  else match uWaitHolds i w s u with
  | .error e => .stop s e
  | .ok (s, true) => uFinish i w s u
  | .ok (s, false) => .wait s { u with wtime := uWtime w }

/-- The effect of one word (R438): sources, ALU and DEST, SETF, memory, UCNT and wait, then the sequencer. -/
def uWordStep (i : UInst) (s : State) (u : UState) : WordRes :=
  let w := s.uWord u.addr
  let k := s.core i.c
  let usesLt : Bool := uA w == 0x17 || uB w == 0x17
  let lt := BitVec.ofNat 64 (ltimeOf s.time.ns k.lastLt s.freeVal.toNat)
  let s := if usesLt then s.nextFree.modCore i.c (fun k => { k with lastLt := lt.toNat }) else s
  let start := if uA w = 0x12 ∨ uB w = 0x12 then max u.cyc u.mdrAt else u.cyc
  let av := u.src i k lt (uConst w) (uA w)
  let bv := u.src i k lt (uConst w) (uB w)
  let r := uAluRes (uAlu w) av bv
  let u := u.put i (uDest w) r.1
  let u := if nbit w.toNat 51 then u.setFlags r else u
  match uMemOp i w r.1 bv start s u with
  | .error e => .stop s e
  | .ok (s, u) =>
    let cycles := if usesLt then max 20 (uLen w) else uLen w
    uAwait i w s { u.count w r.1 with cyc := start + cycles }

/-- One word: it is read under its SECDED code (R428), then takes effect. -/
def uStep (i : UInst) (s : State) (u : UState) : WordRes :=
  let b := benchOf i.c
  if (tget (s.bench b).wordErr u.addr).any WordErr.fails then .redo u.addr else uWordStep i (s.wordRead b u.addr) u

/-- The state a routine's END leaves (R441): staged writes, FL, SSR 0, and the address unit's advance (R452). -/
def uEnd (i : UInst) (w : BitVec 144) (s : State) (u : UState) : State :=
  ((uCommit i w s u).countLong i u.cyc).modCore i.c (fun k => { k with ssr := 0 }.advanceAu u.au)

/-- The state a UNIT commit leaves (R443, R444). -/
def uUnit (i : UInst) (w : BitVec 144) (s : State) (u : UState) : State :=
  let ssr := unitSsr i u (s.core i.c)
  ((uCommit i w s u).countLong i u.cyc).modCore i.c (fun k => { k with ssr := ssr })

/-- A routine from a word's outcome on. `ck` is the state at its start or last commit, to which a word beyond correction takes
it back (R428). `left` counts the UNIT commits before an event is taken, if any (R447). A routine that has committed stops at a
UNIT also where the words of one command are used up (log 14). -/
def uRun (i : UInst) (ck : State) : Nat → Option Nat → WordRes → URes
  | _, _, .stop s e => .stop s e
  | _, _, .wait s u => .wait s u
  | _, _, .commit s u w false => .done (uEnd i w s u)
  | _, left, .redo a => .redo (ck.wordFailed (benchOf i.c) a) left
  | 0, _, .go s _ => .pause s
  | fuel + 1, left, .go s u => uRun i ck fuel left (uStep i s u)
  | 0, _, .commit s u w true => .pause (uUnit i w s u)
  | fuel + 1, left, .commit s u w true =>
    let t := uUnit i w s u
    match left with
    | some n => if n ≤ 1 then .pause t else uRun i t fuel (some (n - 1)) (uStep i t u.fresh)
    | none => if fuel < 700 then .pause t else uRun i t fuel none (uStep i t u.fresh)

/-! ### Customer opcodes (R451, R452) -/

/-- Words that one command runs at most. -/
def uFuel : Nat := 1048576

/-- Restarts that one command makes at most (R428): a routine that still meets bad words then stops with PC unchanged. -/
def uRetries : Nat := 65536

/-- The binding of a customer opcode in the image that the control stores hold (R452, R461). -/
def State.ubind (s : State) (op : Nat) : Option UBind :=
  if s.ucode.absent then none else s.ucode.binds.find? (fun b => b.op == op)

/-- PREFIXES allows a prefix (R451). -/
def UBind.allows (b : UBind) (p : Pfx) : Bool := nbit b.prefixes p.kind

/-- The decoding of a customer instruction (R320, R452). -/
def fmtCustomer (s : State) (c : Nat) (px : List Pfx) (op : Nat) (o : CustOps) : Desc :=
  let hi := 0xE0 + op / 256
  match s.ubind op with
  | none => { op := hi, len := 2, head := 2, undef := some 3, fl := true }
  | some b =>
    { op := hi, len := custLen b.format o, head := 2, fl := true, pxOk := some (px.all b.allows)
      ok := (custRegs b.format o).map okG ++ (if custMem b.format then o.m.oks (hasPx px 5) else []), spec := custMem b.format
      minLevel := if nbit b.levels (s.core c).level then 0 else 3 }

/-- A routine from the start of its instruction (R437): `s` is the state the instruction finds. -/
def customerStart (i : UInst) (o : CustOps) (intr : Option Nat) (s : State) : Except Exn URes :=
  let k := s.core i.c
  match (if custMem i.b.format then memEa k i.px o.m i.next else .ok (0, none)) with
  | .error e => .error e
  | .ok (ea, au) =>
    let u : UState := { op := i.b.op, pc := k.pc, addr := i.b.entry, fl := k.fl, ea := ea, au := au }
    .ok (uRun i s uFuel intr (uStep i s u))

/-- A routine's outcome as the instruction's effect (R446, R447, R450). A restart (R428) runs the routine again, from its start
or, by SSR, from its last commit (R445); in the device-fault state it ends instead, and PC stays. -/
def customerEff (i : UInst) (o : CustOps) (pc : BitVec 48) : Nat → URes → Eff
  | _, .done s => .next s
  | _, .stop s e => .wait (s.takeEntry i.c e.vec e.cause e.g2 pc.toNat pc.toNat)
  | _, .pause s => .wait (s.modCore i.c (fun k => { k with uwait := none }))
  | _, .wait s u => .wait (s.modCore i.c (fun k => { k with uwait := some u }))
  | 0, .redo s _ => .wait (s.modCore i.c (fun k => { k with uwait := none }))
  | n + 1, .redo s left =>
    let t := s.modCore i.c (fun k => { k with uwait := none })
    if t.su.fault then .wait t
    else match customerStart i o left t with
    | .error e => .wait (t.takeEntry i.c e.vec e.cause e.g2 pc.toNat pc.toNat)
    | .ok r => customerEff i o pc n r

/-- A customer instruction's effect: its routine from the start, or from the word that waits (R437, R445, R450). -/
def customerBody (c : Nat) (px : List Pfx) (op : Nat) (o : CustOps) (intr : Option Nat) (s : State) (nxt : Nat) : Eff :=
  let k := s.core c
  match s.ubind op with
  | none => .exc { vec := 1, cause := 3 }
  | some b =>
    let tag := s.ucode.id % 256
    let i : UInst := { c := c, px := px, b := b, tag := tag, ops := custRegs b.format o, imm := custImm b.format o, next := nxt }
    if ssrNames k op && nbits k.ssr.toNat 24 8 != tag then .exc { vec := 1, cause := 3 }
    else match k.uwait.filter (fun u => u.op == op && u.pc == k.pc) with
    | some u => customerEff i o k.pc uRetries (uRun i s uFuel intr (uAwait i (s.uWord u.addr) s u))
    | none =>
      match customerStart i o intr s with
      | .error e => .exc e
      | .ok r => customerEff i o k.pc uRetries r

/-- CUSTOMER_OPCODE (R321, R452). The logic of a fused opcode stands nowhere in the manual (R453). -/
def execICustomer (c : Nat) (px : List Pfx) (op : Nat) (o : CustOps) (intr : Option Nat) (s : State) : Out3 :=
  if 96 ≤ c ∨ 4096 ≤ op then .fault .noSuchUnit
  else if s.ident.fusedOps.any (fun f => f.op == op) then .refused .fusedOpcode
  else s.instr c px (fmtCustomer s c px op o) (customerBody c px op o intr)

/-- WAIT_TIMEOUT (R450): the watchdog ends a wait that it overtakes with its own cause. -/
def execWaitTimeout (core : Nat) (s : State) : Out3 :=
  if core < 96 then
    .next (
      match (s.core core).uwait, s.coreRuns core with
      | some u, true =>
        match s.ubind u.op with
        | none => s
        | some b =>
          let e : Exn := if b.limit < u.cyc + 16 * u.wtime then overrun b else { vec := 13, cause := 2, g2 := BitVec.ofNat 64 b.op }
          s.takeEntry core e.vec e.cause e.g2 u.pc.toNat u.pc.toNat
      | _, _ => s)
  else .fault .noSuchUnit

end Sys2Proof.Machine
end

