-- ==== Sys2Proof/Machine/AdminUcode.lean ====
section
/-!
DEFINITION. The microcode image (R454 to R456), LOAD_MICROCODE and REGISTER_KEY (R457 to R461).
-/

namespace Sys2Proof.Machine

/-! ### The image -/

/-- An image taken apart (R454, R455): IMAGE_ID, SIG_ALG, bindings, words, public key and signature. -/
structure UImage where
  id : Nat
  alg : Nat
  binds : List UBind
  words : List (BitVec 144)
  pub : Bytes
  sig : Bytes
  deriving DecidableEq, Repr

/-- A binding entry's values are legal (R451). -/
def bindOk (count : Nat) (e : Bytes) : Bool :=
  let format := bfld e 2 1
  let prefixes := bfld e 3 1
  let levels := bfld e 4 1
  let entry := bfld e 6 2
  decide (bfld e 0 2 < 4096) && decide (format < 12) && !nbit prefixes 3 && !nbit prefixes 4 && !nbit prefixes 6 &&
    (!nbit prefixes 5 || custMem format) && levels != 0 && decide (levels < 8) && decide (bfld e 5 1 < 2) &&
    decide (customerBase ≤ entry) && decide (entry < customerBase + count) && bfld e 8 8 == 0

/-- A binding entry read (R451). -/
def bindOf (e : Bytes) : UBind :=
  { op := bfld e 0 2, format := bfld e 2 1, prefixes := bfld e 3 1, levels := bfld e 4 1, resumable := bfld e 5 1 == 1
    entry := bfld e 6 2 }

/-- Opcodes rise strictly (R454). -/
def rising : List Nat → Bool
  | a :: b :: l => decide (a < b) && rising (b :: l)
  | _ => true

/-- Customer words may read a source (R433). -/
def srcOk (n : Nat) : Bool := !(decide (0x19 ≤ n) && decide (n ≤ 0x1F))

/-- Customer words may name a destination (R433). -/
def destOk (n : Nat) : Bool := srcOk n && !([0x05, 0x06, 0x07, 0x12, 0x13, 0x15, 0x16, 0x17, 0x18].contains n)

/-- The memory fields of a customer word (R435). -/
def memOk (w : BitVec 144) : Bool :=
  uMaddr w != 3 &&
    (match uMem w with
      | 0 => uSize w == 0
      | 1 => decide (uSize w ≤ 3)
      | 2 => decide (uSize w ≤ 3)
      | 3 => decide (uSize w ≤ 4)
      | 4 => decide (uSize w ≤ 4)
      | _ => false)

/-- The shortest a word may be (R430, R434). -/
def minLen (w : BitVec 144) : Nat :=
  if uMem w ≠ 0 ∨ uAlu w = 0x15 ∨ (0x0E ≤ uAlu w ∧ uAlu w ≤ 0x10) then 2 else 1

/-- SEQ uses TARGET (R431). -/
def usesTarget (w : BitVec 144) : Bool := [1, 2, 3, 5, 6].contains (uSeq w)

/-- A customer word at an index of the image is legal (R430). -/
def wordOk (count idx : Nat) (w : BitVec 144) : Bool :=
  !nbit w.toNat 27 && uf w 117 8 == 0 && uf w 125 10 == 0 && uf w 135 9 == 0 && decide (uCond w ≤ 9) && srcOk (uA w) &&
    srcOk (uB w) && decide (uAlu w ≤ 0x15) && destOk (uDest w) && (uAlu w != 3 || uDest w == 0) && memOk w &&
    decide (uCnt w ≤ 3) && (uSeq w != 5 || uCnt w == 0) && decide (minLen w ≤ uLen w) &&
    (!usesTarget w || (decide (customerBase ≤ uTarget w) && decide (uTarget w < customerBase + count))) &&
    (decide (64 ≤ idx) || (decide (uWait w ≤ 4) && (uWait w == 0 || uWtime w != 0)))

/-- Words and stack depths that a word leads to; none where the depth rules fail (R431, R456). -/
def uSuccs (w : BitVec 144) (a depth : Nat) : Option (List (Nat × Nat)) :=
  match uSeq w with
  | 0 => some [(a + 1, depth)]
  | 1 => some [(uTarget w, depth)]
  | 2 => some [(uTarget w, depth), (a + 1, depth)]
  | 3 => if depth = 4 then none else some [(uTarget w, depth + 1), (a + 1, depth)]
  | 4 => if depth = 0 then none else some []
  | 5 => some [(uTarget w, depth), (a + 1, depth)]
  | 6 => some [(uTarget w, depth)]
  | _ => some []

/-- The words reached with their depths; none where one word is reached at two depths or the depth rules fail (R456). One
depth for each word leaves no call back to its own routine. -/
def reach (words : List (BitVec 144)) : Nat → List (Nat × Nat) → List (Nat × Nat) → Option (List (Nat × Nat))
  | 0, _, seen => some seen
  | _, [], seen => some seen
  | fuel + 1, (a, d) :: rest, seen =>
    match seen.lookup a with
    | some d' => if d' = d then reach words fuel rest seen else none
    | none =>
      match words[a - customerBase]? with
      | none => reach words fuel rest seen
      | some w =>
        match uSuccs w a d with
        | none => none
        | some l => reach words fuel (l ++ rest) ((a, d) :: seen)

/-- The control-flow rules (R456). -/
def flowOk (words : List (BitVec 144)) (binds : List UBind) : Bool :=
  let fuel := 3 * words.length + binds.length + 1
  let from_ (l : List UBind) := reach words fuel (l.map (fun b => (b.entry, 0))) []
  (from_ binds).isSome &&
    (match from_ (binds.filter (fun b => !b.resumable)) with
      | none => false
      | some seen => seen.all (fun p => (words[p.1 - customerBase]?).all (fun w => uSeq w != 6)))

/-- Length of a public key and of a signature by SIG_ALG (R455). -/
def sigLens (alg : Nat) : Nat × Nat := if alg = 0 then (96, 96) else (1952, 3309)

/-- An image that is well-formed under R454 to R456, taken apart. -/
def imageOf (d : Bytes) : Option UImage :=
  let nb := bfld d 16 2
  let nw := bfld d 18 2
  let alg := bfld d 20 1
  let lens := sigLens alg
  let wordsAt := 256 + 16 * nb
  let keyAt := wordsAt + 18 * nw
  let binds := (chunks 16 ((d.drop 256).take (16 * nb)))
  let words := (chunks 18 ((d.drop wordsAt).take (18 * nw))).map (fun w => BitVec.ofNat 144 (leVal w))
  let head : Bool := d.take 8 == [0x4F, 0x4C, 0x46, 0x55, 0x43, 0x4F, 0x44, 0x45] && bfld d 8 2 == 1 && bfld d 10 2 == 0 &&
    bfld d 12 4 != 0 && decide (nb ≤ 4096) && decide (nw ≤ 8192) && (nw != 0 || nb == 0) && decide (alg < 2) &&
    bfld d 21 3 == 0 && bfld d 24 4 == lens.1 && bfld d 28 4 == lens.2 && allZero ((d.drop 32).take 224) &&
    d.length == keyAt + lens.1 + lens.2
  if head && binds.all (bindOk nw) && rising (binds.map (fun e => bfld e 0 2)) &&
      (words.zipIdx).all (fun p => wordOk nw p.2 p.1) && flowOk words (binds.map bindOf) then
    some { id := bfld d 12 4, alg := alg, binds := binds.map bindOf, words := words
           pub := (d.drop keyAt).take lens.1, sig := (d.drop (keyAt + lens.1)).take lens.2 }
  else none

/-! ### LOAD_MICROCODE -/

/-- KIND and FLAGS of LOAD_MICROCODE (R457). -/
def ucodeKind (e : W512) : Nat := W512.fld e 24 1
/-- RESTORE. -/
def ucodeRestore (e : W512) : Bool := nbit (W512.fld e 25 1) 0

/-- Orders 2 and 3 of LOAD_MICROCODE (R457). -/
def ucodeFields (e : W512) : Bool :=
  commonOk e && targetOf e == 0 && zeroIn e 26 56 && decide (ucodeKind e < 2) && decide (W512.fld e 25 1 < 2) &&
    (if ucodeKind e = 1 then !ucodeRestore e && (dataLenOf e == 160 || dataLenOf e == 2016)
      else decide (1 ≤ dataLenOf e) && decide (dataLenOf e ≤ 16777216))

/-- Order 5 of LOAD (R453, R458, R461). -/
def State.ucodeState (s : State) (e : W512) (d : Bytes) (m : UImage) : Bool :=
  (s.home).isSome && s.ident.ucodeKey.isSome &&
    m.binds.all (fun b => s.ident.fusedOps.all (fun f => f.op != b.op)) &&
    (if ucodeRestore e then s.ucode.loaded && s.ucode.absent && s.ucode.sha == Config.sha256 d
      else decide (s.ucode.highest < m.id))

/-- The value that REGISTER_KEY fuses (R459). -/
def ucodeKeyHash (alg : Nat) (pub : Bytes) : BitVec 384 := Config.sha384 (BitVec.ofNat 8 alg :: pub)

/-- Order 6 of LOAD (R458). -/
def State.ucodeSigned (s : State) (d : Bytes) (m : UImage) : Bool :=
  s.ident.ucodeKey == some (ucodeKeyHash m.alg m.pub) &&
    Config.imageVerifies m.alg m.pub (d.take (d.length - m.sig.length)) m.sig

/-- Orders 1 to 7 of LOAD_MICROCODE of KIND LOAD, and of a reserved KIND. -/
def State.ucodeBad (s : State) (e : W512) (data : Option Bytes) : Option Nat :=
  if !ucodeFields e then some stField
  else match data with
  | none => some stDmaFault
  | some d =>
    let d := padTo (dataLenOf e) d
    match imageOf d with
    | none => some stField
    | some m =>
      if !Config.publicKeyValid m.alg m.pub then some stField
      else if !s.ucodeState e d m then some stState
      else if !s.ucodeSigned d m then some stSignature
      else none

/-- An image takes effect (R460, R461): every control store is rewritten, and a routine that waits starts again (log 14). -/
def effLoadMicrocode (data : Option Bytes) : Effect := fun s h =>
  let d := padTo (dataLenOf h.entry) (data.getD [])
  match imageOf d with
  | none => (s, 0, 0)
  | some m =>
    let u : Ucode := { id := m.id, sha := Config.sha256 d, highest := max s.ucode.highest m.id, absent := false, loaded := true
                       binds := m.binds, words := m.words }
    let s := s.rewriteWords (fun a => decide (customerBase ≤ a))
    ({ s with ucode := u, cores := s.cores.map (fun c => (c.1, { c.2 with uwait := none })) }, 0, 0)

/-! ### REGISTER_KEY -/

/-- Order 4 of REGISTER_KEY (R458): the content of the buffer. -/
def registerContent (e : W512) (d : Bytes) : Bool :=
  let alg := bfld d 48 1
  allZero ((d.drop 49).take 15) && decide (alg < 2) && dataLenOf e == 64 + (sigLens alg).1 &&
    Config.publicKeyValid alg (d.drop 64)

/-- Orders 1 to 7 of REGISTER_KEY (R457, R458). -/
def State.registerBad (s : State) (e : W512) (data : Option Bytes) : Option Nat :=
  if !ucodeFields e then some stField
  else match data with
  | none => some stDmaFault
  | some d =>
    let d := padTo (dataLenOf e) d
    if !registerContent e d then some stField
    else if !((s.home).isSome && s.ident.ucodeKey.isNone) then some stState
    else s.tokenBad (d.take 48) { format := 2, rights := 0x200, lo := 0, count := 2 ^ 20 } false (fun _ => true)

/-- REGISTER_KEY takes effect (R459). -/
def effRegisterKey (data : Option Bytes) : Effect := fun s h =>
  let d := padTo (dataLenOf h.entry) (data.getD [])
  ({ s with ident := { s.ident with ucodeKey := some (ucodeKeyHash (bfld d 48 1) (d.drop 64)) } }, 0, 0)

end Sys2Proof.Machine
end

