-- ==== Sys2Proof/Machine/PairOps.lean ====
section
/-!
DEFINITION. Pairing (R192 to R198): going SOLO, confinement (R158), proposals, catch-up, the paired states, superseded
streams, and what the loss and the return of the link change (R189).
-/

namespace Sys2Proof.Machine

/-! ### Streams that leave -/

/-- Windows of an item and of its outbound messages freed (R97). -/
def State.freeItem (s : State) (i : Item) : State :=
  let s := if i.granules = 0 then s else s.freeWindow i.win
  i.emits.foldl (fun t e => if e.granules = 0 then t else t.freeWindow e.win) s

/-- A core's slots that hold items of a stream: one that does not run becomes FREE (R218). -/
def Core.forget (k : Core) (id : Nat) : Core :=
  { k with slots := k.slots.map (fun sl => if sl.item.any (fun p => p.1 == id) && !(sl.st == .running) then {} else sl) }

/-- A port's command whose CONFIG record in a stream is void: it has no effect and ends with NOT_EPOCH_HOLDER
(R195, R198, log 100). -/
def State.voidCmd (s : State) (id p : Nat) : State :=
  match (s.port p).aheld with
  | none => s
  | some h => if h.stream = id ∧ h.jsn ≠ 0 then s.finish p h.entry stEpoch 0 0 else s

/-- Nothing is done any more for a stream: its channels, rings, items, dialogues and held commands leave (R195, R198, R202). -/
def State.dropStream (s : State) (id : Nat) : State :=
  let s := (s.voidCmd id 0).voidCmd id 1
  let s := (s.items.filter (fun i => i.stream == id)).foldl State.freeItem s
  let gone := s.chans.filter (fun c => c.2.stream == id)
  let of (ch : Nat) : Bool := gone.any (fun c => c.1 == ch)
  { s with
    items := s.items.filter (fun i => i.stream != id)
    dialogues := s.dialogues.filter (fun d => d.stream != id)
    remnants := s.remnants.filter (fun r => r.stream != id)
    closedChans := gone.foldl (fun (t : Tbl Channel) c => tset t c.1 { c.2 with cur := none, bufs := [], outq := [], marks := [] }) s.closedChans
    chans := s.chans.filter (fun c => c.2.stream != id)
    rings := s.rings.filter (fun r => r.2.stream != id)
    poolWait := s.poolWait.filter (fun q => !of q.part.1)
    owed := s.owed.filter (fun o => o.stream != id)
    acceptHeld := s.acceptHeld.filter (fun h => h.stream != id)
    cores := s.cores.map (fun c => (c.1, c.2.forget id)) }

/-- Area 1 is free where it holds no stream (R157, R158). -/
def State.freeArea (s : State) : State := if s.area1.isNone then { s with area1Used := false } else s

/-- Mirrors discarded (R157, R194). -/
def State.dropMirrors (s : State) : State :=
  { s with
    area0 := s.area0.filter (fun x => x.role != Role.mirror)
    area1 := s.area1.filter (fun x => x.role != Role.mirror) }.freeArea

/-! ### SOLO -/

/-- A change of every stream held as primary. -/
def State.modPrimaries (s : State) (f : Stream → Stream) : State :=
  let g (x : Stream) : Stream := if x.role = .primary then f x else x
  { s with area0 := s.area0.map g, area1 := s.area1.map g }

/-- The joining package's PAIR_TWIN ends with a status (R192). -/
def State.endJoin (s : State) (status jsn : Nat) : State :=
  match s.link.joins with
  | none => s
  | some p =>
    let s := { s with link := { s.link with joins := none } }
    match (s.port p).aheld with
    | none => s
    | some h => s.finish p h.entry status jsn 0

/-- The package is SOLO, with the CONFIG record of the event (R157, R159, R194). What was held under paired rules
completes. -/
def State.goSolo (s : State) (event : Nat) : State :=
  let s := s.endJoin stTwin 0
  let s := (s.dropMirrors).modPrimaries (fun x => { x with released := none })
  let s := { s with
    feats := { s.feats with journalMode := s.feats.journalMode &&& ~~~(3 : W) }
    link := { s.link with prop := none, rxProp := none, release := none, adopting := none, sentDone := false, rcvdDone := false } }
  ((((s.setPair 0).writeLate 0).writeLate 1).deviceConfig event).settle

/-- The pairing is refused (R194). -/
def State.refusePair (s : State) : State := (s.goSolo 3).msixAll 516

/-! ### PROPOSE -/

/-- Numbers as a bitmap of `n` bytes (R185). -/
def bitmap (n : Nat) (l : List Nat) : Bytes := leBytes n (l.foldl (fun a i => a ||| 2 ^ i) 0)

/-- The numbers of open channels and existing rings, as PROPOSE carries them (R185). -/
def State.maps (s : State) : Bytes :=
  bitmap 512 (s.chans.map (fun c => c.1)) ++ bitmap 64 (s.rings.map (fun r => r.1))

/-- Streams that the twin's heartbeat shows as primary. -/
def State.twinPrimaries (s : State) : List TwinStream := s.link.twin.streams.filter (fun x => x.role == 1)

/-- The two packages hold streams in a combination of R157. -/
def State.comboOk (s : State) : Bool :=
  let a := s.primaries.length
  let b := s.twinPrimaries.length
  (a == 1 && b == 1) || (a == 2 && b == 0) || (a == 0 && b == 2)

/-- The checks of a received PROPOSE (R194). -/
def State.proposeOk (s : State) (pl : Bytes) : Bool :=
  bfld pl 8 8 % 2 ^ 48 == s.ident.serial.toNat && s.ownNow + bfld pl 2 1 == 16 && s.comboOk &&
    bfld pl 32 512 &&& bfld s.maps 0 512 == 0 && bfld pl 544 64 &&& bfld s.maps 512 64 == 0

/-- A new mirror of a stream of the twin (R157, R185). -/
def State.newMirror (s : State) (a : Nat) (t : TwinStream) : Stream :=
  { id := t.id, serial := s.link.twinSerial, adoption := t.adoption, role := .mirror, heads := initHeads t.id
    logSz := s.logSize a }

/-- Mirrors of the twin's primary streams made in the areas that take them (R157). -/
def State.makeMirrors (s : State) : State :=
  s.twinPrimaries.foldl (fun t x =>
    let a := 1 - x.area % 2
    if (t.area a).any (fun y => y.role == .primary || y.id == x.id) then t else t.setArea a (some (t.newMirror a x))) s

/-- The CONFIG record that the holder of two streams appends for a joining twin, whose frame carried MODE (R168, R192). CMD_ID,
which no frame carries, is free (log 4). -/
def State.joinConfig (s : State) (mode : Nat) : State :=
  match s.area1.filter (fun x => x.role == .primary), s.twinPrimaries with
  | some st, [] =>
    let cmd := s.freeVal.toNat % 65536
    let entry := leBytes 1 0x60 ++ leBytes 1 0 ++ leBytes 2 cmd ++ leBytes 20 0 ++ leBytes 1 mode ++
      leBytes 7 0 ++ leBytes 8 s.ident.serial.toNat ++ leBytes 24 0
    s.nextFree.openSlot.owe (.config st.id 5 0x60 cmd 0 entry)
  | _, _ => s

/-- A joining package's OWN is 16 minus the twin's (R160, R192). -/
def State.takeOwn (s : State) : State :=
  if s.link.joins.isNone then s
  else { s with feats := { s.feats with
    journalSplit := (s.feats.journalSplit &&& ~~~(0xF : W)) ||| BitVec.ofNat 64 (s.ownInForce % 16) } }

/-- CATCH_UP begins (R159, R194): the mode proposed is set and the mirrors are made. `theirs` is the MODE of the twin's frame. -/
def State.enterCatchUp (s : State) (mode twin theirs : Nat) : State :=
  let s := (s.setPair 2).modPrimaries (fun x => { x with staged := 0, durableTo := 0 })
  let s := { s with
    feats := { s.feats with journalMode := (s.feats.journalMode &&& ~~~(3 : W)) ||| BitVec.ofNat 64 (mode % 4) }
    link := { s.link with twinSerial := twin, prop := none, rxProp := none, sentDone := false, rcvdDone := false } }
  s.takeOwn.makeMirrors.joinConfig theirs

/-- A PROPOSE answered by a package in PROPOSED (R194). CATCH_UP begins with the package's own AGREE; a REFUSE that comes later is
ignored (log 111). -/
def State.answer (s : State) (pl : Bytes) : State :=
  match s.link.prop with
  | none => s
  | some p =>
    let s := { s with link := { s.link with rxProp := none } }
    if s.proposeOk pl then (s.sendPair 2 p.mode s.ownNow p.twin []).enterCatchUp p.mode p.twin (bfld pl 1 1)
    else (s.sendPair 5 p.mode s.ownNow p.twin []).refusePair

/-- A record of a log lies beyond a boundary of the log. -/
def LogRec.beyond (e : LogRec) (size : Nat) : Bool := decide (size < e.off + e.record.size)

/-- No live record of area 0 lies beyond its boundary (R158). -/
def State.confined (s : State) : Bool :=
  s.area0.all (fun st => st.role != .primary || st.log.all (fun e => !e.beyond (s.logSize 0) || s.retired st e.record))

/-- The log of area 0 takes the area's size, retired records beyond it being gone, and a head beyond it wraps (R158, R178). -/
def State.closeConfinement (s : State) : State :=
  match s.area0 with
  | none => s
  | some st =>
    let size := s.logSize 0
    if st.role = .primary ∧ size < st.logSz then
      let log := st.log.filter (fun e => !e.beyond size)
      let head := if size ≤ st.head then 0 else st.head
      (s.setArea 0 (some { st with
        log := log, logSz := size, head := head, tail := (log.head?.map (fun e => e.off)).getD head })).spaceEvent s.spaceClass
    else s

/-- PROPOSE is sent once confinement is complete; a PROPOSE that has already come is answered (R158, R194). -/
def State.propose (s : State) : State :=
  match s.link.prop with
  | none => s
  | some p =>
    if p.sent || s.link.pair != 0 || !s.linkUp || !s.confined then s
    else
      let s := s.closeConfinement
      let s := { s with link := { s.link with prop := some { p with sent := true, at_ := s.time.ns } } }
      let s := (s.sendPair 1 p.mode s.ownNow p.twin s.maps).setPair 1
      match s.link.rxProp with
      | none => s
      | some pl => s.answer pl

/-- PAIR_TWIN has taken effect: the split is in force and the log of area 0 is confined (R157, R158, R194). -/
def State.startPairing (s : State) (mode twin own : Nat) : State :=
  let s := { s with
    ownInForce := own, area1Used := true
    area0 := s.area0.filter (fun x => x.role != Role.superseded), area1 := s.area1.filter (fun x => x.role != Role.superseded)
    link := { s.link with twinSerial := twin, prop := some { mode := mode, twin := twin, own := own, at_ := s.time.ns } } }
  s.propose

/-! ### CATCH_UP and PAIRED -/

/-- The checkpoint of a stream (R175). -/
def Stream.checkpoint (st : Stream) : Config.Checkpoint :=
  { records := (st.cfg.filter (fun r => decide (r.jsn ≤ st.ckptJsn))).map Record.bytes, upTo := st.ckptJsn
    cursor := st.ckptCursor, heads := st.heads }

/-- A checkpoint sent as RECORD frames of the first 64 MiB of an area (R157, R175, R185). -/
def State.sendCheckpoint (s : State) (area : Nat) (st : Stream) : State :=
  let ps := chunks 4032 (Config.checkpointBytes st.checkpoint)
  (List.range ps.length).foldl (fun t i =>
    t.sendSeq { ftype := 1, fflags := BitVec.ofNat 8 (2 + if i + 1 = ps.length then 1 else 0)
                fspec := BitVec.ofNat 96 (area + (4032 * i % 2 ^ 32) * 2 ^ 32), payload := ps.getD i [] }) s

/-- The TAIL frame of an area (R185). -/
def State.sendTail (s : State) (area : Nat) (st : Stream) : State :=
  s.sendSeq { ftype := 2, fspec := BitVec.ofNat 96 (area + ((ckptSize + st.tail) / 64) * 2 ^ 64) }

/-- The live log of an area sent for catch-up (R194): its records beyond the twin's STAGED_JSN, relocated. -/
def State.sendLog (s : State) (a : Nat) : State :=
  match s.area a with
  | none => s
  | some st =>
    if st.role ≠ .primary then s
    else
      let live := st.log.filter (fun e => decide (st.staged < e.record.jsn) && !s.retired st e.record)
      let s := s.sendCheckpoint a st
      let s := live.foldl (fun t e => t.sendRecord a e.off e.record true 0) s
      s.sendTail a st

/-- Records beyond the twin's STAGED_JSN sent again (R189, R194). -/
def State.resend (s : State) (a : Nat) : State :=
  match s.area a with
  | none => s
  | some st =>
    if st.role ≠ .primary then s
    else (st.log.filter (fun e => decide (st.staged < e.record.jsn))).foldl (fun t e => t.sendRecord a e.off e.record false e.chain) s

/-- PAIRED (R194): what was durable stays durable; EVENT PAIRED. -/
def State.enterPaired (s : State) : State :=
  let s := if s.link.pair = 2 then s.modPrimaries (fun x => { x with durableTo := x.nextJsn - 1 }) else s
  ((s.setPair 3).deviceConfig 1).settle

/-- Both catch-ups are complete (R194). -/
def State.catchUpEnds (s : State) : State :=
  if s.link.pair == 2 && s.link.sentDone && s.link.rcvdDone then s.enterPaired else s

/-! ### Superseded streams -/

/-- A stream held as primary is primary on the twin at a higher ADOPTION_COUNT: it is superseded (R194, R197, R198). -/
def State.supersede (s : State) (id : Nat) : State :=
  let s := ((s.modStream id (fun x => { x with role := .superseded })).dropStream id).spaceEvent s.spaceClass
  if s.primaries.isEmpty then s.goSolo 2 else s

/-- The streams that a heartbeat shows as superseded here. -/
def State.supersedeAll (s : State) : State :=
  s.primaries.foldl (fun t st =>
    if t.twinPrimaries.any (fun x => x.id == st.id && decide (st.adoption < x.adoption)) then t.supersede st.id else t) s

/-- The twin's heartbeat shows the same streams at the same ADOPTION_COUNT (R194). -/
def State.sameStreams (s : State) : Bool :=
  let mine := [s.area0, s.area1].filterMap id
  mine.all (fun st => s.link.twin.streams.any (fun x => x.id == st.id && x.adoption == st.adoption)) &&
    s.link.twin.streams.all (fun x => mine.any (fun st => x.id == st.id && x.adoption == st.adoption))

/-- A heartbeat has been received (R194). -/
def State.onHeartbeat (s : State) : State :=
  let s := s.supersedeAll
  if s.link.pair == 5 && s.sameStreams then
    let s := { s with link := { s.link with sentDone := false, rcvdDone := false } }
    (((s.setPair 2).writeLate 0).writeLate 1).settle
  else s

/-! ### The link -/

/-- The follower is in holdover while the link is down (R122). -/
def State.holdTime (s : State) : State :=
  if s.time.source = .twin ∧ s.time.applied then { s with time := { s.time with held := true } }.judge else s

/-- The link has gone down (R189, R194): frames outstanding are discarded. -/
def State.linkLost (s : State) : State :=
  let s := { s with link := { s.link with
    downAt := s.time.ns, unacked := [], txWait := [], rxHeld := [], gapSince := none, rxProp := none, adopting := none } }
  let s := s.holdTime
  if s.link.pair = 2 then s.goSolo 2
  else if s.link.pair = 3 then { s with link := { s.link with sevAt := s.time.ns } }.setPair 4
  else s

/-- The link has come up (R186, R187, R189, R194): FSEQ, ACK_FSEQ and credits restart. -/
def State.linkBack (s : State) : State :=
  let s := { s with link := { s.link with
    txSeq := 1, rxNext := 1, peerAck := 1, peerCredit := 0, txCredit := 8192, rxFreed := 0, unacked := [], txWait := []
    rxHeld := [], gapSince := none, lastAckAt := s.time.ns, lastSentAt := s.time.ns } }
  if s.link.pair = 4 then (((s.setPair 3).resend 0).resend 1).deviceConfig 1 |>.settle else s

/-- A sublink comes up (R189). -/
def State.sublinkUp (s : State) (sl : Nat) : State :=
  let was := s.linkUp
  let x := s.link.sub sl
  let s := { s with link := s.link.setSub sl { x with up := true, lastGood := s.time.ns } }
  let s := s.linkEvent sl
  if was then s else s.linkBack

/-- A sublink goes down (R189). -/
def State.sublinkDown (s : State) (sl : Nat) : State :=
  let x := s.link.sub sl
  if !x.up then s
  else
    let s := { s with link := s.link.setSub sl { x with up := false, downAt := s.time.ns } }
    let s := s.linkEvent sl
    if s.linkUp then s else s.linkLost

end Sys2Proof.Machine
end

