-- ==== Sys2Proof/Machine/AdminTime.lean ====
section
/-!
DEFINITION. SET_FEATURE (R73), SET_TIME (R117 to R119), SET_CALENDAR (R128 to R131), SET_BACKGROUND (R488), SET_POWER
(R499, R500), QUIESCE (R503), FW_UPDATE (R496, R497) and PAIR_TWIN (R192): their checks and their effects.
-/

namespace Sys2Proof.Machine

/-! ### SET_FEATURE -/

/-- The feature a SET_FEATURE names. -/
def featOf (e : W512) : Nat := W512.fld e 24 2
/-- The value it writes. -/
def valOf (e : W512) : W := BitVec.ofNat 64 (W512.fld e 32 8)

/-- A value is legal for a feature (R81, R82, R127, R153, R159, R160, R172, R258, R476, R502). -/
def featLegal (f : Nat) (v : W) : Bool :=
  let n := v.toNat
  match f with
  | 1 => nbits n 0 2 != 3 && nbits n 2 6 == 0 && nbits n 9 55 == 0
  | 2 => decide (4 ≤ n) && decide (n ≤ 12)
  | 3 => decide (n < 2)
  | 4 => nbits n 29 35 == 0 &&
      (List.range 4).all (fun b => decide (nbits n (8 * b) 5 ≤ 16) && (b == 3 || nbits n (8 * b + 5) 3 == 0))
  | 5 => decide (n < 3)
  | 6 => decide (10 ≤ nbits n 0 16) && decide (1 ≤ nbits n 16 16) && decide (1 ≤ nbits n 32 8) && decide (1 ≤ nbits n 40 16) &&
      decide (nbits n 40 16 ≤ 50000) && nbits n 56 8 == 0 && decide (nbits n 0 16 < nbits n 16 16 * 1000)
  | 7 => decide (n < 2)
  | 8 => decide (n < 2)
  | 9 => decide (n < 2)
  | 10 => nbits n 32 32 == 0 && nbits n 16 16 != 0
  | _ => false

/-- Orders 2 and 3 of SET_FEATURE (R73). -/
def featFields (e : W512) : Bool :=
  noData e && targetOf e == 0 && zeroIn e 26 32 && zeroIn e 40 56 && featLegal (featOf e) (valOf e)

/-- Acceptance is drained and no granule is charged (R476). -/
def State.drained (s : State) : Bool :=
  ((s.power.state == 2 && s.power.target.isNone) || s.power.quiesced) && s.chans.all (fun c => c.2.charged == 0)

/-- The states in which a change of a feature is accepted. -/
def State.featState (s : State) (f : Nat) (v : W) : Bool :=
  match f with
  | 1 => nbits v.toNat 0 2 == 0 || s.link.pair == 2 || s.link.pair == 3
  | 2 => s.link.pair == 0 && (s.area0.isNone || s.area1.isNone)
  | 4 => v == s.feats.benchSplit || s.drained
  | 9 => v != 0 || s.chans.all (fun c => c.2.notice == 0)
  | _ => true

/-- Orders 1 to 5 of SET_FEATURE. -/
def State.featBad (s : State) (e : W512) : Option Nat :=
  firstBad [(featFields e, stField), (s.featState (featOf e) (valOf e), stState)]

/-- A feature's value set (R73). -/
def Feats.set (f : Feats) (n : Nat) (v : W) : Feats :=
  match n with
  | 1 => { f with journalMode := v }
  | 2 => { f with journalSplit := v }
  | 3 => { f with sealAlg := v }
  | 4 => { f with benchSplit := v }
  | 5 => { f with coreClock := v }
  | 6 => { f with timeQuality := v }
  | 7 => { f with unsync := v }
  | 8 => { f with tdes := v }
  | 9 => { f with notices := v }
  | _ => { f with moderation := v }

/-- JOURNAL_MODE takes effect (R37, R159): MODE 0 ends a pairing or a proposal; with a change to paired-strict what was
durable stays so. -/
def State.setJournalMode (s : State) (v : W) (jsn : Nat) : State :=
  let old := s.jMode
  let s := { s with feats := s.feats.set 1 v }
  if nbits v.toNat 0 2 = 0 then
    if s.link.pair = 2 ∨ s.link.pair = 3 then (s.sendPair 4 0 s.ownNow s.link.twinSerial []).goSolo 2
    else if s.link.pair = 0 ∧ s.link.prop = none then s
    else s.goSolo 2
  else if nbits v.toNat 0 2 = 1 ∧ old = 2 then s.modPrimaries (fun x => { x with durableTo := min (x.nextJsn - 1) (jsn - 1) })
  else s.settle

/-- SET_FEATURE takes effect (R73). -/
def effSetFeature : Effect := fun s h =>
  let f := featOf h.entry
  let v := valOf h.entry
  if f = 1 then (s.setJournalMode v h.jsn, 0, 0)
  else
    let moved : Bool := f == 5 && s.feats.coreClock != v
    let s := { s with feats := s.feats.set f v }
    let s := if moved then { s with power := { s.power with clkChange := true } } else s
    (if f = 6 ∨ f = 7 then s.judge.settle else s, 0, 0)

/-! ### SET_TIME -/

/-- SOURCE of SET_TIME (R117). -/
def sourceOf (e : W512) : Nat := W512.fld e 24 1

/-- Orders 2 and 3 of SET_TIME (R117). -/
def setTimeFields (e : W512) : Bool :=
  noData e && targetOf e == 0 && decide (sourceOf e < 2) && zeroIn e 25 32 && zeroIn e 40 56 &&
    ((sourceOf e == 0) == (W512.fld e 32 8 != 0))

/-- Orders 1 to 5 of SET_TIME (R117, R118). No frame says what the twin's own source is: whether it is TWIN is free
(log 4). PROPOSED counts as unpaired and CATCH_UP as paired (log 111). -/
def State.setTimeBad (s : State) (e : W512) : Option Nat :=
  let twin : Bool := sourceOf e == 1
  firstBad [(setTimeFields e, stField), (!twin || (decide (2 ≤ s.link.pair) && s.linkUp), stTwin),
    (!twin || !s.freeVal.getLsbD 0, stState)]

/-- SET_TIME takes effect (R119, R122). -/
def effSetTime : Effect := fun s h =>
  let s := s.nextFree
  if sourceOf h.entry = 0 then
    ({ s with time := { s.time with armed := some (W512.fld h.entry 32 8, s.time.ns), await := false } }, 0, 0)
  else ({ s with time := { s.time with armed := none, await := true } }, 0, 0)

/-! ### SET_CALENDAR -/

/-- A packed-BCD date yyyymmdd is a Gregorian date of the years 1 to 9999 (R130). -/
def dateOk (d : Nat) : Bool :=
  let dig (i : Nat) : Nat := nbits d (4 * i) 4
  let y := dig 7 * 1000 + dig 6 * 100 + dig 5 * 10 + dig 4
  let m := dig 3 * 10 + dig 2
  let day := dig 1 * 10 + dig 0
  let leap : Bool := (y % 4 == 0 && y % 100 != 0) || y % 400 == 0
  let last := if m = 2 then (if leap then 29 else 28) else if m = 4 ∨ m = 6 ∨ m = 9 ∨ m = 11 then 30 else 31
  (List.range 8).all (fun i => decide (dig i ≤ 9)) && decide (1 ≤ y) && decide (1 ≤ m) && decide (m ≤ 12) && decide (1 ≤ day) &&
    decide (day ≤ last)

/-- KIND, CLEAR, INDEX and INSTANT of a calendar entry (R129). -/
def calKind (e : Bytes) : Nat := bfld e 0 1
/-- CLEAR. -/
def calClear (e : Bytes) : Bool := bfld e 1 1 == 1
/-- INDEX. -/
def calIndex (e : Bytes) : Nat := bfld e 2 2
/-- INSTANT. -/
def calInstant (e : Bytes) : Nat := bfld e 8 8

/-- A calendar entry's values are legal (R129, R130). -/
def calEntryOk (e : Bytes) : Bool :=
  let k := calKind e
  let arg := bfld e 4 4
  let period := bfld e 16 8
  let limit := if k = 1 then 64 else if k = 2 then 256 else 32
  decide (1 ≤ k) && decide (k ≤ 3) && decide (bfld e 1 1 < 2) && decide (calIndex e < limit) &&
    (if calClear e then allZero (e.drop 4)
      else bfld e 24 8 == 0 &&
        (match k with
          | 1 => dateOk arg && period == 0
          | 2 => decide (arg < 2 ^ 20) && period == 0
          | _ => decide (1000 ≤ arg) && decide (arg ≤ 1000000000) &&
              (period == 0 || (decide (arg ≤ period) && decide (period ≤ 86400000000000)))))

/-- No two entries name the same KIND and INDEX. -/
def distinctKeys : List Nat → Bool
  | [] => true
  | a :: l => !l.contains a && distinctKeys l

/-- Orders 2 and 3 of SET_CALENDAR (R128). -/
def calendarFields (e : W512) : Bool :=
  commonOk e && targetOf e == 0 && zeroIn e 24 56 && dataLenOf e % 32 == 0 && decide (32 ≤ dataLenOf e) &&
    decide (dataLenOf e ≤ 11264)

/-- Order 4 of SET_CALENDAR (R130). -/
def calendarContent (es : List Bytes) : Bool :=
  es.all calEntryOk && distinctKeys (es.map (fun e => calKind e * 65536 + calIndex e))

/-- One calendar entry written or cleared (R128, R129). -/
def Calendar.write (c : Calendar) (e : Bytes) : Calendar :=
  let i := calIndex e
  let clear := calClear e
  match calKind e with
  | 1 => { c with cut := cond clear (terase c.cut i) (tset c.cut i ⟨BitVec.ofNat 32 (bfld e 4 4), calInstant e, 0⟩) }
  | 2 => { c with key := cond clear (terase c.key i) (tset c.key i ⟨bfld e 4 4, calInstant e, 0⟩) }
  | _ =>
    let w : WinEntry := { duration := bfld e 4 4, instant := calInstant e, period := bfld e 16 8 }
    { c with win := cond clear (terase c.win i) (tset c.win i w) }

/-- The INSTANT of the entry that a new one clears or replaces, where that entry is not a periodic window (R130). -/
def Calendar.oldInstant (c : Calendar) (e : Bytes) : Option Nat :=
  let i := calIndex e
  match calKind e with
  | 1 => (tget c.cut i).map (fun x => x.instant)
  | 2 => (tget c.key i).map (fun x => x.instant)
  | _ => (tget c.win i).bind (fun x => if x.period = 0 then some x.instant else none)

/-- Cut-off entries inserted by instant. -/
def insertCut (x : CutEntry) : List CutEntry → List CutEntry
  | [] => [x]
  | y :: ys => if x.instant ≤ y.instant then x :: y :: ys else y :: insertCut x ys

/-- Instants and dates rise strictly, from a date on. -/
def cutsRise : Option Nat → Nat → List CutEntry → Bool
  | _, _, [] => true
  | last, date, x :: xs =>
    last.all (fun t => decide (t < x.instant)) && decide (date < x.date.toNat) && cutsRise (some x.instant) x.date.toNat xs

/-- The cut-off entries that would stand are in order (R130). -/
def State.cutsOk (s : State) (es : List Bytes) : Bool :=
  let c := es.foldl Calendar.write s.cal
  cutsRise none s.bizDate.toNat ((c.cut.map (fun e => e.2)).foldr insertCut [])

/-- Order 5 of SET_CALENDAR but for the comparisons with the stamp (R130). -/
def State.calendarState (s : State) (es : List Bytes) : Bool :=
  es.all (fun e => calKind e != 2 || calClear e || (s.vslot (bfld e 4 4)).st != SlotKeyState.empty) && s.cutsOk es

/-- The comparisons of SET_CALENDAR with the stamp of its record (R130, R535). -/
def State.calendarLate (s : State) (es : List Bytes) : Bool :=
  es.all (fun e => (calClear e || s.laterThanMs (calInstant e)) && (s.cal.oldInstant e).all s.laterThanMs) && s.cutsOk es

/-- The entries of a buffer. -/
def calEntries (e : W512) (data : Option Bytes) : List Bytes := chunks 32 (padTo (dataLenOf e) (data.getD []))

/-- Orders 1 to 5 of SET_CALENDAR. -/
def State.calendarBad (s : State) (e : W512) (data : Option Bytes) : Option Nat :=
  if !calendarFields e then some stField
  else if data.isNone then some stDmaFault
  else firstBad [(calendarContent (calEntries e data), stField), (s.calendarState (calEntries e data), stState)]

/-- SET_CALENDAR takes effect (R128, R130). -/
def effSetCalendar (data : Option Bytes) : Effect := fun s h =>
  ({ s with cal := (calEntries h.entry data).foldl Calendar.write s.cal }, 0, 0)

/-! ### SET_BACKGROUND -/

/-- Period and latest start of an activity by default, in ledger ns (R484); 0 where the table gives none. The hub's SRAM
scrub has a period of its own. -/
def bgDefault (a : Nat) : BgAct :=
  match a with
  | 1 => { period := 3900, latest := 27300 }
  | 2 => { period := 100000000, latest := 50000000 }
  | 3 => { period := 1000000000, latest := 500000000 }
  | 4 => { period := 14600000, latest := 1000000000 }
  | 5 => { period := 11100000, latest := 1000000000 }
  | 6 => { period := 27400000, latest := 1000000000 }
  | 8 => { period := 1000000, latest := 100000 }
  | 9 => { period := 1000000000, latest := 100000000 }
  | _ => { period := 0, latest := 0 }

/-- An activity's settings (R484, R488). -/
def State.bgAct (s : State) (a : Nat) : BgAct := (tget s.bg a).getD (bgDefault a)

/-- The period of an activity on a resource: the SRAM of the hub, resource 4, has its own (R484). -/
def State.periodOf (s : State) (a r : Nat) : Nat := if a = 5 ∧ r = 4 then 19500000 else (s.bgAct a).period

/-- When the unit of an activity and resource falls due (R484, R487): at once where R487 made it due, else one period after
the last; the manual gives no phase, so the first falls due when it runs. -/
def State.unitDue (s : State) (a r : Nat) : Nat :=
  match s.bgDue.find? (fun d => d.act == a && d.res == r) with
  | some d => d.due
  | none => match tget s.bgLast (64 * a + r) with
    | some t => t + s.periodOf a r
    | none => s.time.ns

/-- The latest start of the unit of an activity and resource (R484, R485, R487). -/
def State.unitLatest (s : State) (a r : Nat) : Nat :=
  match s.bgDue.find? (fun d => d.act == a && d.res == r) with
  | some d => d.latest
  | none => s.unitDue a r + (s.bgAct a).latest

/-- The units of some activities that are due, with the latest start they have, held apart from what the activities become
(R488, log 119). -/
def State.keepDue (s : State) (acts : List Nat) : State :=
  let due (p : Nat × Nat) : Option BgDue :=
    let a := p.1 / 64
    let r := p.1 % 64
    if acts.contains a && decide (s.unitDue a r ≤ s.time.ns) && !s.bgDue.any (fun d => d.act == a && d.res == r) then
      some ⟨a, r, s.unitDue a r, s.unitLatest a r⟩ else none
  { s with bgDue := s.bgDue ++ s.bgLast.filterMap due }

/-- A value is 0 or within a range. -/
def zeroOrIn (lo hi n : Nat) : Bool := n == 0 || (decide (lo ≤ n) && decide (n ≤ hi))

/-- An entry of SET_BACKGROUND is legal (R484, R488). -/
def bgEntryOk (e : Bytes) : Bool :=
  let a := bfld e 0 1
  let w := bfld e 2 1
  let p := bfld e 4 4
  let l := bfld e 8 4
  let scrub : Bool := decide (4 ≤ a) && decide (a ≤ 6)
  decide (1 ≤ a) && decide (a ≤ 10) && decide (bfld e 1 1 < 2) &&
    (if bfld e 1 1 = 1 then allZero (e.drop 2)
      else bfld e 3 1 == 0 && bfld e 12 4 == 0 && (decide (w < 32) || w == 0xFF) &&
        (if a = 2 then zeroOrIn 100000 1000000 p && zeroOrIn 1000 (if p = 0 then 100000 else p) l
          else if a = 3 then zeroOrIn 1000000 10000000 p && zeroOrIn 1000 (if p = 0 then 1000000 else p) l
          else if scrub then p == 0 && zeroOrIn 1000 10000000 l
          else p == 0 && l == 0 && w == 0xFF))

/-- The entries of a SET_BACKGROUND buffer. -/
def bgEntries (e : W512) (data : Option Bytes) : List Bytes := chunks 16 (padTo (dataLenOf e) (data.getD []))

/-- Orders 1 to 4 of SET_BACKGROUND (R488). -/
def backgroundBad (e : W512) (data : Option Bytes) : Option Nat :=
  if !(commonOk e && targetOf e == 0 && zeroIn e 24 56 && dataLenOf e % 16 == 0 && decide (16 ≤ dataLenOf e) &&
      decide (dataLenOf e ≤ 160)) then some stField
  else if data.isNone then some stDmaFault
  else firstBad [((bgEntries e data).all bgEntryOk && distinctKeys ((bgEntries e data).map (fun x => bfld x 0 1)), stField)]

/-- One entry of SET_BACKGROUND applied (R488). -/
def bgWrite (t : Tbl BgAct) (e : Bytes) : Tbl BgAct :=
  let a := bfld e 0 1
  let d := bgDefault a
  if bfld e 1 1 = 1 then terase t a
  else tset t a
    { period := if bfld e 4 4 = 0 then d.period else bfld e 4 4 * 1000
      latest := if bfld e 8 4 = 0 then d.latest else bfld e 8 4 * 1000, window := bfld e 2 1 }

/-- SET_BACKGROUND takes effect (R488): units already due keep their latest start. -/
def effSetBackground (data : Option Bytes) : Effect := fun s h =>
  let l := bgEntries h.entry data
  ({ s.keepDue (l.map (fun x => bfld x 0 1)) with bg := l.foldl bgWrite s.bg }, 0, 0)

/-! ### SET_POWER -/

/-- STATE of SET_POWER (R499). -/
def powerOf (e : W512) : Nat := W512.fld e 24 1
/-- The park mask. -/
def parkOf (e : W512) : BitVec 96 := BitVec.ofNat 96 (W512.fld e 28 12)

/-- A core counts as active for the park mask: it is neither deconfigured nor check-stopped (R499). -/
def State.coreInService (s : State) (c : Nat) : Bool := (s.core c).run == .active || (s.core c).run == .parked

/-- A park mask leaves every bench an unparked active core (R499). -/
def State.maskOk (s : State) (mask : BitVec 96) : Bool :=
  (List.range 4).all (fun b => (List.range 24).any (fun i => s.coreInService (24 * b + i) && !mask.getLsbD (24 * b + i)))

/-- Orders 2 and 3 of SET_POWER (R499). -/
def State.powerFields (s : State) (e : W512) : Bool :=
  noData e && targetOf e == 0 && decide (powerOf e < 4) && zeroIn e 25 28 && zeroIn e 40 56 &&
    (if powerOf e = 1 then s.maskOk (parkOf e) else parkOf e == 0)

/-- Order 5 of SET_POWER (R499). -/
def State.powerState (s : State) (e : W512) : Bool :=
  powerOf e != 3 ||
    (s.power.state == 2 && s.power.target.isNone && s.items.all (fun i => i.state == .ended) &&
      s.rings.all (fun r => r.2.queue.isEmpty && r.2.replay.isEmpty) && s.link.pair != 2)

/-- Orders 1 to 5 of SET_POWER. -/
def State.powerBad (s : State) (e : W512) : Option Nat :=
  firstBad [(s.powerFields e, stField), (s.powerState e, stState)]

/-- A core woken; the controller then evaluates (R420). -/
def State.wakeCore (s : State) (c : Nat) : State :=
  if (s.core c).run = .parked then (s.modCore c (fun k => { k with run := .active, parkFrom := none })).evalEvc (benchOf c)
  else s.modCore c (fun k => { k with parkFrom := none })

/-- The park mask of P1 comes into force on one core (R500). -/
def State.maskCore (s : State) (mask : BitVec 96) (c : Nat) : State :=
  if mask.getLsbD c then
    if (s.core c).run = .active ∧ (s.core c).occupied then s.modCore c (fun k => { k with parkFrom := some s.time.ns })
    else s.parkCore c
  else s.wakeCore c

/-- A SEAL record in every primary stream (R170). -/
def State.sealAll (s : State) : State := s.primaries.foldl (fun t st => t.owe (.seal st.id)) s

/-- A transition begins (R499, R500). Out of P3 the cores wake when it ends. -/
def State.beginPower (s : State) (dst : Nat) (mask : BitVec 96) : State :=
  let from_ := s.power.state
  let s := { s with power := { s.power with
    target := some dst, park := mask, quiesced := s.power.quiesced && decide (2 ≤ dst) } }
  if dst = 3 then s.sealAll
  else if dst = 2 ∨ 2 ≤ from_ then s
  else (List.range 96).foldl (fun t c => t.maskCore mask c) s

/-- SET_POWER takes effect. -/
def effSetPower : Effect := fun s h => ((s.beginPower (powerOf h.entry) (parkOf h.entry)).settle, 0, 0)

/-! ### QUIESCE -/

/-- Orders 1 to 3 of QUIESCE (R503). -/
def quiesceBad (e : W512) : Option Nat := firstBad [(noData e && targetOf e == 0 && zeroIn e 24 56, stField)]

/-- QUIESCE takes effect (R111, R170, R503). -/
def effQuiesce : Effect := fun s _ =>
  let s := { s with power := { s.power with quiesced := true } }
  let s := (s.settle.postAll (fun _ => true)).sealAll
  (s, 0, BitVec.ofNat 64 (s.items.filter (fun i => !(i.state == .ended))).length)

/-! ### FW_UPDATE -/

/-- Orders 1 to 6 of FW_UPDATE STAGE, and of a reserved KIND (R496). -/
def State.stageBad (s : State) (e : W512) (data : Option Bytes) : Option Nat :=
  if !(commonOk e && targetOf e == 0 && W512.fld e 24 1 == 0 && zeroIn e 25 56 && decide (1 ≤ dataLenOf e) &&
      decide (dataLenOf e ≤ 16777216)) then some stField
  else match data with
  | none => some stDmaFault
  | some d =>
    let d := padTo (dataLenOf e) d
    let v := (Config.firmwareVersion d).1
    firstBad [(decide (s.fwVersion < v) && decide (s.ident.rollback ≤ v), stState), (Config.firmwareVerifies d, stSignature)]

/-- STAGE takes effect (R496). -/
def effStage (data : Option Bytes) : Effect := fun s h =>
  let d := padTo (dataLenOf h.entry) (data.getD [])
  let v := Config.firmwareVersion d
  let slot : FwSlot := ⟨v.1, v.2, true⟩
  ({ s with ident := { s.ident with
    fwStaged := some slot, fwSlots := s.ident.fwSlots.set (1 - s.ident.fwRunning) slot } }, 0, 0)

/-- Orders 1 to 5 of FW_UPDATE ACTIVATE (R496). -/
def State.activateFwBad (s : State) (e : W512) : Option Nat :=
  firstBad [(noData e && targetOf e == 0 && zeroIn e 25 56, stField), (s.ident.fwStaged.isSome, stState)]

/-- ACTIVATE takes effect: the switch begins (R497). -/
def effActivateFw (p : Nat) : Effect := fun s _ => ({ s with power := { s.power with fwSwitch := some p } }, 0, 0)

/-! ### PAIR_TWIN -/

/-- MODE of PAIR_TWIN. -/
def pairMode (e : W512) : Nat := W512.fld e 24 1
/-- TWIN_SERIAL. -/
def pairTwinOf (e : W512) : Nat := W512.fld e 32 8

/-- The package is the joining one: it holds no stream and its twin two as primary (R192). -/
def State.joining (s : State) : Bool := s.primaries.isEmpty && s.twinPrimaries.length == 2

/-- OWN of this package in a pairing (R160, R192). -/
def State.pairOwn (s : State) : Nat :=
  if s.joining then 16 - s.link.twin.own else if s.area1Used && s.primaries.length == 2 then s.ownInForce
  else nbits s.feats.journalSplit.toNat 0 4

/-- Bytes of the records of a stream that have not retired. -/
def State.liveBytes (s : State) (st : Stream) : Nat := (s.kept st).foldl (fun n r => n + r.size) 0

/-- Order 5 of PAIR_TWIN but for the link (R192). -/
def State.pairState (s : State) (e : W512) : Bool :=
  let own := s.pairOwn
  s.link.pair == 0 && s.link.twin.serial == pairTwinOf e &&
    (s.primaries.isEmpty || s.twinPrimaries.isEmpty || own + s.link.twin.own == 16) &&
    (s.primaries.length != 1 || s.primaries.all (fun st => decide (4 * s.liveBytes st ≤ 3 * (own * 0x20000000))))

/-- Orders 1 to 5 of PAIR_TWIN (R192). -/
def State.pairBad (s : State) (e : W512) : Option Nat :=
  firstBad [(noData e && targetOf e == 0 && (pairMode e == 1 || pairMode e == 2) && zeroIn e 25 32 && decide (pairTwinOf e < 2 ^ 48) &&
      zeroIn e 40 56, stField), (s.linkUp, stTwin), (s.pairState e, stState)]

/-- PAIR_TWIN takes effect (R158, R192, R194). -/
def effPairTwin : Effect := fun s h => (s.startPairing (pairMode h.entry) (pairTwinOf h.entry) s.pairOwn, 0, 0)

end Sys2Proof.Machine
end

