-- ==== Sys2Proof/Machine/Adopt.lean ====
section
/-!
DEFINITION. ADOPT_CHANNELS (R199 to R202): its checks, and the adoption of a mirrored stream: the ADOPT record, and the
channels, rings, dialogues, items and replays rebuilt from the mirror's records (R109, R152, R167, R201, R204).
-/

namespace Sys2Proof.Machine

/-! ### What the records of a stream say of items -/

/-- The records of a stream in rising JSN. -/
def Stream.records (st : Stream) : List Record := (st.log.map (fun e => e.record)).foldr insertJsn []

/-- Where a record of an item holds RUN (R166). -/
def Record.run (r : Record) : Nat := if r.rtype = 4 ∨ r.rtype = 5 then r.tfld 36 2 else r.tfld 34 2

/-- The DONE record of an item. -/
def doneOf (rs : List Record) (item : Nat) : Option Record := rs.find? (fun r => r.rtype == 3 && r.itemJsn == item)

/-- The next run of an item without a DONE record: one more than the highest RUN of its records, or 1 (R167). -/
def nextRun (rs : List Record) (item : Nat) : Nat :=
  1 + (rs.filter (fun r => r.itemJsn == item && (r.rtype == 2 || r.rtype == 4 || r.rtype == 5))).foldl (fun m r => max m r.run) 0

/-- The valid EGRESS records of an item whose DONE record is OK (R167). -/
def emitsOf (rs : List Record) (item run : Nat) : List Emit :=
  (rs.filter (fun r => r.rtype == 2 && r.itemJsn == item && r.run == run)).map (fun r =>
    { idx := r.tfld 36 4, ch := r.channel, jsn := r.jsn, len := r.body.length, win := 0, granules := 0 })

/-- An item with what its DONE record says, where it has one. -/
def Item.withDone (i : Item) (rs : List Record) : Item :=
  match doneOf rs i.jsn with
  | none => { i with run := nextRun rs i.jsn }
  | some d =>
    let status := d.tfld 32 2
    { i with
      run := d.run, state := .ended, status := status, result := BitVec.ofNat 32 (d.tfld 36 4), endJsn := d.jsn
      emits := if status = 0 then emitsOf rs i.jsn d.run else [] }

/-- The item of an ACCEPT or EXPIRY record of an adopted stream (R151, R166). -/
def State.itemOf (s : State) (st : Stream) (rs : List Record) (r : Record) : Item :=
  let prog := ((s.chan r.channel).map (fun c => c.program)).getD 0
  let msg : Bool := r.rtype == 1
  let ctx := W512.ofBytes (r.body.take 64)
  Item.withDone
    { stream := st.id, jsn := r.jsn, kind := if msg then .message else .expiry, channel := r.channel, stamp := r.stamp
      deadline := r.tfld 40 8
      orderKey := BitVec.ofNat 64 (if msg then bfld r.body 0 8 else W512.fld ctx 32 8)
      progArg := BitVec.ofNat 64 (if msg then bfld r.body 8 8 else 0)
      userTag := BitVec.ofNat 64 (if msg then r.tfld 48 8 else 0)
      idx := BitVec.ofNat 32 (if msg then r.tfld 32 4 else 0), date := BitVec.ofNat 32 (r.tfld 36 4), adopted := true
      len := if msg then r.body.length - 16 else 64, win := 0, granules := 0
      handle := BitVec.ofNat 32 (if msg then 0 else r.tfld 32 4), openJsn := if msg then 0 else r.tfld 48 8
      context := if msg then 0 else ctx, program := prog, gen := (s.genAt prog r.stamp).map (fun g => g.gen)
      flags := if msg then r.tfld 56 1 else 0 } rs

/-! ### Dialogues -/

/-- A record of a run is valid: the item's DONE record is OK with the same RUN; the valid ones alone are still there once
the item's own records have gone (R167, R174). -/
def validRun (rs : List Record) (r : Record) : Bool :=
  match doneOf rs r.itemJsn with
  | some d => d.tfld 32 2 == 0 && d.run == r.run
  | none => !(rs.any (fun x => x.jsn == r.itemJsn))

/-- A dialogue opened by a record is over: validly closed, or expired (R144). -/
def dialogueOver (rs : List Record) (jsn : Nat) : Bool :=
  rs.any (fun r => (r.rtype == 5 && r.tfld 40 8 == jsn && validRun rs r) || (r.rtype == 6 && r.tfld 48 8 == jsn))

/-- The lowest free context of the adoption area, which has 1,048,576 (R152). -/
def State.freeAdopted (s : State) : Option Nat :=
  let used := (s.dialogues.filter (fun d => d.adopted)).map (fun d => d.handle.toNat % 2 ^ 20)
  ((List.range (used.length + 1)).find? (fun i => !used.contains i)).filter (fun i => decide (i < 2 ^ 20))

/-- A dialogue put into the adoption area under a new handle, Open (R143, R152). One past the area's last context is not
rebuilt (log 101). -/
def State.rebuildDialogue (s : State) (d : Dialogue) : State :=
  match s.freeAdopted with
  | none => s
  | some idx =>
  let key := idx + 2 ^ 20
  let inc := ((tget s.incarn key).getD 0) % 2047 + 1
  let x : Dialogue := { d with handle := BitVec.ofNat 32 (key + inc * 2 ^ 21), state := .open_, adopted := true }
  { s with dialogues := s.dialogues ++ [x], incarn := tset s.incarn key inc }

/-- The dialogue of a DIALOGUE_OPEN record (R142, R166). -/
def dialogueOf (id : Nat) (r : Record) : Dialogue :=
  let ctx := W512.ofBytes (r.body.take 64)
  { stream := id, handle := BitVec.ofNat 32 (r.tfld 32 4), openJsn := r.jsn, opener := r.itemJsn, context := ctx
    expiry := W512.fld ctx 16 8, budget := W512.fld ctx 24 4, channel := W512.fld ctx 28 2
    key := BitVec.ofNat 128 (W512.fld ctx 0 16), state := .open_ }

/-- The dialogues of a stream rebuilt from its records (R152). -/
def State.rebuildDialogues (s : State) (id : Nat) (rs : List Record) : State :=
  (rs.filter (fun r => r.rtype == 4 && validRun rs r && !dialogueOver rs r.jsn)).foldl
    (fun t r => t.rebuildDialogue (dialogueOf id r)) s

/-! ### Replays -/

/-- Items in the order in which their completions are released: by DONE record, each once the earlier items of its domain
are through (R33, R101, R109). -/
def replayOrder (ready : Item → List Nat → Bool) : Nat → List Item → List Nat → List Item
  | 0, _, _ => []
  | n + 1, todo, past =>
    match todo.find? (fun i => ready i past) with
    | none => []
    | some i => i :: replayOrder ready n (todo.filter (fun x => x.jsn != i.jsn)) (i.jsn :: past)

/-- Items inserted by the JSN of their DONE records. -/
def insertEnd (i : Item) : List Item → List Item
  | [] => [i]
  | x :: xs => if i.endJsn ≤ x.endJsn then i :: x :: xs else x :: insertEnd i xs

/-- The ended items of a stream in the order of release. -/
def State.released (s : State) (id : Nat) : List Item :=
  let ended := (s.items.filter (fun i => i.stream == id && i.state == .ended && !i.donePosted)).foldr insertEnd []
  let local_ (i : Item) : Bool := i.emits.all (fun e => (s.chan e.ch).any (fun c => c.stream == id))
  replayOrder (fun i past => local_ i && (s.earlier i).all (fun j => j.donePosted || past.contains j.jsn)) ended.length ended []

/-- The completions of an item released to their rings: its messages without buffers, and its IN_DONE (R109). Which of them are
delivered the recovery of the ring settles (R107). -/
def State.releaseItem (s : State) (i : Item) : State :=
  let s := i.emits.foldl (fun t e => t.releaseOn e.ch
    { kind := 2, status := 1, channel := e.ch, jsn := e.jsn, body := entryBody 0 e.len i.channel
      item := some (i.stream, i.jsn), egress := (i.stream, e.jsn) }) s
  let s := s.modItem i.stream i.jsn (fun x => { x with donePosted := true })
  if i.kind == .expiry && i.status == 0 then s else s.releaseOn i.channel (doneEntry i)

/-! ### Rebuilding -/

/-- The channels and rings of a stream rebuilt (R201). Rings wait for their recovery. -/
def State.rebuildRings (s : State) (st : Stream) : State :=
  let b := st.built
  let s := b.rings.foldl (fun t r =>
    { t with rings := tset t.rings r.1 { r.2 with stream := st.id, recovering := some 4 } }) s
  b.chans.foldl (fun t c =>
    let n := st.copyConsumed c.1
    let x := c.2.carry ((tget t.closedChans c.1).getD {})
    { t with
      chans := tset t.chans c.1 { x with
        stream := st.id, consumed := n, doorbell := n, lastAccept := ((tget st.accepts c.1).map (fun a => a.1)).getD 0
        lastDone := (tget st.dones c.1).getD 0 }
      closedChans := terase t.closedChans c.1 }) s

/-- How many completions the records gave each ring of a stream (R109, R201). -/
def State.countReplays (s : State) (id : Nat) : State :=
  { s with rings := s.rings.map (fun r => if r.2.stream = id then (r.1, { r.2 with fromLog := r.2.queue.length }) else r) }

/-- The rings of a stream whose ports can be written are recovered (R109, R201). -/
def State.recoverRings (s : State) (id : Nat) (heads : List (Nat × Option W)) : State :=
  (s.rings.filter (fun r => r.2.stream == id)).foldl (fun t r =>
    if t.mayWriteFor r.2.port id then t.recoverRing r.1 4 (headOf heads r.1) else t) s

/-- The doorbell groups of a stream's channels are live (R201). -/
def State.wakeGroups (s : State) (id : Nat) : State :=
  (List.range 64).foldl (fun t g => if (t.groupChans g).any (fun c => c.2.stream == id) then t.disarm g else t) s

/-- Everything of an adopted stream rebuilt from its records up to L (R152, R201, R204, R212). -/
def State.rebuild (s : State) (st : Stream) (rs : List Record) : State :=
  let s := st.cfg.foldl State.learnProgram s
  let s := s.rebuildRings st
  let items := (rs.filter (fun r => r.rtype == 1 || r.rtype == 6)).map (s.itemOf st rs)
  let s := { s with items := s.items ++ items }
  let s := s.rebuildDialogues st.id rs
  let s := ((s.released st.id).foldl State.releaseItem s).countReplays st.id
  s.placeItems.wakeGroups st.id

/-! ### Adoption -/

/-- The last SEAL record of a list. -/
def lastSeal (rs : List Record) : Nat × Nat :=
  rs.foldl (fun m r => if r.rtype = 9 then (r.jsn, r.tfld 32 8) else m) (0, 0)

/-- A mirror becomes a primary stream that is complete to L (R201). -/
def State.takeStream (s : State) (st : Stream) (l kind : Nat) : Stream :=
  let log := st.log.filter (fun e => decide (e.record.jsn ≤ l))
  let sl := lastSeal ({ st with log := log } : Stream).records
  { st with
    role := .primary, serial := s.ident.serial.toNat, adoption := st.adoption + 1, nextJsn := l + 1, log := log
    cfg := st.cfg.filter (fun r => decide (r.jsn ≤ l)), frags := [], durableTo := 0, released := none
    staged := if kind = 0 then 0 else l
    lastMirrored := if kind = 0 then l else 0, sealCount := sl.2, lastSealJsn := sl.1, lastSealAt := s.time.ns
    ckptAt := s.time.ns }

/-- The body of an ADOPT record (R199). -/
def State.adoptBody (s : State) (st : Stream) (l kind : Nat) : Bytes :=
  leBytes 8 st.id ++ leBytes 8 s.ident.serial.toNat ++ leBytes 8 l ++ leBytes 4 (st.adoption + 1) ++ leBytes 1 kind ++
    leBytes 3 0 ++ leBytes 8 st.serial ++ leBytes 24 0

/-- The stream an ADOPT_CHANNELS names, and its KIND (R199). -/
def adoptStreamOf (e : W512) : Nat := W512.fld e 32 8
/-- KIND: 0 FAILED, 1 PLANNED. -/
def adoptKind (e : W512) : Nat := W512.fld e 24 1

/-- Steps 2 to 6 of R201: the mirror becomes primary, ADOPT, CONFIG and SEAL are appended, the stream is rebuilt and its
rings recovered where `heads` gives reads of their head words; the others wait for their next read. The answer is the JSN of the
CONFIG record. -/
def State.adopt (s : State) (p : Nat) (e : W512) (a : Nat) (st : Stream) (l : Nat) (heads : Option (List (Nat × Option W))) : State × Nat :=
  let kind := adoptKind e
  let new := s.takeStream st l kind
  let s := (s.setArea a (some new)).spaceEvent s.spaceClass
  let s := s.appendRaw st.id 10 chNone 0 0 (s.adoptBody st l kind)
  let s := s.raiseAll 36 ((st.adoption + 1) % 2 ^ 24)
  let jsn := s.nextJsn st.id
  let s := (s.appendCmd st.id p chNone e []).sealNow st.id
  let s := s.rebuild new new.records
  let s := match heads with
    | none => s
    | some hs => s.recoverRings st.id hs
  (s.missPassed.settle, jsn)

/-- Orders 2 and 3 of ADOPT_CHANNELS (R199). -/
def adoptFields (e : W512) : Bool :=
  noData e && targetOf e == 0 && decide (adoptKind e < 2) && zeroIn e 25 32 && zeroIn e 40 56

/-- Order 5 of ADOPT_CHANNELS (R199). -/
def State.adoptState (s : State) (e : W512) : Bool :=
  (s.stream (adoptStreamOf e)).any (fun st => st.role == .mirror) && decide (3 ≤ s.link.pair) && decide (s.link.pair ≤ 5) &&
    (if adoptKind e = 0 then !s.linkUp && decide (s.link.downAt + 100000 ≤ s.time.ns) else s.link.pair == 3)

/-- Orders 1 to 5 of ADOPT_CHANNELS. -/
def State.adoptBad (s : State) (e : W512) : Option Nat :=
  firstBad [(adoptFields e, stField), (s.adoptState e, stState)]

/-- Room in the log and in staging for the ADOPT, CONFIG and SEAL records of an adoption: 128, 128 and at most 3,712 bytes
(R161). -/
def Stream.adoptRoom (st : Stream) : Bool := decide (st.used + 3968 < st.logSz) && decide (st.stagedBytes + 3968 ≤ 0x800000)

/-- A failed-twin adoption (R201). The package goes to SOLO first; the mirror adopted is kept. -/
def State.adoptFailed (s : State) (p : Nat) (e : W512) (heads : List (Nat × Option W)) : State :=
  match s.adoptBad e with
  | some st => s.rejectCmd p e st
  | none =>
    match s.areaOf (adoptStreamOf e), s.stream (adoptStreamOf e) with
    | some a, some st =>
      if !st.adoptRoom then s
      else
        let kept : Stream := { st with role := .superseded }
        let s := ((s.setArea a (some kept)).goSolo 2).openSlot
        let r := s.adopt p e a st st.rxStaged (some heads)
        r.1.finish p e 0 r.2 0
    | _, _ => s

/-- A planned adoption asks the holder for the release (R202). -/
def State.adoptPlanned (s : State) (p : Nat) (e : W512) : State :=
  match s.adoptBad e with
  | some st => s.rejectCmd p e st
  | none =>
    if s.link.adopting.isSome then s
    else
      let id := adoptStreamOf e
      let n := ((s.stream id).map (fun st => st.adoption)).getD 0
      { s with link := { s.link with adopting := some (id, p) } }.sendFence 1 id n 0

/-- A planned adoption is completed by the holder's RELEASED at a JSN (R202): the package stays PAIRED, and its records of
the stream go to the twin from then on. -/
def State.adoptReleased (s : State) (id jsn : Nat) : State :=
  match s.link.adopting, s.areaOf id, s.stream id with
  | some (want, p), some a, some st =>
    match (s.port p).acur with
    | none => s
    | some e =>
      if want ≠ id ∨ st.role ≠ .mirror ∨ !st.adoptRoom then s
      else
        let s := { s with link := { s.link with adopting := none } }.openSlot
        let r := s.adopt p e a st jsn none
        let s := r.1.sendFence 3 id (st.adoption + 1) (jsn + 1)
        if s.durable id r.2 then s.finish p e 0 r.2 0
        else s.modPort p (fun x => { x with acur := none, aheld := some ⟨.adoptPlanned p, e, id, r.2⟩ })
  | _, _, _ => s

end Sys2Proof.Machine
end

