-- ==== Sys2Proof/Machine/AdminExec.lean ====
section
/-!
DEFINITION. The admin commands that change state (R65, R71): each row's checks, its CONFIG record and its effect, and the
commands that wait until their record is durable (R37, R65).
-/

namespace Sys2Proof.Machine

/-! ### Commands held -/

/-- No further effect: the command has taken effect at its append. -/
def effNone : Effect := fun s _ => (s, 0, 0)

/-- What a held command still does once its record is durable (R65). A command that takes effect at its CONFIG record has taken
it (R49, R73, R128, R251, R488, log 34). -/
def adminEffect (h : AdminHeld) : Effect :=
  match h.cmd with
  | .setFeature _ => effNone
  | .createCq _ => effCreateCq
  | .deleteCq _ => effDeleteCq
  | .openChannel _ => effOpenChannel
  | .closeChannel _ _ => effCloseChannel
  | .bindPort _ _ => effNone
  | .loadProgram _ data codeAt dataAt => effLoadProgram data codeAt dataAt
  | .activateProgram _ => effActivateProgram
  | .loadMicrocode _ data => effLoadMicrocode data
  | .registerKey _ data => effRegisterKey data
  | .importKey _ _ => effNone
  | .issueToken p _ wrOk => effIssueToken p wrOk
  | .revokeSlot p _ wrOk => effDeliverRoot p wrOk
  | .setTime _ => effSetTime
  | .setCalendar _ _ => effNone
  | .setPower _ => effSetPower
  | .quiesce _ => effQuiesce
  | .pairTwin _ => effPairTwin
  | .setBackground _ _ => effNone
  | .fwUpdateStage _ data => effStage data
  | .fwUpdateActivate p => effActivateFw p
  | _ => effNone

/-- A held command of one port takes effect and ends where its record is durable (R65). -/
def State.settlePort (s : State) (p : Nat) : State :=
  match (s.port p).aheld with
  | none => s
  | some h =>
    if !s.durable h.stream h.jsn || (isActivate h.entry && s.power.fwSwitch.isSome) then s
    else s.takeEffect p h (adminEffect h)

/-- Held commands whose records have become durable, and what else that makes possible. -/
def State.settleAll (s : State) : State := ((s.settle.settlePort 0).settlePort 1)

/-- A command that changes state: orders 1 to 7 of R69 as given, then the rest. -/
def State.runChange (s : State) (p : Nat) (bad : Option Nat) (c : Change) (late : State → Bool) (eff : Effect) : State :=
  match bad with
  | some st => s.rejectCmd p c.entry st
  | none => s.change p c late eff

/-! ### Features, rings and channels -/

/-- SET_FEATURE (R73): it takes effect at its CONFIG record. -/
def execSetFeature (p : Nat) (s : State) : Out3 :=
  adminRow p (isOp 0x03) s (fun s e =>
    (s.runChange p (s.featBad e) { cmd := .setFeature p, entry := e, atOnce := true } noLate effSetFeature).settleAll)

/-- CREATE_CQ (R74). -/
def execCreateCq (p : Nat) (s : State) : Out3 :=
  adminRow p (isOp 0x10) s (fun s e =>
    s.runChange p (s.createCqBad e) { cmd := .createCq p, entry := e, epoch := s.homeActs } noLate effCreateCq)

/-- DELETE_CQ (R76). -/
def execDeleteCq (p : Nat) (s : State) : Out3 :=
  adminRow p (isOp 0x11) s (fun s e =>
    let n := targetOf e
    s.runChange p (s.deleteCqBad e) { cmd := .deleteCq p, entry := e, stream := s.ringStream n, epoch := s.ringActs n }
      noLate effDeleteCq)

/-- OPEN_CHANNEL (R77). -/
def execOpenChannel (p : Nat) (s : State) : Out3 :=
  adminRow p (isOp 0x12) s (fun s e =>
    s.runChange p (s.openChannelBad e)
      { cmd := .openChannel p, entry := e, channel := targetOf e, epoch := s.homeActs && s.ringActs (W512.fld e 42 2) }
      noLate effOpenChannel)

/-- CLOSE_CHANNEL (R80). -/
def execCloseChannel (p : Nat) (word : Option W) (s : State) : Out3 :=
  adminRow p (isOp 0x13) s (fun s e =>
    let n := targetOf e
    s.runChange p (s.closeChannelBad e word)
      { cmd := .closeChannel p word, entry := e, stream := (s.chan n).map (fun x => x.stream), channel := n, epoch := s.chanActs n }
      noLate effCloseChannel)

/-- BIND_PORT (R49). -/
def execBindPort (p : Nat) (head : Option W) (s : State) : Out3 :=
  adminRow p (isOp 0x14) s (fun s e =>
    let n := targetOf e
    s.runChange p (s.bindPortBad e) { cmd := .bindPort p head, entry := e, stream := s.ringStream n, epoch := s.ringActs n, atOnce := true }
      noLate (effBindPort head))

/-! ### Programs and microcode -/

/-- Orders 1 to 5 of LOAD_PROGRAM (R205, R206, R212). -/
def State.loadProgramBad (s : State) (e : W512) (data : Option Bytes) : Option Nat :=
  if !loadProgramFields e then some stField
  else match data with
  | none => some stDmaFault
  | some d => firstBad [(s.loadProgramState e (Config.sha256 (padTo (dataLenOf e) d)), stState)]

/-- LOAD_PROGRAM (R205): the places of the code and of a new data area are the device's choice, as the command gives them;
it waits while they are not free. -/
def execLoadProgram (p : Nat) (data : Option Bytes) (codeAt dataAt : Nat) (s : State) : Out3 :=
  adminRow p (isOp 0x20) s (fun s e =>
    let data := s.dataIn p data
    match s.loadProgramBad e data with
    | some st => s.rejectCmd p e st
    | none =>
      if !s.placeOk e codeAt dataAt then s
      else s.change p { cmd := .loadProgram p data codeAt dataAt, entry := e, data := data.getD [] } noLate
        (effLoadProgram data codeAt dataAt))

/-- ACTIVATE_PROGRAM (R208, R535). -/
def execActivateProgram (p : Nat) (s : State) : Out3 :=
  adminRow p (isOp 0x21) s (fun s e =>
    s.runChange p (firstBad [(activateFields e, stField), (s.activateState e, stState)]) { cmd := .activateProgram p, entry := e }
      (fun t => t.laterThanMs (W512.fld e 32 8)) effActivateProgram)

/-- LOAD_MICROCODE of KIND LOAD, and of a reserved KIND (R460). -/
def execLoadMicrocode (p : Nat) (data : Option Bytes) (s : State) : Out3 :=
  adminRow p (fun e => isOp 0x22 e && ucodeKind e != 1) s (fun s e =>
    let data := s.dataIn p data
    s.runChange p (s.ucodeBad e data) { cmd := .loadMicrocode p data, entry := e, data := data.getD [] } noLate
      (effLoadMicrocode data))

/-- LOAD_MICROCODE of KIND REGISTER_KEY (R459). -/
def execRegisterKey (p : Nat) (data : Option Bytes) (s : State) : Out3 :=
  adminRow p (fun e => isOp 0x22 e && ucodeKind e == 1) s (fun s e =>
    let data := s.dataIn p data
    s.runChange p (s.registerBad e data) { cmd := .registerKey p data, entry := e, data := data.getD [] } noLate
      (effRegisterKey data))

/-! ### Keys and tokens -/

/-- IMPORT_KEY (R252). -/
def execImportKey (p : Nat) (data : Option Bytes) (s : State) : Out3 :=
  adminRow p (isOp 0x30) s (fun s e =>
    let data := s.dataIn p data
    s.runChange p (s.importBad e data) { cmd := .importKey p data, entry := e, data := data.getD [], atOnce := true } noLate
      (effImportKey data))

/-- ISSUE_TOKEN (R256). -/
def execIssueToken (p : Nat) (data : Option Bytes) (wrOk : Bool) (s : State) : Out3 :=
  adminRow p (isOp 0x31) s (fun s e =>
    let data := s.dataIn p data
    s.runChange p (s.issueBad e data) { cmd := .issueToken p data wrOk, entry := e, data := data.getD [] } noLate
      (effIssueToken p wrOk))

/-- REVOKE_SLOT (R257). -/
def execRevokeSlot (p : Nat) (data : Option Bytes) (wrOk : Bool) (s : State) : Out3 :=
  adminRow p (isOp 0x32) s (fun s e =>
    let data := s.dataIn p data
    s.runChange p (s.revokeBad e data) { cmd := .revokeSlot p data wrOk, entry := e, data := data.getD [], atOnce := true } noLate
      (effRevokeSlot p wrOk))

/-! ### Time, power and service -/

/-- SET_TIME (R117). -/
def execSetTime (p : Nat) (s : State) : Out3 :=
  adminRow p (isOp 0x40) s (fun s e => s.runChange p (s.setTimeBad e) { cmd := .setTime p, entry := e } noLate effSetTime)

/-- SET_CALENDAR (R128, R535). -/
def execSetCalendar (p : Nat) (data : Option Bytes) (s : State) : Out3 :=
  adminRow p (isOp 0x41) s (fun s e =>
    let data := s.dataIn p data
    s.runChange p (s.calendarBad e data) { cmd := .setCalendar p data, entry := e, data := data.getD [], atOnce := true }
      (fun t => t.calendarLate (calEntries e data)) (effSetCalendar data))

/-- SET_POWER (R499). -/
def execSetPower (p : Nat) (s : State) : Out3 :=
  adminRow p (isOp 0x50) s (fun s e => s.runChange p (s.powerBad e) { cmd := .setPower p, entry := e } noLate effSetPower)

/-- QUIESCE (R503). -/
def execQuiesce (p : Nat) (s : State) : Out3 :=
  adminRow p (isOp 0x51) s (fun s e => s.runChange p (quiesceBad e) { cmd := .quiesce p, entry := e } noLate effQuiesce)

/-- SET_BACKGROUND (R488). -/
def execSetBackground (p : Nat) (data : Option Bytes) (s : State) : Out3 :=
  adminRow p (isOp 0x80) s (fun s e =>
    let data := s.dataIn p data
    s.runChange p (backgroundBad e data) { cmd := .setBackground p data, entry := e, data := data.getD [], atOnce := true } noLate
      (effSetBackground data))

/-- FW_UPDATE of KIND STAGE, and of a reserved KIND (R496). -/
def execFwUpdateStage (p : Nat) (data : Option Bytes) (s : State) : Out3 :=
  adminRow p (fun e => isOp 0x90 e && W512.fld e 24 1 != 1) s (fun s e =>
    let data := s.dataIn p data
    s.runChange p (s.stageBad e data) { cmd := .fwUpdateStage p data, entry := e, data := data.getD [] } noLate (effStage data))

/-- FW_UPDATE of KIND ACTIVATE (R496, R497). -/
def execFwUpdateActivate (p : Nat) (s : State) : Out3 :=
  adminRow p isActivate s (fun s e =>
    s.runChange p (s.activateFwBad e) { cmd := .fwUpdateActivate p, entry := e } noLate (effActivateFw p))

/-! ### Pairing and adoption -/

/-- A joining package's PAIR_TWIN (R192): it appends nothing, and waits for the twin's CONFIG record. -/
def State.join (s : State) (p : Nat) (e : W512) : State :=
  let s := s.modPort p (fun x => { x with acur := none, aheld := some ⟨.pairTwin p, e, 0, 0⟩ })
  { s with link := { s.link with joins := some p } }.startPairing (pairMode e) (pairTwinOf e) s.pairOwn

/-- PAIR_TWIN (R192). -/
def execPairTwin (p : Nat) (s : State) : Out3 :=
  adminRow p (isOp 0x60) s (fun s e =>
    match s.pairBad e with
    | some st => s.rejectCmd p e st
    | none =>
      if s.joining then s.join p e else s.change p { cmd := .pairTwin p, entry := e } noLate effPairTwin)

/-- ADOPT_CHANNELS of KIND FAILED, and of a reserved KIND (R201). -/
def execAdoptFailed (p : Nat) (heads : List (Nat × Option W)) (s : State) : Out3 :=
  adminRow p (fun e => isOp 0x61 e && adoptKind e != 1) s (fun s e => (s.adoptFailed p e heads).settleAll)

/-- ADOPT_CHANNELS of KIND PLANNED (R202). -/
def execAdoptPlanned (p : Nat) (s : State) : Out3 :=
  adminRow p (fun e => isOp 0x61 e && adoptKind e == 1) s (fun s e => s.adoptPlanned p e)

end Sys2Proof.Machine
end

