-- ==== Sys2Proof/Machine/WorkInstr.lean ====
section
/-!
DEFINITION. The work instructions TAKE, POST, EMIT, OPEN, MATCH, CLOSE, EWAIT and YIELD (R216 to R235).
-/

namespace Sys2Proof.Machine

/-- The decoding of a work or engine instruction: a delivery point (R351), which writes FL (R224). -/
def fmtWorkAt (minLevel : Nat) (px : List Pfx) : Desc := { fmtFC 2 [] minLevel px with delivers := true, fl := true }

/-- The decoding of a work instruction of task level: at another level its opcode is undefined (R224, R225). -/
def fmtWork (s : State) (c : Nat) (px : List Pfx) : Desc :=
  { fmtWorkAt 0 px with undef := if (s.core c).level = 0 then none else some 2 }

/-- A status in G0, and Z of it (R224). -/
def Core.status (k : Core) (v : Nat) : Core := (k.wg 0 (BitVec.ofNat 64 v)).setZ (v == 0)

/-- An instruction that returns a status. -/
def State.giveStatus (s : State) (c v : Nat) : Eff := .next (s.modCore c (fun k => k.status v))

/-- An instruction that returns a status and a handle. -/
def State.giveHandle (s : State) (c v h : Nat) : Eff :=
  .next (s.modCore c (fun k => (k.wg 1 (BitVec.ofNat 64 h)).status v))

/-- An instruction that waits, and for what (R406). -/
def State.hold (s : State) (c : Nat) (w : CoreWait) : Eff := .wait (s.modCore c (fun k => { k with wait := w }))

/-- Whose accesses an instruction's operand areas are. -/
def ownWho (c : Nat) (k : Core) : Who := { core := c, key := k.key, level := k.level }

/-- The status an ended item's instructions return; `none` within for an ending after which they are refused (R234). -/
def Item.endedStatus (i : Item) : Option (Option Nat) :=
  if i.state == .ended then some (if i.status = stMissed ∨ i.status = stUnsync then some i.status else none) else none

/-- A work instruction of an item, once its operands have passed: what is due comes first, then the rules for an ended
item (R234), then the effect. -/
def State.onItem (s : State) (c : Nat) (ended : State → Nat → Eff) (f : State → Item → Eff) : Eff :=
  let s := s.openSlot
  match s.runningItem c with
  | none => .exc Exn.reserved
  | some i =>
    match i.endedStatus with
    | some (some st) => ended s st
    | some none => .exc Exn.reserved
    | none => f s i

/-- The slot a core runs is ENDED (R218). -/
def State.slotEnded (s : State) (c : Nat) : State :=
  s.modCore c (fun k => match k.runningSlot with
    | none => k
    | some i => k.wslot i { k.slot i with st := .ended })

/-! ### TAKE (R216, R219) -/

/-- The ready item TAKE selects (R216). -/
def State.headReady (s : State) (b : Nat) : Option Item :=
  match s.readyOn b with
  | [] => none
  | i :: is => some (is.foldl (fun a x =>
      if x.deadline < a.deadline ∨ (x.deadline = a.deadline ∧ x.jsn < a.jsn) then x else a) i)

/-- What firmware's dispatcher may run next (R221): a READY slot, or the head of the ready queue, taken into a FREE slot. -/
inductive Pick where
  | slot (n : Nat)
  | take (n : Nat)
  deriving DecidableEq, Repr

/-- A choice with what R221 orders it by: DEADLINE, a slot before the queue's head, ITEM_JSN. -/
abbrev Ranked := Pick × (Nat × Nat × Nat)

/-- Before another choice in the order of R221. -/
def Ranked.before (a b : Ranked) : Bool :=
  decide (a.2.1 < b.2.1) || (a.2.1 == b.2.1 && (decide (a.2.2.1 < b.2.2.1) || (a.2.2.1 == b.2.2.1 && decide (a.2.2.2 < b.2.2.2))))

/-- The choices a core's dispatcher has (R221). -/
def State.picks (s : State) (c : Nat) : List Ranked :=
  let k := s.core c
  let ready := (List.range 8).filterMap (fun n =>
    if (k.slot n).st = .ready then
      ((k.slot n).item.bind (fun p => s.item p.1 p.2)).map (fun i => (Pick.slot n, (i.deadline, 0, i.jsn))) else none)
  match (List.range 8).find? (fun n => (k.slot n).st == .free), s.headReady (benchOf c) with
  | some n, some i => ready ++ [(Pick.take n, (i.deadline, 1, i.jsn))]
  | _, _ => ready

/-- What firmware's dispatcher runs at a choice (R221): by TAKE where it is the queue's head, and then by RETT (R220). -/
def State.dispatchPick (s : State) (c : Nat) : Option Pick :=
  match s.picks c with
  | [] => none
  | p :: ps => some (ps.foldl (fun (b x : Ranked) => if x.before b then x else b) p).1

/-- The work-item record (R223). -/
def workRecord (i : Item) (g : Gen) (slot bench rodata data shared : Nat) : Bytes :=
  let base := locBase + 0x8000 + 0x3000 * slot
  let message : Bool := i.kind == .message
  leBytes 8 i.jsn ++ leBytes 8 i.stamp ++ leBytes 8 i.deadline ++ leBytes 8 i.orderKey.toNat ++
    leBytes 8 i.progArg.toNat ++ leBytes 8 i.userTag.toNat ++ leBytes 4 i.date.toNat ++ leBytes 2 i.channel ++
    leBytes 2 i.run ++ leBytes 1 (if message then 1 else 2) ++ leBytes 1 i.adopted.toNat ++ leBytes 1 slot ++
    leBytes 1 bench ++ leBytes 4 i.len ++ leBytes 8 (if message then i.win else base + 0x480) ++
    leBytes 4 i.handle.toNat ++ leBytes 4 g.gen ++ leBytes 8 rodata ++ leBytes 8 data ++ leBytes 8 shared ++
    leBytes 4 i.idx.toNat ++ leBytes 4 0 ++ leBytes 8 (base + 0x480) ++ leBytes 8 0

/-- The TSB TAKE initialises (R219, R290). -/
def takeTsb (i : Item) (g : Gen) (slot : Nat) : Bytes :=
  let base := locBase + 0x8000 + 0x3000 * slot
  let msg := if i.kind == .message then i.win else base + 0x480
  leBytes 8 0 ++ leBytes 8 (base + 0x400) ++ leBytes 8 msg ++ leBytes 8 i.len ++ List.replicate 0xD8 0 ++
    leBytes 8 (base + 0x3000) ++ List.replicate 0x260 0 ++ leBytes 8 (g.codeAt + g.entry) ++ leBytes 8 0 ++
    leBytes 8 (g.key * 16 + 0xF000) ++ List.replicate 0x88 0

/-- The data area of a program identifier, 0 when it has none. -/
def State.dataArea (s : State) (prog : Nat) : Nat :=
  match tget s.progs prog with
  | none => 0
  | some p => if p.pages = 0 then 0 else p.dataAt

/-- TAKE with a free slot (R219). -/
def State.take (s : State) (c slot : Nat) : Eff :=
  let b := benchOf c
  match s.headReady b with
  | none => s.giveStatus c 0
  | some i =>
    match s.itemGen i with
    | none => s.giveStatus c 0
    | some g =>
      let base := locBase + 0x8000 + 0x3000 * slot
      let s := s.rawWrite c base (takeTsb i g slot)
      let s := s.rawWrite c (base + 0x400)
        (workRecord i g slot b (g.codeAt + g.codeLen) (s.dataArea i.program) (if g.share = 0 then 0 else s.dataArea g.share))
      let s := if i.kind == .expiry then s.rawWrite c (base + 0x480) (W512.bytes i.context) else s
      let s := s.modCore c (fun k => k.wslot slot
        { (k.slot slot).freed with st := .ready, item := some (i.stream, i.jsn), turnLimit := g.turn * 1000 })
      let s := s.modItem i.stream i.jsn (fun x => { x with state := .running, ready := false })
      let s := (s.modBench b (fun x => { x with taken := x.taken + 1 })).workReady b
      s.giveStatus c 1

/-- TAKE (R219). A core that is to be parked takes no further item (R500). -/
def execITake (c : Nat) (px : List Pfx) (s : State) : Out3 :=
  s.instr c px (fmtWorkAt 1 px) (fun s _ =>
    let k := s.core c
    let n := (k.rg 1).toNat
    if 7 < n ∨ (k.slot n).st ≠ .free then .exc Exn.reserved
    else if k.parkFrom.isSome then s.giveStatus c 0
    else s.take c n)

/-! ### POST (R226) -/

/-- POST of an item that has not ended (R139, R153, R226). -/
def State.post (s : State) (c : Nat) (i : Item) : Eff :=
  let k := s.core c
  let busy : Bool := k.runningSlot.any (fun n => (k.slot n).tags != 0)
  if busy then s.hold c .engines
  else if !s.appendOk i.stream 64 true then s.hold c .append
  else
    let st := if s.failing then stUnsync else 0
    let s := ((s.endItem i.stream i.jsn st ((k.rg 1).toNat % 2 ^ 32)).slotEnded c).settle
    s.giveStatus c st

/-- POST (R226). -/
def execIPost (c : Nat) (px : List Pfx) (s : State) : Out3 :=
  s.instr c px (fmtWork s c px) (fun s _ => s.onItem c (fun t st => (t.slotEnded c).giveStatus c st) (fun t i => t.post c i))

/-! ### EMIT (R227, R228) -/

/-- EMIT with its granules granted and its window at `win`. -/
def State.emit (s : State) (c : Nat) (i : Item) (dest : Nat) (body : Bytes) (win : Nat) : Eff :=
  let n := ceilDiv body.length 256
  let jsn := s.nextJsn i.stream
  let s := s.appendRaw i.stream 2 dest i.jsn
    (mkTf [(32, 2, i.channel), (34, 2, i.run), (36, 4, i.emits.length)]) body
  let s := s.assignWindow win n 0 i.channel
  let s := s.writeMem win body
  let s := s.modCore c (fun k => { k with grant := none })
  let e : Emit := { idx := i.emits.length, ch := dest, jsn := jsn, len := body.length, win := win, granules := n }
  let s := (s.modItem i.stream i.jsn (fun x => { x with emits := x.emits ++ [e] })).settle
  s.giveStatus c 0

/-- The CONFIG record of a CLOSE_CHANNEL of the channel stands in the journal (R228). -/
def State.closing (s : State) (n : Nat) : Bool :=
  [0, 1].any (fun p => (s.port p).aheld.any (fun h =>
    match h.cmd with
    | .closeChannel _ _ => W512.fld h.entry 4 4 == n
    | _ => false))

/-- The destination of an EMIT is open to it (R228). -/
def State.takesEmit (s : State) (n : Nat) : Bool := (s.chan n).any (fun x => s.holds x.stream) && !s.closing n

/-- EMIT of an item that has not ended: the destination, the granules, the append (R98, R227, R228). -/
def State.tryEmit (s : State) (c : Nat) (i : Item) (dest : Nat) (body : Bytes) (win : Nat) : Eff :=
  let n := ceilDiv body.length 256
  if !s.takesEmit dest then (s.dropWaits c).giveStatus c stChannelState
  else
    let waits : Bool := s.poolWait.any (fun q => match q with | .emit c' _ _ _ => c' == c | _ => false)
    if waits then .wait s
    else
      let r : State × Bool := if (s.core c).grant.isSome then (s, true)
        else s.requestPool i.channel n (fun shared => .emit c i.channel shared n)
      if !r.2 then .wait r.1
      else
        let s := r.1.modCore c (fun k => { k with grant := some n })
        if !(s.windowFits win n 0) then .wait s
        else if !s.appendOk i.stream (64 + 64 * ceilDiv body.length 64) false then s.hold c .append
        else s.emit c i dest body win

/-- EMIT (R227). -/
def execIEmit (c : Nat) (px : List Pfx) (win : Nat) (s : State) : Out3 :=
  s.instr c px (fmtWork s c px) (fun s _ =>
    let k := s.core c
    let dest := (k.rg 1).toNat
    let a := (k.rg 2).toNat
    let n := (k.rg 3).toNat
    let count : Nat := ((s.runningItem c).map (fun i => i.emits.length)).getD 0
    if 4095 < dest ∨ n = 0 ∨ 262144 < n ∨ 256 ≤ count then .exc Exn.reserved
    else match s.checkBytes (ownWho c k) a n false with
    | some e => .exc e
    | none =>
      let body := s.readBytes c a n
      (s.touchRead a n).onItem c (fun t st => t.giveStatus c st) (fun t i => t.tryEmit c i dest body win))

/-! ### OPEN (R142, R143, R145, R229) -/

/-- The first of 64 bytes at an address that lies outside the item's scratch and its identifier's data area. -/
def State.outsideOpen (s : State) (c a : Nat) : Option Nat :=
  let k := s.core c
  let scratch := match k.runningSlot with
    | none => (0, 0)
    | some i => (locBase + 0x8000 + 0x3000 * i + 0x480, locBase + 0x8000 + 0x3000 * (i + 1))
  let data := match s.runningItem c with
    | none => (0, 0)
    | some i => match tget s.progs i.program with
      | none => (0, 0)
      | some p => (p.dataAt, p.dataAt + 4096 * p.pages)
  let inArea (r : Nat × Nat) : Bool := decide (r.1 ≤ a) && decide (a < r.2)
  let at_ (r : Nat × Nat) : Option Nat := if a + 64 ≤ r.2 then none else some r.2
  if inArea scratch then at_ scratch else if inArea data then at_ data else some a

/-- The lowest free context of the main table (R142); the manual leaves the choice to the device. -/
def State.freeContext (s : State) : Option Nat :=
  let used := (s.dialogues.filter (fun d => !d.adopted)).map (fun d => d.handle.toNat % 2 ^ 20)
  let n := used.length
  if 1048576 ≤ n then none else (List.range (n + 1)).find? (fun i => !used.contains i)

/-- The next incarnation of a context: 1 to 2,047 (R143). -/
def State.nextIncarnation (s : State) (idx : Nat) : Nat := (((tget s.incarn idx).getD 0) % 2047) + 1

/-- OPEN with a free context (R142, R229). -/
def State.openAt (s : State) (c : Nat) (i : Item) (ctx : W512) (idx : Nat) : Eff :=
  let inc := s.nextIncarnation idx
  let handle := idx + inc * 2 ^ 21
  let budget := if W512.fld ctx 24 4 = 0 then 5000000 else W512.fld ctx 24 4
  let ctx := W512.put (W512.put (W512.put ctx 24 4 budget) 30 2 i.channel) 32 8 i.orderKey.toNat
  let jsn := s.nextJsn i.stream
  let s := s.appendRaw i.stream 4 i.channel i.jsn (mkTf [(32, 4, handle), (36, 2, i.run)]) (W512.bytes ctx)
  let d : Dialogue :=
    { stream := i.stream, handle := BitVec.ofNat 32 handle, openJsn := jsn, opener := i.jsn, context := ctx
      expiry := W512.fld ctx 16 8, budget := budget, channel := W512.fld ctx 28 2
      key := BitVec.ofNat 128 (W512.fld ctx 0 16), state := .pending }
  let s := { s with dialogues := s.dialogues ++ [d], incarn := tset s.incarn idx inc }
  let s := { s with openWait := s.openWait.filter (fun x => x != c) }
  let s := (s.modItem i.stream i.jsn (fun x => { x with opens := BitVec.ofNat 32 handle :: x.opens })).settle
  s.giveHandle c 0 handle

/-- OPEN of an item that has not ended (R145, R153, R229). -/
def State.tryOpen (s : State) (c : Nat) (i : Item) (ctx : W512) : Eff :=
  if s.failing then (s.dropWaits c).giveHandle c stUnsync 0
  else if !((s.chan (W512.fld ctx 28 2)).any (fun x => s.holds x.stream)) then (s.dropWaits c).giveHandle c stChannelState 0
  else match s.freeContext with
  | none =>
    if s.openWait.contains c then .wait s
    else
      let s := { s with openWait := s.openWait ++ [c] }
      .wait ((s.modBench (benchOf c) (fun b => { b with tableFullWaits := b.tableFullWaits + 1 })).raise (benchOf c) 3 i.channel)
  | some idx => if !s.appendOk i.stream 128 false then s.hold c .append else s.openAt c i ctx idx

/-- OPEN (R229). -/
def execIOpen (c : Nat) (px : List Pfx) (s : State) : Out3 :=
  s.instr c px (fmtWork s c px) (fun s _ =>
    let k := s.core c
    let a := (k.rg 1).toNat
    match s.outsideOpen c a with
    | some bad => .exc { vec := 4, cause := 2, g2 := BitVec.ofNat 64 bad }
    | none =>
      match s.checkBytes (ownWho c k) a 64 false with
      | some e => .exc e
      | none =>
        let ctx := W512.ofBytes (s.readBytes c a 64)
        let opened : Nat := ((s.runningItem c).map (fun i => i.opens.length)).getD 0
        if (0 < W512.fld ctx 24 4 ∧ W512.fld ctx 24 4 < 1000) ∨ 4096 ≤ W512.fld ctx 28 2 ∨ 16 ≤ opened then .exc Exn.reserved
        else (s.touchRead a 64).onItem c (fun t st => t.giveHandle c st 0) (fun t i => t.tryOpen c i ctx))

/-! ### MATCH (R146, R230) -/

/-- Of several dialogues the one with the lowest DIALOGUE_OPEN JSN. -/
def lowestOpen : List Dialogue → Option Dialogue
  | [] => none
  | d :: ds => some (ds.foldl (fun a x => if x.openJsn < a.openJsn then x else a) d)

/-- Handle, context and DIALOGUE_OPEN JSN of what MATCH may report as expired: Open dialogues past their EXPIRY and
remnants. -/
def State.expiredFor (s : State) (i : Item) (key : BitVec 128) : List (BitVec 32 × W512 × Nat) :=
  (s.dialogues.filter (fun d => d.state == .open_ && d.channel == i.channel && d.key == key && decide (d.expiry ≤ i.stamp))).map
      (fun d => (d.handle, d.context, d.openJsn)) ++
    (s.remnants.filter (fun r => r.channel == i.channel && r.key == key)).map (fun r => (r.handle, r.context, r.openJsn))

/-- Of several such the one with the highest DIALOGUE_OPEN JSN. -/
def highestExpired : List (BitVec 32 × W512 × Nat) → Option (BitVec 32 × W512 × Nat)
  | [] => none
  | d :: ds => some (ds.foldl (fun a x => if a.2.2 < x.2.2 then x else a) d)

/-- MATCH of an item that has not ended (R146). -/
def State.matchFor (s : State) (c : Nat) (i : Item) (key : BitVec 128) (dst : Nat) : Eff :=
  let fresh := s.dialogues.filter (fun d =>
    d.state == .open_ && d.channel == i.channel && d.key == key && decide (i.stamp < d.expiry))
  match lowestOpen fresh with
  | some d =>
    if 16 ≤ i.claims.length then .exc Exn.reserved
    else
      let claim (x : Dialogue) : Dialogue :=
        if x.handle = d.handle ∧ x.stream = d.stream then { x with state := .claimed i.stream i.jsn } else x
      let s := { s with dialogues := s.dialogues.map claim }
      let s := s.modItem i.stream i.jsn (fun x => { x with claims := d.handle :: x.claims })
      (s.storeLong c dst (W512.bytes d.context)).giveHandle c 0 d.handle.toNat
  | none =>
    match highestExpired (s.expiredFor i key) with
    | some r => (s.storeLong c dst (W512.bytes r.2.1)).giveHandle c stDlgExpired r.1.toNat
    | none => s.giveHandle c 0 0

/-- MATCH (R230). -/
def execIMatch (c : Nat) (px : List Pfx) (s : State) : Out3 :=
  s.instr c px (fmtWork s c px) (fun s _ =>
    let k := s.core c
    let a := (k.rg 1).toNat
    let dst := (k.rg 2).toNat
    match s.checkBytes (ownWho c k) a 16 false with
    | some e => .exc e
    | none =>
      match s.checkBytes (ownWho c k) dst 64 true with
      | some e => .exc e
      | none =>
        let key := BitVec.ofNat 128 (leVal (s.readBytes c a 16))
        (s.touchRead a 16).onItem c (fun t st => t.giveHandle c st 0) (fun t i => t.matchFor c i key dst))

/-! ### CLOSE (R147, R231) -/

/-- The dialogue or remnant a handle names gives DIALOGUE_EXPIRED for an item's stamp (R147). -/
def State.closeExpired (s : State) (i : Item) (h : BitVec 32) : Bool :=
  s.remnants.any (fun r => r.handle == h) ||
    s.dialogues.any (fun d => d.handle == h && d.state == .open_ && decide (d.expiry ≤ i.stamp))

/-- The dialogue an item may close: Claimed by it or Pending from its own OPEN, with no CLOSE issued yet (R147). -/
def State.closable (s : State) (i : Item) (h : BitVec 32) : Option Dialogue :=
  if i.closed.contains h then none
  else s.dialogues.find? (fun d => d.handle == h &&
    (d.state == .claimed i.stream i.jsn || d.pendingFrom i.stream i.jsn))

/-- A handle that R147 lists for an ended item: what it held when it ended counts as its own (R234). -/
def State.listedEnded (s : State) (i : Item) (h : BitVec 32) : Bool :=
  (!i.closed.contains h && (i.claims.contains h || i.opens.contains h)) || s.closeExpired i h

/-- CLOSE of an item that has not ended (R147, R231). -/
def State.closeFor (s : State) (c : Nat) (i : Item) (h : BitVec 32) : Eff :=
  match s.closable i h with
  | some d =>
    if !s.appendOk i.stream 128 false then s.hold c .append
    else
      let s := s.appendRaw i.stream 5 i.channel i.jsn
        (mkTf [(32, 4, h.toNat), (36, 2, i.run), (40, 8, d.openJsn)]) (W512.bytes d.context)
      let s := (s.modItem i.stream i.jsn (fun x => { x with closed := h :: x.closed })).settle
      s.giveStatus c 0
  | none => if s.closeExpired i h then s.giveStatus c stDlgExpired else .exc Exn.reserved

/-- CLOSE (R231). -/
def execIClose (c : Nat) (px : List Pfx) (s : State) : Out3 :=
  s.instr c px (fmtWork s c px) (fun s _ =>
    let v := (s.core c).rg 1
    let h : BitVec 32 := v.setWidth 32
    if 2 ^ 32 ≤ v.toNat then .exc Exn.reserved
    else s.onItem c
      (fun t st => if (t.runningItem c).any (fun i => t.listedEnded i h) then t.giveStatus c st else .exc Exn.reserved)
      (fun t i => t.closeFor c i h))

/-! ### EWAIT (R233) -/

/-- The conditions of a mask that hold (R233). -/
def State.ewaitMet (s : State) (c : Nat) (mask : Nat) : Nat :=
  let k := s.core c
  let tags := match k.runningSlot with
    | none => 0
    | some i => (k.slot i).doneTags.toNat
  let ready := (List.range 8).foldl (fun n i => if (k.slot i).st = .ready then n + 2 ^ (16 + i) else n) 0
  let work := if (s.readyOn (benchOf c)).isEmpty then 0 else 2 ^ 24
  (tags ||| ready ||| work) &&& mask

/-- The address at which a command met a poisoned line, of the lowest of a slot's tags that a mask names (R393, R474). -/
def Slot.poisonOf (sl : Slot) (mask : Nat) : Option Nat :=
  ((List.range 16).find? (fun t => nbit (sl.poisonTags.toNat &&& mask) t)).map (fun t => (tget sl.poisonAt t).getD 0)

/-- The same for the slot that a core runs. -/
def Core.tagPoison (k : Core) (mask : Nat) : Option Nat := k.runningSlot.bind (fun i => (k.slot i).poisonOf mask)

/-- The machine check of a tag whose command read a poisoned line (R393, R474). -/
def Exn.tagPoison (at_ : Nat) : Exn := { vec := 14, cause := 1, g2 := BitVec.ofNat 64 at_ }

/-- EWAIT with a legal mask: a tag whose command read a poisoned line gives vector 14 (R474). -/
def State.ewait (s : State) (c : Nat) : Eff :=
  let k := s.core c
  let mask := (k.rg 1).toNat
  let limit := (k.rg 2).toNat
  match (if k.level = 0 then k.tagPoison mask else none) with
  | some at_ => .exc (Exn.tagPoison at_)
  | none =>
    let met := s.ewaitMet c mask
    let since := k.ewaitFrom.getD s.time.ns
    if met ≠ 0 ∨ limit = 0 ∨ (limit ≠ 2 ^ 64 - 1 ∧ since + limit ≤ s.time.ns) then (s.endEwait c).giveStatus c met
    else .wait (s.setCore c { k with ewaitFrom := some since })

/-- EWAIT as decoded. -/
def ewaitBody (c : Nat) (s : State) (_ : Nat) : Eff :=
  let k := s.core c
  let mask := (k.rg 1).toNat
  if k.level = 0 ∧ nbits mask 16 9 ≠ 0 then .exc { vec := 10, cause := 4 }
  else if nbits mask 25 39 ≠ 0 ∨ (k.level ≠ 0 ∧ nbits mask 0 16 ≠ 0) then .exc Exn.reserved
  else s.ewait c

/-- EWAIT (R233). -/
def execIEwait (c : Nat) (px : List Pfx) (s : State) : Out3 := s.instr c px (fmtWorkAt 0 px) (ewaitBody c)

/-- EWAIT_TIMEOUT (R233): ledger time reaches the end of an EWAIT in progress, which returns. -/
def execEwaitTimeout (core : Nat) (s : State) : Out3 :=
  let k := s.core core
  match k.ewaitFrom with
  | none => if core < 96 then .next s else .fault .noSuchUnit
  | some since =>
    let limit := (k.rg 2).toNat
    if limit = 2 ^ 64 - 1 then (if core < 96 then .next s else .fault .noSuchUnit)
    else (s.advanceTo (since + limit)).instr core [] (fmtWorkAt 0 []) (ewaitBody core)

/-! ### YIELD (R220) -/

/-- The item of a slot has ended (R218). -/
def State.slotOver (s : State) (sl : Slot) : Bool := sl.item.any (fun p => !(s.item p.1 p.2).any (fun i => i.state != .ended))

/-- The slot after a YIELD (R220); until YIELD END, the slot of an ended item is ENDED (R218). -/
def Slot.yielded (sl : Slot) (past : Bool) (reason mask : Nat) : Slot :=
  if reason = 0 then sl.freed
  else if past then { sl with st := .ended }
  else if reason = 1 then
    if sl.tags.toNat &&& mask = 0 then { sl with st := .ready }
    else { sl with st := .waiting, wait := BitVec.ofNat 16 mask }
  else { sl with st := .ready }

/-- YIELD with a legal reason, no floating-point trap being pending: the reason is written, an unended item that yields
END is faulted (R238), the slot changes, and vector 16 is entered. -/
def State.yield (s : State) (c nxt : Nat) : State :=
  let k := s.core c
  let reason := (k.rg 1).toNat
  let mask := nbits (k.rg 2).toNat 0 16
  match k.runningSlot with
  | none => s.enterAfter c 16 1 nxt
  | some i =>
    let sl := k.slot i
    let past := s.slotOver sl
    let s := s.rawWrite c (locBase + 0x8000 + 0x3000 * i + 0x400 + 108) (leBytes 4 reason)
    let s := (s.enterAfter c 16 1 nxt).modCore c (fun k => k.wslot i (sl.yielded past reason mask))
    match reason, sl.item with
    | 0, some (st, j) =>
      if (s.item st j).any (fun x => x.state != .ended) then s.programFault st j 0 1 nxt k.mode else s
    | _, _ => s

/-- YIELD (R220); naming a tag whose command read a poisoned line, YIELD WAIT takes vector 14 (R474). -/
def execIYield (c : Nat) (px : List Pfx) (s : State) : Out3 :=
  s.instr c px (fmtWork s c px) (fun s nxt =>
    let k := s.core c
    if 2 < (k.rg 1).toNat then .exc Exn.reserved
    else match (if (k.rg 1).toNat = 1 then k.tagPoison (nbits (k.rg 2).toNat 0 16) else none) with
    | some at_ => .exc (Exn.tagPoison at_)
    | none => .placed (s.yield c nxt))

/-! ### The turn timer (R422) -/

/-- TURN_TIMER (R422): the core's turn counter reaches the limit TAKE recorded; the source is raised once for the turn. The
event is taken at the next boundary that allows it, and firmware's handler ends the turn (R221, R238, R239). -/
def execTurnTimer (core : Nat) (s : State) : Out3 :=
  if 96 ≤ core then .fault .noSuchUnit else
  let k := s.core core
  match k.runningSlot with
  | none => .next s
  | some i =>
    if k.level ≠ 0 || k.turnRaised || (k.slot i).turnLimit = 0 || !s.coreRuns core then .next s
    else .next (((s.setCore core { k with turnRaised := true }).raise (benchOf core) (80 + core % 24) i).boundary core)

end Sys2Proof.Machine
end

