-- ==== Sys2Proof/Machine/Submit.lean ====
section
/-!
DEFINITION. SUBMIT (R232): the command block (R260), what each engine command allows (R261, R262, R266, R269, R270, R273),
and the queues of a bench (R275).
-/

namespace Sys2Proof.Machine

/-! ### The command block (R260) -/

/-- OPCODE. -/
def bkOp (b : W512) : Nat := W512.fld b 0 1
/-- FLAGS bit 0 DUKPT. -/
def bkDukpt (b : W512) : Bool := nbit (W512.fld b 1 1) 0
/-- FLAGS bit 1 PREHASHED. -/
def bkPre (b : W512) : Bool := nbit (W512.fld b 1 1) 1
/-- FLAGS bit 2 HEDGED. -/
def bkHedged (b : W512) : Bool := nbit (W512.fld b 1 1) 2
/-- FLAGS bit 3 PAD2. -/
def bkPad2 (b : W512) : Bool := nbit (W512.fld b 1 1) 3
/-- ALG. -/
def bkAlg (b : W512) : Nat := W512.fld b 5 1
/-- PARAM. -/
def bkParam (b : W512) : Nat := W512.fld b 7 1
/-- TOKEN_A. -/
def bkA (b : W512) : Nat := W512.fld b 8 8
/-- TOKEN_B. -/
def bkB (b : W512) : Nat := W512.fld b 16 8
/-- IN_ADDR. -/
def bkIn (b : W512) : Nat := W512.fld b 24 8
/-- IN_LEN. -/
def bkInLen (b : W512) : Nat := W512.fld b 32 4
/-- OUT_LEN, the capacity of OUT. -/
def bkOutLen (b : W512) : Nat := W512.fld b 36 4
/-- OUT_ADDR. -/
def bkOut (b : W512) : Nat := W512.fld b 40 8
/-- AUX_ADDR. -/
def bkAux (b : W512) : Nat := W512.fld b 48 8
/-- AUX_LEN. -/
def bkAuxLen (b : W512) : Nat := W512.fld b 56 4

/-- MAC_GEN or MAC_VERIFY. -/
def isMac (op : Nat) : Bool := op == 1 || op == 2
/-- SIGN or VERIFY. -/
def isSig (op : Nat) : Bool := op == 0x10 || op == 0x11

/-- Whether a command uses TOKEN_A, TOKEN_B, IN, AUX and OUT (R261). -/
def usesA (op : Nat) : Bool := [1, 2, 3, 5, 7, 0x10, 0x11].contains op
/-- TOKEN_B is used. -/
def usesB (op : Nat) : Bool := op == 3 || op == 5
/-- IN is used. -/
def usesIn (op : Nat) : Bool := [1, 2, 3, 4, 0x10, 0x11].contains op
/-- AUX is used. -/
def usesAux (b : W512) : Bool := [2, 7, 0x11].contains (bkOp b) || (bkOp b == 3 && bkAlg b != 0x11)
/-- OUT is used. -/
def usesOut (op : Nat) : Bool := op != 2 && op != 0x11

/-! ### What a command allows -/

/-- The longest MAC of an algorithm (R266). -/
def macMax (alg : Nat) : Nat := match alg with | 1 => 16 | 2 => 8 | 3 => 32 | 4 => 48 | _ => 64

/-- The digest of a HASH (R266). -/
def digestLen (alg : Nat) : Nat := match alg with | 1 => 32 | 2 => 48 | 3 => 64 | _ => 32

/-- The digest that PREHASHED gives, 0 where it is not allowed (R273). -/
def preLen (alg : Nat) : Nat :=
  match alg with
  | 1 => 32 | 2 => 48 | 4 => 32 | 5 => 48 | 6 => 64 | 7 => 32 | 8 => 48 | 9 => 64 | _ => 0

/-- Bytes of a PIN block (R269). -/
def pinLen (f : Nat) : Nat := if f = 4 then 16 else 8

/-- Bytes of a signature of an algorithm by a key (R273). -/
def signLen (alg : Nat) (v : VSlot) : Nat :=
  match alg with
  | 1 => 64 | 2 => 96 | 3 => 64
  | 10 => if v.size = 44 then 2420 else if v.size = 65 then 3309 else 4627
  | _ => v.size / 8

/-- The least OUT capacity of SIGN (R273). -/
def signRoom (alg : Nat) : Nat := match alg with | 1 => 64 | 2 => 96 | 3 => 64 | 10 => 4627 | _ => 512

/-- Source and destination format of a PIN_TRANSLATE (R269). -/
def pinFrom (b : W512) : Nat := bkAlg b % 16
/-- The destination format. -/
def pinTo (b : W512) : Nat := bkAlg b / 16

/-- A PIN format of R269. -/
def pinFormat (f : Nat) : Bool := f == 0 || f == 1 || f == 3 || f == 4

/-- A pair that R270 allows. -/
def pinPair (a b : Nat) : Bool :=
  pinFormat a && pinFormat b && !((a == 0 || a == 3) && b == 1) && !(a == 4 && b != 4)

/-- FLAGS of a command (R261, R266, R273). -/
def flagsLegal (b : W512) : Bool :=
  let op := bkOp b
  let alg := bkAlg b
  decide (W512.fld b 1 1 < 16) && (!bkDukpt b || decide (op ≤ 3)) && (!bkPad2 b || (isMac op && alg == 2)) &&
    (!bkPre b || (isSig op && preLen alg != 0)) && (!bkHedged b || (isSig op && (alg == 1 || alg == 2 || alg == 10)))

/-- ALG and PARAM of a command (R261, R266, R269, R270, R273). -/
def algLegal (b : W512) : Bool :=
  let op := bkOp b
  let alg := bkAlg b
  let p := bkParam b
  if isMac op then decide (1 ≤ alg) && decide (alg ≤ 5) && (p == 0 || (op == 1 && decide (4 ≤ p) && decide (p ≤ macMax alg)))
  else if op = 3 then pinPair (pinFrom b) (pinTo b) && p == 0
  else if op = 4 then decide (1 ≤ alg) && decide (alg ≤ 4) && p == 0
  else if isSig op then decide (1 ≤ alg) && decide (alg ≤ 10) && p == 0
  else alg == 0 && p == 0

/-- Length of the KSN before the data under DUKPT: 12 bytes with the AES algorithms, else 10 (R272). -/
def ksnLen (b : W512) : Nat :=
  if !bkDukpt b then 0 else if (isMac (bkOp b) && bkAlg b == 1) || (bkOp b == 3 && pinFrom b == 4) then 12 else 10

/-- IN_LEN of a command (R261, R269, R273). -/
def inLegal (b : W512) : Bool :=
  let op := bkOp b
  let n := bkInLen b
  let k := ksnLen b
  if !usesIn op then bkIn b == 0 && n == 0
  else if isMac op then decide (k < n) && decide (n ≤ k + 262144)
  else if op = 3 then n == k + pinLen (pinFrom b)
  else if op = 4 then decide (n ≤ 262144)
  else if bkPre b then n == preLen (bkAlg b)
  else decide (1 ≤ n) && decide (n ≤ 262144)

/-- AUX_LEN of a command (R261, R264, R266, R269). -/
def auxLegal (b : W512) : Bool :=
  let n := bkAuxLen b
  if !usesAux b then bkAux b == 0 && n == 0
  else match bkOp b with
  | 2 => decide (4 ≤ n) && decide (n ≤ macMax (bkAlg b))
  | 3 => decide (12 ≤ n) && decide (n ≤ 19)
  | 7 => n == 32
  | _ => decide (1 ≤ n) && decide (n ≤ 4627)

/-- OUT_LEN of a command (R261, R273). -/
def outLegal (b : W512) : Bool :=
  let n := bkOutLen b
  match bkOp b with
  | 1 => decide ((if 3 ≤ bkAlg b then 64 else 16) ≤ n)
  | 3 => decide (16 ≤ n)
  | 4 => decide (digestLen (bkAlg b) ≤ n)
  | 5 => decide (256 ≤ n)
  | 6 => decide (1 ≤ n) && decide (n ≤ 4096)
  | 7 => decide (48 ≤ n)
  | 0x10 => decide (signRoom (bkAlg b) ≤ n)
  | _ => bkOut b == 0 && n == 0

/-- A block that this manual allows (R260 to R262). -/
def blockLegal (b : W512) : Bool :=
  let op := bkOp b
  ((decide (1 ≤ op) && decide (op ≤ 7)) || isSig op) && flagsLegal b && algLegal b && W512.fld b 60 4 == 0 &&
    (usesA op || bkA b == 0) && (usesB op || bkB b == 0) && inLegal b && auxLegal b && outLegal b

/-! ### Ranges -/

/-- The first refusal of an access of R237 to a range; a poisoned line is the engine's concern (R474). -/
def State.range (s : State) (w : Who) (a n : Nat) (write : Bool) : Option Exn :=
  (s.checkBytes w a n write).filter (fun e => e.vec != 14)

/-- Tokens, IN and AUX can be read, OUT and the block written (R262). -/
def State.rangesBad (s : State) (w : Who) (at_ : Nat) (b : W512) : Option Exn :=
  let r (used : Bool) (a n : Nat) (write : Bool) : Option Exn := if used then s.range w a n write else none
  let op := bkOp b
  (r (usesA op) (bkA b) 48 false).or ((r (usesB op) (bkB b) 48 false).or ((r (usesIn op) (bkIn b) (bkInLen b) false).or
    ((r (usesAux b) (bkAux b) (bkAuxLen b) false).or ((r (usesOut op) (bkOut b) (bkOutLen b) true).or (r true at_ 64 true)))))

/-! ### Queues (R275) -/

/-- A command goes before another: earlier DEADLINE; among equals the order of SUBMIT stands. -/
def enqueueCmd (q : EngCmd) : List EngCmd → List EngCmd
  | [] => [q]
  | x :: xs => if q.deadline < x.deadline then q :: x :: xs else x :: enqueueCmd q xs

/-- A bench with a command queued for its kind of engine. -/
def Bench.submit (x : Bench) (q : EngCmd) : Bench :=
  if isSig (bkOp q.blk) then { x with sigQ := enqueueCmd q x.sigQ } else { x with cipherQ := enqueueCmd q x.cipherQ }

/-- SUBMIT of a legal block (R232): it waits only for queue space, and raises ENGINE_QUEUE_FULL as it begins to wait
(R425). -/
def State.submit (s : State) (c slot : Nat) (q : EngCmd) : Eff :=
  let b := benchOf c
  let x := s.bench b
  let sig := isSig (bkOp q.blk)
  if 2048 ≤ (if sig then x.sigQ else x.cipherQ).length then
    if (s.core c).wait == .queue then .wait s
    else .wait ((s.modCore c (fun k => { k with wait := .queue })).raise b 4 (if sig then 1 else 0))
  else
    let s := s.setBench b (x.submit q)
    let bit : BitVec 16 := BitVec.ofNat 16 (2 ^ q.tag)
    let s := s.modCore c (fun k =>
      let sl := k.slot slot
      k.wslot slot { sl with
        tags := sl.tags ||| bit, doneTags := sl.doneTags &&& ~~~bit, poisonTags := sl.poisonTags &&& ~~~bit
        poisonAt := terase sl.poisonAt q.tag })
    s.giveStatus c 0

/-- SUBMIT (R225, R232, R262). -/
def execISubmit (c : Nat) (px : List Pfx) (s : State) : Out3 :=
  s.instr c px (fmtWork s c px) (fun s _ =>
    let k := s.core c
    let a := (k.rg 1).toNat
    let tag := (k.rg 2).toNat
    let w := ownWho c k
    match k.runningSlot with
    | none => .exc Exn.reserved
    | some n =>
      if 15 < tag || nbit (k.slot n).tags.toNat tag then .exc Exn.reserved
      else match s.checkBytes w a 64 false with
      | some e => .exc e
      | none =>
        let blk := W512.ofBytes (s.readBytes c a 64)
        if !blockLegal blk then .exc Exn.reserved
        else match s.rangesBad w a blk with
        | some e => .exc e
        | none =>
          let i := s.runningItem c
          (s.touchRead a 64).submit c n
            { core := c, slot := n, tag := tag, block := a, channel := (i.map (fun x => x.channel)).getD 0
              deadline := (i.map (fun x => x.deadline)).getD 0, blk := blk })

end Sys2Proof.Machine
end

