-- ==== Sys2Proof/Machine/Time.lean ====
section
/-!
DEFINITION. The commands of the time unit, the calendar, deadlines and dialogues (R119 to R126, R133 to R139, R144, R145,
R148).
-/

namespace Sys2Proof.Machine

/-- The time unit works: start-up has set ledger time, and no flush or halt stops the device (R115, R163, R493). -/
def State.timeRuns (s : State) : Bool := decide (6 ≤ s.su.step) && !s.su.halted && !s.su.sysResetLow && !s.su.flushing

/-- A command of the time unit: nothing happens while it does not work. -/
def timed (s : State) (f : State → State) : Out3 := .next (if s.timeRuns then f s else s)

/-- What an empty queue does: one ns of TIME_REF_CLK is counted while the time unit works (log 9). -/
def State.idle (s : State) : State := if s.timeRuns then s.tick 1 else s

/-- PPS_EDGE (R119, R120, R125): an edge `n` ns of TIME_REF_CLK later. After a forward step what it passed over happens,
in order of instant (R121). -/
def execPpsEdge (n : Nat) (s : State) : Out3 := timed s (fun s => (((s.tick n).edge).afterStep (s.tick n)).settle)

/-- PPS_MISSING (R125). A predicted edge near which only an outlier came counts as missing (log 109). -/
def execPpsMissing (s : State) : Out3 :=
  timed s (fun s =>
    let t := s.time
    if !t.applied || t.source != .pps || t.jumped then s
    else
      let s := s.advanceTo s.missingAt
      let s := { s with time := { s.time with
        good := 0, missing := t.missing + 1, p64 := 0, nextEdge := t.nextEdge + secNs } }
      s.judge.settle)

/-- SET_TIME_LAPSE (R119). -/
def execSetTimeLapse (s : State) : Out3 :=
  timed s (fun s =>
    match s.time.armed with
    | none => s
    | some (_, since) =>
      let s := s.advanceTo (since + 2 * secNs)
      ({ s with time := { s.time with armed := none } }).logErr 2 9 0xFFFF 0)

/-- OFFSET_ABSORBED (R120): the rest of the backward offset is absorbed at 0.001 ns for each ns counted. -/
def execOffsetAbsorbed (s : State) : Out3 := timed s (fun s => (s.tick s.time.back).judge.settle)

/-- TIME_QUALITY_EVAL (R126), `n` ns of TIME_REF_CLK later. -/
def execTimeQualityEval (n : Nat) (s : State) : Out3 := timed s (fun s => (s.tick n).judge.settle)

/-- LEDGER_SECOND (R123, R425): ledger time reaches the next whole second. -/
def execLedgerSecond (s : State) : Out3 :=
  timed s (fun s =>
    if s.time.quality = 0 then s
    else
      let now := s.time.ns
      let k := if now % secNs = 0 ∧ s.time.lastSec ≠ now / secNs then now / secNs else now / secNs + 1
      let s := (s.advanceTo (k * secNs)).setPpsOut true
      ({ s with time := { s.time with lastSec := k, ppsOutAt := k * secNs } }).raiseAll 17 (k % 2 ^ 24))

/-- PPS_OUT_END (R123): TIME_PPS_OUT falls 1 ledger ms after it rose. -/
def execPpsOutEnd (s : State) : Out3 :=
  timed s (fun s => if s.time.ppsOut then (s.advanceTo (s.time.ppsOutAt + 1000000)).setPpsOut false else s)

/-- CUTOFF_INSTANT (R133). -/
def execCutoffInstant (idx : Nat) (s : State) : Out3 :=
  timed s (fun s =>
    match tget s.cal.cut idx with
    | none => s
    | some e => (s.advanceTo e.instant).openSlot.settle)

/-- KEY_ROLLOVER_INSTANT (R135). -/
def execKeyRolloverInstant (idx : Nat) (s : State) : Out3 :=
  timed s (fun s =>
    match tget s.cal.key idx with
    | none => s
    | some e => (s.advanceTo e.instant).openSlot.settle)

/-- The first opening of a window that has not ended by an instant (R136). -/
def WinEntry.opening (e : WinEntry) (now : Nat) : Nat :=
  if e.period = 0 ∨ now < e.instant + e.duration then e.instant
  else e.instant + ((now - e.instant - e.duration) / e.period + 1) * e.period

/-- WINDOW_CLOSE (R131, R136). -/
def execWindowClose (idx : Nat) (s : State) : Out3 :=
  timed s (fun s =>
    match tget s.cal.win idx with
    | none => s
    | some e =>
      if !e.open_ then s
      else
        let s := s.advanceTo e.closeAt
        { s with cal := { s.cal with
          win := if e.period = 0 then terase s.cal.win idx else tset s.cal.win idx { e with open_ := false } } })

/-- The earliest deadline of an item that has not ended. -/
def State.firstDeadline (s : State) : Option Nat :=
  s.items.foldl (fun m i => if i.state == .ended then m else some (match m with | none => i.deadline | some d => min d i.deadline)) none

/-- DEADLINE_MISS (R139): the first append slot at or after the earliest deadline. -/
def execDeadlineMiss (s : State) : Out3 :=
  timed s (fun s =>
    if s.failing then s else
    match s.firstDeadline with
    | none => s
    | some d => (s.advanceTo d).openSlot.settle)

/-- DIALOGUE_FIRE (R148, R150): the first Open dialogue whose earlier answers have ended fires when it is due. -/
def execDialogueFire (s : State) : Out3 :=
  timed s (fun s =>
    if !s.firingRuns then s else
    match firstToFire (s.dialogues.filter (fun d =>
        ({ s with time := { s.time with ns := max s.time.ns d.expiry } }).mayFire d)) with
    | none => s
    | some d =>
      let s := (s.advanceTo d.expiry).openSlot
      if s.dialogues.contains d && s.mayFire d && s.appendOk d.stream 128 false then (s.fire d).settle else s.settle)

/-- REMNANT_DISCARD (R144). -/
def execRemnantDiscard (s : State) : Out3 :=
  timed s (fun s =>
    match s.remnants with
    | [] => s
    | r :: rest => { s.advanceTo (r.at_ + 300 * secNs) with remnants := rest })

/-- DIALOGUE_CONTEXT_FREE (R145): the first waiting OPEN proceeds. -/
def execDialogueContextFree (s : State) : Out3 :=
  match s.openWait, s.freeContext with
  | c :: _, some _ => execIOpen c [] s
  | _, _ => .next s

end Sys2Proof.Machine
end

