-- ==== Sys2Proof/Machine/Engines.lean ====
section
/-!
DEFINITION. The cipher and signature engines (R250, R251, R261 to R281): token checks and caches, what each command
computes, its result block, engine faults, the entropy source and tamper.
-/

namespace Sys2Proof.Machine

/-! ### Completing a tag -/

/-- A tag of a slot is complete: a slot that waits for it becomes READY (R220, R233, R263). `poison` is the address at which its
command met a poisoned line (R474). -/
def Slot.complete (sl : Slot) (tag : Nat) (poison : Option Nat) : Slot :=
  let bit : BitVec 16 := BitVec.ofNat 16 (2 ^ tag)
  let sl := { sl with
    tags := sl.tags &&& ~~~bit, doneTags := sl.doneTags ||| bit
    poisonTags := if poison.isSome then sl.poisonTags ||| bit else sl.poisonTags
    poisonAt := match poison with | none => sl.poisonAt | some a => tset sl.poisonAt tag a }
  if sl.st = .waiting ∧ nbit sl.wait.toNat tag then { sl with st := .ready, wait := 0 } else sl

/-- The tag of a command is complete. -/
def State.completeTag (s : State) (q : EngCmd) (poison : Option Nat := none) : State :=
  s.modCore q.core (fun k => k.wslot q.slot ((k.slot q.slot).complete q.tag poison))

/-- What a command ends with: STATUS, VERDICT, FAILED_TOKEN and the output (R260, R263). -/
structure EngRes where
  status : Nat := 0
  verdict : Nat := 1
  failed : Nat := 0
  out : Bytes := []
  /-- The bench's DRBG state afterwards. -/
  drbg : Option (BitVec 384) := none
  deriving DecidableEq, Repr

/-- A token that failed (R263). -/
def EngRes.token (status n : Nat) : EngRes := { status := status, verdict := 0, failed := n }

/-- An input that failed a check (R260, R263). -/
def EngRes.invalid : EngRes := { verdict := 2 }

/-- The result fields of a block: STATUS, VERDICT, FAILED_TOKEN and OUT_LEN (R260, R263). -/
def EngRes.fields (r : EngRes) : List (Nat × Bytes) :=
  [(2, leBytes 2 r.status), (4, leBytes 1 r.verdict), (6, leBytes 1 r.failed), (36, leBytes 4 r.out.length)]

/-- The engine writes OUT, then the result fields of the block, and the tag is complete (R263). -/
def State.putResult (s : State) (q : EngCmd) (r : EngRes) : State :=
  let s := if r.out.isEmpty then s else s.storeLong q.core (bkOut q.blk) r.out
  let s := r.fields.foldl (fun t f => t.storeLong q.core (q.block + f.1) f.2) s
  let s := match r.drbg with
    | none => s
    | some d => s.modBench (benchOf q.core) (fun x => { x with drbg := d })
  s.completeTag q

/-! ### Tokens and keys -/

/-- The key usage and mode permit a right: usage, algorithm, and the modes that do (R253). -/
def serves (v : VSlot) (usage alg : Nat) (modes : List Nat) : Bool := v.usage == usage && v.alg == alg && modes.contains v.mode

/-- Order 7 for a MAC command (R253, R266, R272). -/
def macKey (b : W512) (v : VSlot) : Bool :=
  let modes := if bkOp b = 1 then [0x47, 0x43] else [0x56, 0x43]
  let alg := bkAlg b
  if bkDukpt b then serves v 0x4230 0x41 [0x58] && alg == 1 || serves v 0x4230 0x54 [0x58] && alg == 2
  else if alg = 1 then serves v 0x4D36 0x41 modes
  else if alg = 2 then serves v 0x4D33 0x54 modes
  else serves v 0x4D37 0x48 modes

/-- The algorithm of a key for a PIN format (R269). -/
def pinAlg (f : Nat) : Nat := if f = 4 then 0x41 else 0x54

/-- Order 7 for the decrypting key of PIN_TRANSLATE (R253, R270). -/
def pinFromKey (b : W512) (v : VSlot) : Bool :=
  if bkDukpt b then (pinFrom b == 0 && serves v 0x4230 0x54 [0x58]) || (pinFrom b == 4 && serves v 0x4230 0x41 [0x58])
  else serves v 0x5030 (pinAlg (pinFrom b)) [0x44, 0x42]

/-- Order 7 for SIGN and VERIFY (R253, R273). -/
def sigKey (b : W512) (v : VSlot) : Bool :=
  let modes := if bkOp b = 0x10 then [0x53] else [0x53, 0x56]
  match bkAlg b with
  | 1 => serves v 0x5330 0x45 modes && v.size == 256
  | 2 => serves v 0x5330 0x45 modes && v.size == 384
  | 3 => serves v 0x5330 0x45 modes && v.size == 25519
  | 10 => serves v 0x5330 0x51 modes
  | _ => serves v 0x5330 0x52 modes

/-- Order 7 of TOKEN_A (R250, R258). -/
def State.fitsA (s : State) (b : W512) (v : VSlot) : Bool :=
  (v.alg != 0x54 || s.tdesOn) &&
    (if isMac (bkOp b) then macKey b v
      else if bkOp b = 3 then pinFromKey b v
      else if bkOp b = 5 then v.exp == 0x45 && [0x41, 0x54, 0x48].contains v.alg
      else sigKey b v)

/-- Order 7 of TOKEN_B (R250, R258, R265, R270). -/
def State.fitsB (s : State) (b : W512) (v : VSlot) : Bool :=
  (v.alg != 0x54 || s.tdesOn) &&
    (if bkOp b = 3 then serves v 0x5030 (pinAlg (pinTo b)) [0x45, 0x42]
      else v.usage == 0x4B30 && (v.mode == 0x45 || v.mode == 0x42))

/-- The rights that TOKEN_A must hold (R249, R261). -/
def rightsA (b : W512) : Nat :=
  (match bkOp b with | 1 => 4 | 2 => 8 | 3 => 0x10 | 0x10 => 1 | 0x11 => 2 | _ => 0) + (if bkDukpt b then 0x40 else 0)

/-- The rights that TOKEN_B must hold. -/
def rightsB (b : W512) : Nat := if bkOp b = 3 then 0x20 else 0x80

/-- A token whose seal has verified joins the bench's cache of 4,096 (R277). -/
def Bench.noteToken (x : Bench) (t : Bytes) : Bench :=
  { x with tokCache := (t :: x.tokCache.filter (fun y => y != t)).take 4096 }

/-- Entries a key takes in the cache (R277). -/
def keyEntries (bytes : Nat) : Nat := ceilDiv (bytes + 16) 128

/-- The most recent keys that fit the cache of 16,384 entries (R277). -/
def fitKeys (size : Nat → Nat) : Nat → List (Nat × Nat) → List (Nat × Nat)
  | _, [] => []
  | room, k :: ks => if size k.1 ≤ room then k :: fitKeys size (room - size k.1) ks else []

/-- A key of a slot used: it is the most recent of the bench's cache. The second component says that it was not there. -/
def State.useKey (s : State) (b slot : Nat) : State × Bool :=
  let k := (slot, (s.vslot slot).gen)
  let x := s.bench b
  let size (n : Nat) : Nat := keyEntries (s.vslot n).bytes
  (s.setBench b { x with keyCache := fitKeys size 16384 (k :: x.keyCache.filter (fun y => y != k)) }, !x.keyCache.contains k)

/-- The tokens of a command, each 48 bytes as the engine reads them (R263). -/
def State.tokenAt (s : State) (q : EngCmd) (a : Nat) : Bytes := s.readBytes q.core a 48

/-- One token checked on a bench (R250, R251, R277): the state with its seal noted, and the status if it fails. -/
def State.checkToken (s : State) (q : EngCmd) (t : Bytes) (rights : Nat) (fits : VSlot → Bool) : State × Option Nat :=
  let b := benchOf q.core
  let cached := (s.bench b).tokCache.contains t
  let bad := s.tokenBad t { format := 1, rights := rights, channel := some q.channel } cached fits
  (if cached || s.sealOk t then s.modBench b (fun x => x.noteToken t) else s, bad)

/-- Counter of an engine in telemetry group 0x06: kiln engines, then cipher engines (R509). The model counts a command on
the lowest active engine of its kind. -/
def engIndex (b : Nat) (sig : Bool) : Nat := if sig then 32 * b else 128 + 4 * b

/-- The lowest cipher engine of a bench in service. -/
def State.lowCipher (s : State) (b : Nat) : Nat :=
  ((List.range 4).find? (fun n => !(s.ident.deconf.any (fun d => d.1 == PartRef.cipher b n)))).getD 0

/-- The telemetry index of the engine that serves a command. -/
def State.engOf (s : State) (q : EngCmd) : Nat :=
  let b := benchOf q.core
  let sig := isSig (bkOp q.blk)
  engIndex b sig + (if sig then 0 else s.lowCipher b)

/-- A token failure counted (R509). -/
def State.countFail (s : State) (q : EngCmd) : State :=
  { s with counters := { s.counters with tokenFailures := tinc s.counters.tokenFailures (s.engOf q) 1 } }

/-- A key used, its cache miss counted (R277, R509). -/
def State.takeKey (s : State) (q : EngCmd) (slot : Nat) : State :=
  let r := s.useKey (benchOf q.core) slot
  if r.2 then { r.1 with counters := { r.1.counters with cacheMisses := tinc r.1.counters.cacheMisses (s.engOf q) 1 } } else r.1

/-- The tokens a command names checked, TOKEN_A in full and then TOKEN_B (R250): the status and the number of the one that
fails. -/
def State.checkTokens (s : State) (q : EngCmd) : State × Option (Nat × Nat) :=
  let b := q.blk
  let op := bkOp b
  if !usesA op || op == 7 then (s, none)
  else
    let ta := s.tokenAt q (bkA b)
    let r := s.checkToken q ta (rightsA b) (s.fitsA b)
    match r.2 with
    | some st => (r.1, some (st, 1))
    | none =>
      let s := r.1.takeKey q (tkSlot ta)
      if !usesB op then (s, none)
      else
        let tb := s.tokenAt q (bkB b)
        let r := s.checkToken q tb (rightsB b) (s.fitsB b)
        match r.2 with
        | some st => (r.1, some (st, 2))
        | none => (r.1.takeKey q (tkSlot tb), none)

/-- The key a token names. -/
def State.keyOf (s : State) (t : Bytes) : VSlot := s.vslot (tkSlot t)

/-! ### What each command computes -/

/-- IN as the engine reads it. -/
def State.engIn (s : State) (q : EngCmd) : Bytes := s.readBytes q.core (bkIn q.blk) (bkInLen q.blk)
/-- AUX as the engine reads it. -/
def State.engAux (s : State) (q : EngCmd) : Bytes := s.readBytes q.core (bkAux q.blk) (bkAuxLen q.blk)
/-- The DRBG of the command's bench. -/
def State.drbgOf (s : State) (q : EngCmd) : BitVec 384 := (s.bench (benchOf q.core)).drbg

/-- One bits of a number of `n` bits. -/
def onesIn (n x : Nat) : Nat := ((List.range n).filter (fun i => nbit x i)).length

/-- A KSN's transaction counter is one its standard allows (R272): the last 4 bytes with an AES BDK, the last 21 bits with
a TDES BDK. PRESUMED (log 13): the places are those of ANSI X9.24. -/
def ksnOk (ksn : Bytes) : Bool :=
  let v := beVal ksn
  if ksn.length = 12 then v % 2 ^ 32 != 0 && decide (onesIn 32 v ≤ 16) else v % 2 ^ 21 != 0 && decide (onesIn 21 v ≤ 10)

/-- The key a command works under: the slot's, or the transaction key derived from its BDK (R272). -/
def State.workKey (s : State) (q : EngCmd) (v : VSlot) : Bytes :=
  if bkDukpt q.blk then Config.dukptKey (bkOp q.blk) v.key ((s.engIn q).take (ksnLen q.blk)) else v.key

/-- The KSN of the command is in order (R272). -/
def State.ksnGood (s : State) (q : EngCmd) : Bool := !bkDukpt q.blk || ksnOk ((s.engIn q).take (ksnLen q.blk))

/-- The leftmost `n` bytes of the MAC of a command's data (R266). -/
def State.macOf (s : State) (q : EngCmd) (n : Nat) : Bytes :=
  let v := s.keyOf (s.tokenAt q (bkA q.blk))
  bytesOf n (Config.macByte (bkAlg q.blk) (bkPad2 q.blk) (s.workKey q v) ((s.engIn q).drop (ksnLen q.blk)))

/-- MAC_GEN (R266). -/
def State.doMacGen (s : State) (q : EngCmd) : EngRes :=
  if !s.ksnGood q then EngRes.invalid
  else { out := s.macOf q (if bkParam q.blk = 0 then macMax (bkAlg q.blk) else bkParam q.blk) }

/-- MAC_VERIFY (R266). -/
def State.doMacVerify (s : State) (q : EngCmd) : EngRes :=
  if s.ksnGood q && s.macOf q (bkAuxLen q.blk) == s.engAux q then {} else EngRes.invalid

/-- Digit `i` of a PIN field, the control field being digit 0 (R269, R271). -/
def pinDigit (f : BitVec 64) (i : Nat) : Nat := nbits f.toNat (60 - 4 * i) 4

/-- A deciphered PIN field is in order (R271). -/
def pinFieldOk (format : Nat) (f : BitVec 64) : Bool :=
  let n := pinDigit f 1
  pinDigit f 0 == format && decide (4 ≤ n) && decide (n ≤ 12) &&
    (List.range 14).all (fun i =>
      let d := pinDigit f (i + 2)
      if i < n then decide (d ≤ 9)
      else match format with
        | 0 => d == 15
        | 3 => decide (10 ≤ d)
        | 4 => d == 10
        | _ => true)

/-- A PIN in the field of another format: control, length, digits, and a fill of F or A (R269, R271). -/
def pinRefield (format : Nat) (f : BitVec 64) : BitVec 64 :=
  let n := pinDigit f 1
  let fill := if format = 4 then 10 else 15
  BitVec.ofNat 64 ((List.range 16).foldl (fun acc i =>
    acc * 16 + (if i = 0 then format else if i = 1 then n else if i < n + 2 then pinDigit f i else fill)) 0)

/-- PIN_TRANSLATE (R269 to R272). Fills of formats 1, 3 and 4 come from the DRBG. -/
def State.doPin (s : State) (q : EngCmd) : EngRes :=
  let b := q.blk
  let va := s.keyOf (s.tokenAt q (bkA b))
  let vb := s.keyOf (s.tokenAt q (bkB b))
  let pan := s.engAux q
  let f := Config.pinField (pinFrom b) (s.workKey q va) pan ((s.engIn q).drop (ksnLen b))
  if !s.ksnGood q || !pan.all (fun c => decide (0x30 ≤ c.toNat) && decide (c.toNat ≤ 0x39)) || !pinFieldOk (pinFrom b) f then
    EngRes.invalid
  else
    let d := s.drbgOf q
    { out := bytesOf (pinLen (pinTo b)) (Config.pinBlockByte (pinTo b) vb.key pan (pinRefield (pinTo b) f) d)
      drbg := if pinTo b = 0 then none else some (Config.drbgNext d) }

/-- HASH (R266). -/
def State.doHash (s : State) (q : EngCmd) : EngRes := 
  { out := bytesOf (digestLen (bkAlg q.blk)) (Config.digestByte (bkAlg q.blk) (s.engIn q)) }

/-- KEY_EXPORT (R265). -/
def State.doExport (s : State) (q : EngCmd) : EngRes :=
  let va := s.keyOf (s.tokenAt q (bkA q.blk))
  let vb := s.keyOf (s.tokenAt q (bkB q.blk))
  let d := s.drbgOf q
  let h : Config.KeyHeader :=
    { version := if vb.alg = 0x41 then 0x44 else 0x42, usage := va.usage, alg := va.alg, mode := va.mode, exp := va.exp
      ver := va.ver, bits := va.size, pubExp := 0, blocks := [] }
  { out := Config.keyBlock vb.key h va.key d, drbg := some (Config.drbgNext d) }

/-- RANDOM (R267). -/
def State.doRandom (s : State) (q : EngCmd) : EngRes :=
  let d := s.drbgOf q
  { out := bytesOf (bkOutLen q.blk) (Config.drbgByte d), drbg := some (Config.drbgNext d) }

/-- The template of an ATTENUATE is no stronger than its source (R264). -/
def weaker (src t : Bytes) : Bool :=
  tkFormat t == tkFormat src && (tkFormat src != 1 || tkSlot t == tkSlot src) && tkGen t == tkGen src &&
    tkSealId t == tkSealId src && (tkRights t &&& tkRights src) == tkRights t &&
    (!nbit (tkFlags src) 0 || (nbit (tkFlags t) 0 && tkChannel t == tkChannel src)) &&
    decide (tkFrom src ≤ tkFrom t) && decide (tkUntil t ≤ tkUntil src) && decide (tkFrom t < tkUntil t) && tkReservedOk t &&
    (tkFormat src != 2 || (!nbit (tkFlags t) 0 && decide (tkSpan t ≤ 20) && tkSlot t % 2 ^ tkSpan t == 0 &&
      tkCovers src (tkSlot t) (2 ^ tkSpan t)))

/-- A source token's seal verified notes it in the bench's cache (R277). -/
def State.noteSource (s : State) (q : EngCmd) : State :=
  let src := s.tokenAt q (bkA q.blk)
  let b := benchOf q.core
  if bkOp q.blk == 7 && ((s.bench b).tokCache.contains src || s.sealOk src) then s.modBench b (fun x => x.noteToken src) else s

/-- ATTENUATE (R264): the source is checked at orders 1 and 5 only. -/
def State.doAttenuate (s : State) (q : EngCmd) : EngRes :=
  let src := s.tokenAt q (bkA q.blk)
  let cached := (s.bench (benchOf q.core)).tokCache.contains src
  let t := s.engAux q
  if !(cached || s.sealOk src) then EngRes.token stSeal 1
  else if !s.genOk src then EngRes.token stGeneration 1
  else if !weaker src t then EngRes.token stRights 1
  else { out := s.sealToken t }

/-- Whether a signing command draws from the DRBG (R273). -/
def drawsRandom (b : W512) : Bool := bkHedged b || (decide (7 ≤ bkAlg b) && decide (bkAlg b ≤ 9))

/-- SIGN (R273). -/
def State.doSign (s : State) (q : EngCmd) : EngRes :=
  let v := s.keyOf (s.tokenAt q (bkA q.blk))
  let d := if drawsRandom q.blk then s.drbgOf q else 0
  { out := bytesOf (signLen (bkAlg q.blk) v) (Config.signByte (bkAlg q.blk) (W512.fld q.blk 1 1) v.key (s.engIn q) d)
    drbg := if drawsRandom q.blk then some (Config.drbgNext d) else none }

/-- VERIFY (R274). -/
def State.doVerify (s : State) (q : EngCmd) : EngRes :=
  let v := s.keyOf (s.tokenAt q (bkA q.blk))
  if bkAuxLen q.blk = signLen (bkAlg q.blk) v ∧ Config.verify (bkAlg q.blk) (W512.fld q.blk 1 1) v.key (s.engIn q) (s.engAux q) then {} else EngRes.invalid

/-! ### Executing a command -/

/-- The areas that an engine reads, by address and length: the tokens, and IN and AUX (R261, R263). -/
def tokenAreas (b : W512) : List (Nat × Nat) :=
  (if usesA (bkOp b) then [(bkA b, 48)] else []) ++ (if usesB (bkOp b) then [(bkB b, 48)] else [])

/-- IN and AUX, where the command uses them. -/
def dataAreas (b : W512) : List (Nat × Nat) :=
  (if usesIn (bkOp b) then [(bkIn b, bkInLen b)] else []) ++ (if usesAux b then [(bkAux b, bkAuxLen b)] else [])

/-- The address at which the command meets a poisoned line, of what it reads (R474). -/
def State.readsPoison (s : State) (q : EngCmd) : Option Nat :=
  (tokenAreas q.blk ++ dataAreas q.blk).findSome? (fun a => if a.2 = 0 then none else s.poisonIn q.core a.1 a.2)

/-- Reads of areas marked in their frames (R297). -/
def State.touchAreas (s : State) (l : List (Nat × Nat)) : State := l.foldl (fun t a => t.touchRead a.1 a.2) s

/-- A command completed, counted on its engine (R509). -/
def State.countDone (s : State) (q : EngCmd) : State :=
  let c := s.counters
  let n := s.engOf q
  { s with counters := { c with
      sigDone := tinc c.sigDone n 1, sigRetried := if q.retried then tinc c.sigRetried n 1 else c.sigRetried } }

/-- A command taken from its queue. -/
def State.takeCmd (s : State) (q : EngCmd) : State :=
  s.modBench (benchOf q.core) (fun x => { x with
    cipherQ := x.cipherQ.filter (fun y => y != q), sigQ := x.sigQ.filter (fun y => y != q) })

/-- A command executed (R251, R263, R276): tokens, then the work, then the result. -/
def State.runCmd (s : State) (q : EngCmd) (work : State → EngCmd → EngRes) : State :=
  let s := (s.takeCmd q).countDone q
  match s.readsPoison q with
  | some at_ => s.completeTag q (some at_)
  | none =>
    let r := (s.touchAreas (tokenAreas q.blk)).checkTokens q
    match r.2 with
    | some (st, n) => (r.1.countFail q).putResult q (EngRes.token st n)
    | none =>
      let t := (r.1.touchAreas (dataAreas q.blk)).noteSource q
      let res := work t q
      (if res.failed = 0 then t else t.countFail q).putResult q res

/-- Engines of the command's kind can execute it: one is in service, the kilns' arrays are not lent, and the device is not
stopped (R163, R276, R281). -/
def State.engineRuns (s : State) (b : Nat) (sig : Bool) : Bool :=
  decide (6 < s.su.step) && !s.su.halted && !s.su.flushing && !s.su.sysResetLow &&
    (if sig then !(s.bench b).lent && s.activeSigs b != 0 else s.activeCiphers b != 0)

/-- An engine of a bench takes the first command of its queue, which is that of the earliest DEADLINE, where its opcode is the
row's (R275, log 60). -/
def engineRow (bench op : Nat) (s : State) (work : State → EngCmd → EngRes) : Out3 :=
  if 4 ≤ bench then .fault .noSuchUnit
  else .next (
    let x := s.bench bench
    match (if isSig op then x.sigQ else x.cipherQ) with
    | [] => s
    | q :: _ => if bkOp q.blk == op && s.engineRuns bench (isSig op) then s.runCmd q work else s)

/-- MAC_GEN (R266). -/
def execMacGen (bench : Nat) (s : State) : Out3 := engineRow bench 1 s State.doMacGen
/-- MAC_VERIFY (R266). -/
def execMacVerify (bench : Nat) (s : State) : Out3 := engineRow bench 2 s State.doMacVerify
/-- PIN_TRANSLATE (R269). -/
def execPinTranslate (bench : Nat) (s : State) : Out3 := engineRow bench 3 s State.doPin
/-- HASH (R266). -/
def execHashCmd (bench : Nat) (s : State) : Out3 := engineRow bench 4 s State.doHash
/-- KEY_EXPORT (R265). -/
def execKeyExport (bench : Nat) (s : State) : Out3 := engineRow bench 5 s State.doExport
/-- RANDOM (R267). -/
def execRandomCmd (bench : Nat) (s : State) : Out3 := engineRow bench 6 s State.doRandom
/-- ATTENUATE (R264). -/
def execAttenuate (bench : Nat) (s : State) : Out3 := engineRow bench 7 s State.doAttenuate
/-- SIGN (R273). -/
def execSignCmd (bench : Nat) (s : State) : Out3 := engineRow bench 0x10 s State.doSign
/-- VERIFY (R274). -/
def execVerifyCmd (bench : Nat) (s : State) : Out3 := engineRow bench 0x11 s State.doVerify

/-! ### Engine faults (R39, R41, R276) -/

/-- A queued command retried elsewhere: the first of its queue, which the faulted engine ran. -/
def retryFirst : List EngCmd → List EngCmd
  | [] => []
  | q :: qs => { q with retried := true } :: qs

/-- The reference names an engine of a bench: 32 signature engines, 4 cipher engines. -/
def EngineRef.ok (u : EngineRef) : Bool := match u with | .signature n => decide (n < 32) | .cipher n => decide (n < 4)

/-- A signature engine is deconfigured and replaced by the bench's spare where that is left (R24, R39, R276, R425). -/
def State.signatureGone (s : State) (bench n : Nat) : State :=
  if s.ident.deconf.any (fun d => d.1 == PartRef.signature bench n) && s.deadSigs bench ≠ 1 then s
  else
    let spare : Bool := s.deadSigs bench == 0
    let s := (s.logErr 3 2 (32 * bench + n) 0).raise bench 49 (n / 8 * 16 + n % 8)
    let s := { s with ident := { s.ident with deconf := s.ident.deconf ++ [(PartRef.signature bench n, s.elogNext - 1)] } }
    let s := s.modBench bench (fun x => { x with sigQ := retryFirst x.sigQ })
    let s := if spare then s.raise bench 66 (32 * bench + n + 2 ^ 23) else s
    s.deviceConfig 4

/-- A cipher engine is deconfigured without a spare (R276, R425). -/
def State.cipherGone (s : State) (bench n : Nat) : State :=
  if s.ident.deconf.any (fun d => d.1 == PartRef.cipher bench n) then s
  else
    let s := (s.logErr 3 3 (4 * bench + n) 0).raise bench 48 n
    let s := { s with ident := { s.ident with deconf := s.ident.deconf ++ [(PartRef.cipher bench n, s.elogNext - 1)] } }
    let s := s.modBench bench (fun x => { x with cipherQ := retryFirst x.cipherQ })
    s.deviceConfig 4

/-- ENGINE_FAULT (R39, R276): the command is retried on another engine of the bench. -/
def execEngineFault (bench : Nat) (unit : EngineRef) (s : State) : Out3 :=
  if 4 ≤ bench || !EngineRef.ok unit then .fault .noSuchUnit
  else if !s.timeRuns then .next s
  else .next (
    match unit with
    | .signature n => s.signatureGone bench n
    | .cipher n => s.cipherGone bench n)

/-! ### Entropy (R267, R268) -/

/-- ENTROPY (R267): a bench's DRBG is reseeded; `healthy` says that the source passed its tests. Part of the background
work, it is charged there. -/
def State.reseed (s : State) (b : Nat) (value : BitVec 384) (healthy : Bool) : State :=
  s.modBench b (fun x =>
    if healthy then { x with drbg := Config.drbgReseed x.drbg value, reseedDue := 0 }
    else { x with reseedDue := if x.reseedDue = 0 then s.time.ns else x.reseedDue })

/-- ENTROPY_HEALTH_FAIL (R268): test 0 repetition count, 1 adaptive proportion. The source restarts, and the reseeds due
until it is healthy are missed. -/
def execEntropyHealthFail (test : Nat) (s : State) : Out3 :=
  if 2 ≤ test then .fault .noSuchUnit
  else .next (if s.timeRuns then (s.logErr 2 0x0B 0xFFFF 0).raiseAll 50 test else s)

/-- RESEED_TIMEOUT (R268): 60 ledger s after the first missed reseed. -/
def execReseedTimeout (s : State) : Out3 :=
  if !s.timeRuns then .next s
  else .next (
    match ((List.range 4).map (fun b => (s.bench b).reseedDue)).filter (fun t => t != 0) with
    | [] => s
    | t :: ts => (s.advanceTo (ts.foldl min t + 60 * secNs)).deviceFault)

/-! ### Tamper (R248) -/

/-- The commands of a bench end with KEY_ABSENT and write no output. -/
def State.cancelBench (s : State) (b : Nat) : State :=
  let x := s.bench b
  let s := (x.cipherQ ++ x.sigQ).foldl (fun t q => t.putResult q { status := stKeyAbsent, verdict := 0 }) s
  s.modBench b (fun y => { y with cipherQ := [], sigQ := [], keyCache := [], tokCache := [], drbg := 0, kek := 0 })

/-- Everything R248 names overwritten with zeros. -/
def State.zeroize (s : State) : State :=
  let s := [0, 1, 2, 3].foldl State.cancelBench s
  { s with
    vault := { s.vault with pkgKey := 0, sealKeys := [], working := false }
    su := { s.su with vaultMade := false } }

/-- TAMPER (R248): keys and engine state are zeroized, and the device enters the device-fault state. -/
def execTamper (s : State) : Out3 :=
  .next (
    let s := (s.zeroize.logErr 4 0x0E 0xFFFF 0).raiseAlert 8
    (s.raiseAll 51 0).deviceFault)

end Sys2Proof.Machine
end

