-- ==== Sys2Proof/Machine/Background.lean ====
section
/-!
DEFINITION. Background work and the faults of memories and cores (13_memory_and_background_work; R39 to R41, R377): units
and their charges (R484 to R487), link and ECC errors of GDDR6 (R471 to R474), retirement of a channel (R473), scrubs
(R482, R483), telemetry samples (R509), reseeds (R267) and core faults (R39).
-/

namespace Sys2Proof.Machine

/-! ### Units -/

/-- Slot length of an activity in ledger ns (R484, R489): for retraining the most that the table allows. -/
def slotNs (a : Nat) : Nat :=
  match a with
  | 1 => 350
  | 2 => 1500
  | 3 => 1500
  | 4 => 250
  | 5 => 500
  | 6 => 4000
  | 9 => 200
  | _ => 0

/-- Activities run: the device is in service; in P3 activities 1 to 5, 9 and 10 stop (R487). -/
def State.bgRuns (s : State) (a : Nat) : Bool :=
  s.timeRuns && (s.power.state != 3 || a == 6 || a == 7 || a == 8)

/-- The charge of a slot that delayed an item of a bench (R425, R486). -/
def State.chargeSlot (s : State) (a b : Nat) : State :=
  (s.modBench b (fun x => { x with charge := tinc x.charge a (slotNs a) })).raise b 21 a

/-- A unit takes its slot: ledger time reaches the instant at which it falls due, and the benches whose items it delays are
charged (R484 to R486). -/
def State.takeSlot (s : State) (a r : Nat) (delayed : List Nat) : State :=
  let due := s.unitDue a r
  let s := s.advanceTo due
  let s := { s with
    bgDue := s.bgDue.filter (fun d => !(d.act == a && d.res == r)), bgLast := tset s.bgLast (64 * a + r) due }
  ((List.range 4).filter (fun b => delayed.contains b)).foldl (fun t b => t.chargeSlot a b) s

/-- A background row: nothing happens while its activity does not run. -/
def unitRow (a r : Nat) (delayed : List Nat) (s : State) (work : State → State) : Out3 :=
  .next (if s.bgRuns a then (work (s.takeSlot a r delayed)).settleAll else s)

/-! ### Parts that leave service -/

/-- A part other than a core is deconfigured: its error-log entry, the list and the CONFIG record (R39, R168, R508). -/
def State.partGone (s : State) (part : PartRef) (unit number : Nat) : State :=
  let s := s.logErr 3 unit number 0
  { s with ident := { s.ident with deconf := s.ident.deconf ++ [(part, s.elogNext - 1)] } }.deviceConfig 4

/-- The retired GDDR6 channels of the package. -/
def State.retiredAll (s : State) : Nat := overBenches s.retiredCh

/-- A channel is retired: it is powered down, MEMORY_CHANNEL is raised and the entry recorded; a third is a device fault
(R41, R473). -/
def State.retireChannel (s : State) (ch : Nat) : State :=
  if (s.gddrCh ch).retired then s
  else
    let s := s.modGddr ch (fun g => { g with retired := true, moving := false })
    let s := (s.partGone (.gddr ch) 4 ch).raiseAll 67 ch
    if 3 ≤ s.retiredAll then s.deviceFault else s

/-- Retirement of a channel begins: its lines move into the reserve (R473). -/
def State.beginRetire (s : State) (ch : Nat) : State :=
  if (s.gddrCh ch).retired then s else s.modGddr ch (fun g => { g with moving := true })

/-- An MRAM die fails; it is rebuilt from parity, and a third is a device fault (R39, R41). -/
def State.dieGone (s : State) (die : Nat) : State :=
  if s.mramFailed.contains die then s
  else
    let s := { s with mramFailed := s.mramFailed ++ [die] }.partGone (.mram die) 5 die
    if 3 ≤ s.mramFailed.length then s.deviceFault else s

/-! ### Poisoned lines -/

/-- The code or read-only data of a generation holds a line. -/
def Gen.holdsLine (g : Gen) (line : Nat) : Bool :=
  decide (g.codeAt ≤ 64 * line + 63) && decide (64 * line < g.codeAt + g.dataLen)

/-- A line of firmware's region (R463). -/
def firmwareLine (line : Nat) : Bool := decide (0x000500000000 ≤ 64 * line) && decide (64 * line < 0x000520000000)

/-- A line of external memory is poisoned (R472, R474): a generation of which it holds code or read-only data becomes absent.
Where firmware keeps its copy of the microcode image the manual does not say: whether a line of its region belongs to the
copy is free (log 4). -/
def State.poisonLine (s : State) (line : Nat) : State :=
  let hit (g : Gen) : Gen := if !g.absent && g.holdsLine line then { g with absent := true } else g
  let copy : Bool := firmwareLine line && s.ucode.loaded && s.freeVal.getLsbD 0
  { s.nextFree with
    poisoned := if s.poisoned.contains line then s.poisoned else line :: s.poisoned
    progs := s.progs.map (fun p => (p.1, { p.2 with gens := p.2.gens.map hit }))
    ucode := if copy then { s.ucode with absent := true } else s.ucode }

/-- A line of a channel is poisoned, and retirement of the channel begins (R472, R473). -/
def State.poisonOn (s : State) (ch line : Nat) : State :=
  ((s.modGddr ch (fun g => { g with poison := g.poison + 1 })).poisonLine line).beginRetire ch

/-! ### GDDR6 -/

/-- A retraining unit of a channel (R473, R487): activity 2 or 3. -/
def State.retrain (s : State) (a ch : Nat) (ok : Bool) : State :=
  let s := s.modGddr ch (fun g => { g with
    retrains := g.retrains + 1, failed := if ok then 0 else g.failed + 1
    tempWck := if a = 2 then g.temp else g.tempWck, tempData := if a = 3 then g.temp else g.tempData })
  if 3 ≤ (s.gddrCh ch).failed then s.beginRetire ch else s

/-- A unit made due at once (R487). -/
def State.dueNow (s : State) (a ch latest : Nat) : State :=
  if s.bgDue.any (fun d => d.act == a && d.res == ch) then s
  else { s with bgDue := s.bgDue ++ [⟨a, ch, s.time.ns, s.time.ns + latest⟩] }

/-- The benches whose items wait for a slot, read from a free value. -/
def freeDelays (v : W) : List Nat := (List.range 4).filter (fun b => v.getLsbD b)

/-- A retraining unit of a channel that runs at once (R472, R487). Whether it succeeds, and, where items run, which benches'
items wait for its slot, stands in no operand: both are free (log 104). -/
def State.retrainNow (s : State) (a ch : Nat) (running : Bool) : State :=
  let v := s.freeVal
  ((s.nextFree.dueNow a ch 0).takeSlot a ch (if running then freeDelays v else [])).retrain a ch (v.getLsbD 4)

/-- A row of an active channel. -/
def onGddr (ch : Nat) (s : State) (f : State → Out3) : Out3 :=
  if 24 ≤ ch then .fault .noSuchUnit else if (s.gddrCh ch).retired then .next s else f s

/-- REFRESH (R484). -/
def execRefresh (ch : Nat) (delayed : List Nat) (s : State) : Out3 :=
  onGddr ch s (fun s => unitRow 1 ch delayed s id)

/-- WCK_RETRAIN (R473, R484, R487). -/
def execWckRetrain (ch : Nat) (ok : Bool) (delayed : List Nat) (s : State) : Out3 :=
  onGddr ch s (fun s => unitRow 2 ch delayed s (fun s => s.retrain 2 ch ok))

/-- DATA_RETRAIN (R473, R484, R487). -/
def execDataRetrain (ch : Nat) (ok : Bool) (delayed : List Nat) (s : State) : Out3 :=
  onGddr ch s (fun s => unitRow 3 ch delayed s (fun s => s.retrain 3 ch ok))

/-- An ECC error corrected on a channel (R471, R473, R482): counted, logged and raised on the bench that drives the channel;
more than 1,000 within 1 ledger s retire it. -/
def State.eccCorrected (s : State) (ch : Nat) : State :=
  let now := s.time.ns
  let s := s.modGddr ch (fun g => { g with ecc := g.ecc + 1, corrAt := (now :: g.corrAt).take 1001 })
  let s := s.logCorrected (ch / 6) 4 ch
  let l := (s.gddrCh ch).corrAt
  if decide (1001 ≤ l.length) && l.all (fun t => decide (now ≤ t + secNs)) then s.beginRetire ch else s

/-- A scrub unit of a channel (R472, R482): the errors it corrected, and the lines it found beyond correction. -/
def State.scrubGddr (s : State) (ch corrected : Nat) (bad : List Nat) : State :=
  let s := (List.range corrected).foldl (fun t _ => t.eccCorrected ch) s
  bad.foldl (fun t l => t.poisonOn ch l) s

/-- GDDR6_SCRUB (R472, R482, R484). -/
def execGddr6Scrub (ch corrected : Nat) (bad : List Nat) (delayed : List Nat) (s : State) : Out3 :=
  onGddr ch s (fun s => unitRow 4 ch delayed s (fun s => s.scrubGddr ch corrected bad))

/-- GDDR6_CRC_ERROR (R472): the access is issued again up to 4 times, each retry counted; after a fourth that fails, a
WCK2CK and a data retraining unit run at once and the access is issued once more; where that fails too, the line is
poisoned and the channel retires. -/
def execGddr6CrcError (ch : Nat) (write : Bool) (retries : Nat) (finalOk : Bool) (line : Nat) (s : State) : Out3 :=
  onGddr ch s (fun s =>
    if !s.bgRuns 1 then .next s
    else
      let n := min 4 (max 1 retries)
      let s := s.modGddr ch (fun g =>
        if write then { g with writeRetries := g.writeRetries + n } else { g with readRetries := g.readRetries + n })
      if retries ≤ 4 then .next s
      else
        let s := (s.retrainNow 2 ch true).retrainNow 3 ch true
        .next (if finalOk then s else (s.poisonOn ch line).settleAll))

/-- A temperature has moved by more than 3 °C. -/
def moved (a b : Int) : Bool := decide (3 < (a - b).natAbs)

/-- GDDR6_TEMPERATURE_DRIFT (R487): the device temperature of a channel as it now is. -/
def execGddr6TemperatureDrift (ch : Nat) (temp : Int) (s : State) : Out3 :=
  onGddr ch s (fun s =>
    if !s.bgRuns 2 then .next s
    else
      let g := s.gddrCh ch
      let s := s.modGddr ch (fun g => { g with temp := temp })
      let s := if moved temp g.tempWck then s.dueNow 2 ch 1000000 else s
      .next (if moved temp g.tempData then s.dueNow 3 ch 1000000 else s))

/-- CHANNEL_MOVE (R473): the move ends; lines that could not be read are poisoned in their new place. -/
def execChannelMove (ch : Nat) (unreadable : List Nat) (s : State) : Out3 :=
  onGddr ch s (fun s =>
    if !s.bgRuns 10 || !(s.gddrCh ch).moving then .next s
    else
      let s := unreadable.foldl (fun t l => (t.modGddr ch (fun g => { g with poison := g.poison + 1 })).poisonLine l) s
      .next (s.retireChannel ch).settleAll)

/-! ### SRAM and MRAM -/

/-- A corrected error of the hub: it is no bench's, so CORRECTED_ERROR is raised on all (R425, R482). -/
def State.hubCorrected (s : State) (unit number : Nat) : State :=
  let seq := s.elogNext
  (s.logErr 1 unit number 0).raiseAll 64 (seq % 2 ^ 24)

/-- A scrub unit of an SRAM die (R482, R483): dies 0 to 3 are the benches, 4 the hub. A word of a device structure beyond
correction is a device fault; a line of core-local SRAM or of the pool is poisoned. -/
def State.scrubSram (s : State) (die corrected : Nat) (bad : SramBad) : State :=
  let s := (List.range corrected).foldl (fun t _ => if die < 4 then t.logCorrected die 6 die else t.hubCorrected 6 die) s
  match bad with
  | .none => s
  | .structure_ => (s.logErr 4 6 die 0).deviceFault
  | .poolLine l => { s with poisoned := if s.poisoned.contains l then s.poisoned else l :: s.poisoned }

/-- SRAM_SCRUB (R482 to R484). -/
def execSramScrub (die corrected : Nat) (bad : SramBad) (delayed : List Nat) (s : State) : Out3 :=
  if 5 ≤ die then .fault .noSuchUnit
  else unitRow 5 die delayed s (fun s => s.scrubSram die corrected bad)

/-- A scrub unit of MRAM (R482, R483): lines corrected, and a die that held one beyond correction, which parity rebuilds
(R39). -/
def State.scrubMram (s : State) (corrected : Nat) (bad : Option Nat) : State :=
  let s := (List.range corrected).foldl (fun t _ => t.hubCorrected 5 0xFFFF) s
  let s := { s with counters := { s.counters with mramCorrected := s.counters.mramCorrected + corrected } }
  match bad with
  | none => s
  | some die => s.logErr 2 5 die 0

/-- MRAM_SCRUB (R482 to R484). -/
def execMramScrub (corrected : Nat) (bad : Option Nat) (delayed : List Nat) (s : State) : Out3 :=
  unitRow 6 0 delayed s (fun s => s.scrubMram corrected bad)

/-! ### Windows (R489) -/

/-- The resources of an activity that may be bound to a window (R484): the channels in service, the SRAM dies, the MRAM. -/
def State.bgResources (s : State) (a : Nat) : List Nat :=
  match a with
  | 5 => [0, 1, 2, 3, 4]
  | 6 => [0]
  | _ => (List.range 24).filter (fun ch => !(s.gddrCh ch).retired)

/-- Units in the order in which one resource runs them (R485): by latest start, then by activity. -/
def earlierUnit (s : State) (x y : Nat × Nat) : Bool :=
  let l := s.unitLatest x.1 x.2
  let m := s.unitLatest y.1 y.2
  decide (l < m) || (l == m && decide (x.1 < y.1))

/-- A unit put into its place among others. -/
def placeUnit (s : State) (x : Nat × Nat) : List (Nat × Nat) → List (Nat × Nat)
  | [] => [x]
  | y :: ys => if earlierUnit s x y then x :: y :: ys else y :: placeUnit s x ys

/-- The units that an open window lets run at once (R489): those of the activities bound to it that run and are due. -/
def State.windowUnits (s : State) (idx : Nat) : List (Nat × Nat) :=
  let acts := [2, 3, 4, 5, 6].filter (fun a => (s.bgAct a).window == idx && s.bgRuns a)
  let units := acts.flatMap (fun a => (s.bgResources a).map (fun r => (a, r)))
  (units.filter (fun x => decide (s.unitDue x.1 x.2 ≤ s.time.ns))).foldl (fun l x => placeUnit s x l) []

/-- A unit that a window lets run (R489). What it finds, and which benches' items wait for its slot, stands in no operand: both
are free (log 104). -/
def State.runUnit (s : State) (x : Nat × Nat) : State :=
  let v := s.freeVal
  let w := s.nextFree.freeVal.toNat
  let delayed := freeDelays v
  let n := nbits v.toNat 8 8
  let bad : Bool := v.getLsbD 4
  let s := s.nextFree.nextFree.takeSlot x.1 x.2 delayed
  match x.1 with
  | 4 => s.scrubGddr x.2 n (if bad then [w] else [])
  | 5 => s.scrubSram x.2 n (if !bad then .none else if v.getLsbD 5 then .structure_ else .poolLine w)
  | 6 => s.scrubMram n (if bad then some (w % 18) else none)
  | a => s.retrain a x.2 (!bad)

/-- WINDOW_OPEN (R131, R136, R425, R489): the source is raised, and the due units of the activities bound to the window run. -/
def execWindowOpen (idx : Nat) (s : State) : Out3 :=
  timed s (fun s =>
    match tget s.cal.win idx with
    | none => s
    | some e =>
      if e.open_ then s
      else
        let at_ := e.opening s.time.ns
        let s := s.advanceTo at_
        if at_ + e.duration ≤ s.time.ns then { s with cal := { s.cal with win := terase s.cal.win idx } }
        else
          let e' := { e with open_ := true, closeAt := at_ + e.duration, instant := at_ + e.period }
          let s := { s with cal := { s.cal with win := tset s.cal.win idx e' } }.raiseAll 20 idx
          let units := s.windowUnits idx
          if units.isEmpty then s else (units.foldl State.runUnit s).settleAll)

/-- MRAM_DIE_FAIL (R39, R41): 16 data dies and 2 parity dies. -/
def execMramDieFail (die : Nat) (s : State) : Out3 :=
  if 18 ≤ die then .fault .noSuchUnit else .next (if s.timeRuns then (s.dieGone die).settleAll else s)

/-! ### Telemetry, reseeds and cores -/

/-- TELEMETRY (R484, R509). -/
def execTelemetry (s : State) : Out3 := unitRow 8 0 [] s State.sampleAll

/-- ENTROPY (R267, R268, R484): no seed is there while the source is not healthy. -/
def execEntropy (bench : Nat) (seed : Option (BitVec 384)) (delayed : List Nat) (s : State) : Out3 :=
  if 4 ≤ bench then .fault .noSuchUnit
  else unitRow 9 bench delayed s (fun s => s.reseed bench (seed.getD 0) seed.isSome)

/-- CORE_FAULT (R39, R52): the instruction is retried, which telemetry counts; where the fault repeats, the core is
deconfigured, the error log and vector 514 report it, the spare comes in, and the core's items run again. -/
def execCoreFault (core : Nat) (repeats : Bool) (s : State) : Out3 :=
  if 96 ≤ core then .fault .noSuchUnit
  else .next (
    if !s.timeRuns || (s.core core).run == .deconfigured then s
    else
      let s := s.modCore core (fun k => { k with retries := k.retries + 1 })
      if repeats then ((((s.logErr 3 1 core 0).msixAll 514).coreGone core).settleAll) else s)

end Sys2Proof.Machine
end

