-- ==== Sys2Proof/Machine/Decimal.lean ====
section
/-!
DEFINITION. The decimal instructions (R358 to R377).
-/

namespace Sys2Proof.Machine

/-- A decimal instruction that may complete out of order (R282): it completes at once, or is left outstanding. -/
def State.decInstr (s : State) (c : Nat) (d : Desc) (o : DecOut) (late : Bool) : Out3 :=
  s.instr c o.px d (fun s nxt =>
    if late then .wait (s.modCore c (fun k => { k with dec := some o })) else decBody c o s nxt)

/-- The decoding of a decimal load or store: format M with a decimal data register; `au` says that the prefix AU is there. -/
def fmtDM (op : Nat) (au : Bool) (m : MemSpec) : Desc :=
  { op := op, len := 1 + m.len, ok := okF m.data :: m.oks au, fl := true, spec := true }

/-- No memory specifier. -/
def noMem : MemSpec := ⟨0, 0, 0, 0⟩

/-- DADD (R366). -/
def execIDadd (c : Nat) (px : List Pfx) (d a b : Byte) (late : Bool) (s : State) : Out3 :=
  s.decInstr c { op := 0x80, len := 4, ok := [okF d, okF a, okF b], fl := true } ⟨.add, px, d, a, b, 0, noMem⟩ late

/-- DSUB (R366). -/
def execIDsub (c : Nat) (px : List Pfx) (d a b : Byte) (late : Bool) (s : State) : Out3 :=
  s.decInstr c { op := 0x81, len := 4, ok := [okF d, okF a, okF b], fl := true } ⟨.sub, px, d, a, b, 0, noMem⟩ late

/-- DMUL (R366). -/
def execIDmul (c : Nat) (px : List Pfx) (d a b : Byte) (late : Bool) (s : State) : Out3 :=
  s.decInstr c { op := 0x82, len := 4, ok := [okF d, okF a, okF b], fl := true } ⟨.mul, px, d, a, b, 0, noMem⟩ late

/-- DDIV (R366). -/
def execIDdiv (c : Nat) (px : List Pfx) (d a b : Byte) (late : Bool) (s : State) : Out3 :=
  s.decInstr c { op := 0x83, len := 4, ok := [okF d && decide (d.toNat % 2 = 0), okF a, okF b], fl := true } ⟨.div, px, d, a, b, 0, noMem⟩ late

/-- DCMP (R369). -/
def execIDcmp (c : Nat) (px : List Pfx) (a b : Byte) (late : Bool) (s : State) : Out3 :=
  s.decInstr c { op := 0x84, len := 3, ok := [okF a, okF b], fl := true } ⟨.cmp, px, 0, a, b, 0, noMem⟩ late

/-- DNRM (R366). -/
def execIDnrm (c : Nat) (px : List Pfx) (d a : Byte) (late : Bool) (s : State) : Out3 :=
  s.decInstr c { op := 0x85, len := 3, ok := [okF d, okF a], fl := true } ⟨.nrm, px, d, a, 0, 0, noMem⟩ late

/-- DSCL (R368): a scale outside -31 to 31 or a mode above 2 is a reserved value. -/
def execIDscl (c : Nat) (px : List Pfx) (d a sc m : Byte) (late : Bool) (s : State) : Out3 :=
  s.decInstr c
    { op := 0x86, len := 5, ok := [okF d, okF a, decide (sc.toInt.natAbs ≤ 31), decide (m.toNat ≤ 2)], fl := true }
    ⟨.scl, px, d, a, sc, m, noMem⟩ late

/-- DLD (R370). -/
def execIDld (c : Nat) (px : List Pfx) (m : MemSpec) (late : Bool) (s : State) : Out3 :=
  s.decInstr c (fmtDM 0x87 (hasPx px 5) m)
    ⟨.ld, px, 0, 0, 0, 0, m⟩ late

/-- ZTOD (R371). -/
def execIZtod (c : Nat) (px : List Pfx) (m : MemSpec) (late : Bool) (s : State) : Out3 :=
  s.decInstr c (fmtDM 0x89 false m)
    ⟨.ztod, px, 0, 0, 0, 0, m⟩ late

/-- GTOD (R373). -/
def execIGtod (c : Nat) (px : List Pfx) (d a : Byte) (late : Bool) (s : State) : Out3 :=
  s.decInstr c { op := 0x8B, len := 3, ok := [okF d, okG a], fl := true } ⟨.gtod, px, d, a, 0, 0, noMem⟩ late

/-- DTOG (R373). -/
def execIDtog (c : Nat) (px : List Pfx) (d a : Byte) (late : Bool) (s : State) : Out3 :=
  s.decInstr c { op := 0x8C, len := 3, ok := [okG d, okF a], fl := true } ⟨.dtog, px, d, a, 0, 0, noMem⟩ late

/-- A store of a decimal register as a field: access checks, validity, overflow, then the bytes (R365, R370, R372). -/
def decStore (c : Nat) (px : List Pfx) (m : MemSpec) (n : Nat) (field : Core → Nat → Bool → Nat → Bytes) (keepC : Bool)
    (s : State) (nxt : Nat) : Eff :=
  let k := s.core c
  let len := decLen px
  match memEa k px m nxt with
  | .error e => .exc e
  | .ok (a, u) =>
    match s.checkBytes (whoOf c k px) a.toNat n true with
    | some e => .exc e
    | none =>
      let v := k.rd m.data.toNat
      match decValid [v] with
      | some e => .exc e
      | none =>
        let tooBig := decide (10 ^ len ≤ drMag v)
        if tooBig && k.doe then .exc { vec := 7, cause := 1 }
        else
          let mag := drMag v % 10 ^ len
          .next ((s.storeLong c a.toNat (field k len (drMinus v) mag)).modCore c (fun k =>
            (k.decFlags (mag == 0) (drMinus v && mag != 0) tooBig (keepC && k.fC)).advanceAu u))

/-- DST (R370). -/
def execIDst (c : Nat) (px : List Pfx) (m : MemSpec) (s : State) : Out3 :=
  s.instr c px (fmtDM 0x88 (hasPx px 5) m)
    (decStore c px m (decLen px / 2 + 1) (fun _ len minus mag => packedOf len minus mag) false)

/-- DTOZ (R372): C selects the form and is unchanged. -/
def execIDtoz (c : Nat) (px : List Pfx) (m : MemSpec) (s : State) : Out3 :=
  s.instr c px (fmtDM 0x8A false m)
    (decStore c px m (decLen px) (fun k len minus mag => zonedOf k.fC len minus mag) true)

/-- DADJ's adjusted value and carry (R374). -/
def dadjRes (x : Nat) (h : Bool) : Nat × Bool :=
  let t := x % 512
  let t := if h ∨ 9 < t % 16 then t + 6 else t
  let cy := x.testBit 8 || decide (9 < nbits t 4 5)
  ((if cy then t + 0x60 else t) % 256, cy)

/-- DADJ (R374). -/
def execIDadj (c : Nat) (px : List Pfx) (d a : Byte) (s : State) : Out3 :=
  s.regInstr c px { op := 0x8D, len := 3, ok := [okG d, okG a], fl := true } (fun k =>
    let r := dadjRes (k.gn a) k.fH
    (k.wg d.toNat (BitVec.ofNat 64 r.1)).setFl r.2 (r.1 == 0) false false false)

/-- The doubled digit of ISO/IEC 7812-1 (R375). -/
def luhnDbl (x : Nat) : Nat := if x < 5 then 2 * x else 2 * x - 9

/-- The sums s1 and s2 of digits, the rightmost first (R375). -/
def luhnSums : Bool → List Nat → Nat × Nat
  | _, [] => (0, 0)
  | even, x :: xs =>
    let r := luhnSums (!even) xs
    if even then (r.1 + luhnDbl x, r.2 + x) else (r.1 + x, r.2 + luhnDbl x)

/-- LUHN (R375). -/
def execILuhn (c : Nat) (px : List Pfx) (d a b : Byte) (s : State) : Out3 :=
  s.instr c px (fmtR3 0x8E d a b) (fun s _ =>
    let k := s.core c
    let n := k.gn b
    let addr := k.rg a.toNat
    if n = 0 ∨ 64 < n then .exc Exn.reserved
    else match s.checkBytes (whoOf c k px) addr.toNat n false with
    | some e => .exc e
    | none =>
      let bs := s.readBytes c addr.toNat n
      match (List.range n).find? (fun i => decide (byteAt bs i < 0x30) || decide (0x39 < byteAt bs i)) with
      | some i => .exc { vec := 6, cause := 1, g2 := addr + BitVec.ofNat 64 i }
      | none =>
        let sums := luhnSums true ((bs.map (fun x => x.toNat - 0x30)).reverse)
        .next ((s.touchRead addr.toNat n).modCore c (fun k =>
          (k.wg d.toNat (BitVec.ofNat 64 ((10 - sums.1 % 10) % 10))).setZ (sums.2 % 10 == 0))))

/-- DMOV (R366): bit for bit, unchecked. -/
def execIDmov (c : Nat) (px : List Pfx) (d a : Byte) (s : State) : Out3 :=
  s.regInstr c px { op := 0x8F, len := 3, ok := [okF d, okF a] } (fun k => k.wd d.toNat (k.rd a.toNat))

/-- The instructions whose result has a residue check (R376). -/
def DecOp.residue : DecOp → Bool
  | .cmp => false
  | .ld => false
  | .ztod => false
  | _ => true

/-- DECIMAL_COMPLETE (R366, R376, R377): `mismatches` attempts fail the residue check before one matches; at the third
the core check-stops. -/
def execDecimalComplete (core mismatches : Nat) (s : State) : Out3 :=
  if core < 96 then
    .next (
      if !s.coreRuns core then s else
      match (s.core core).dec with
      | none => s
      | some o =>
        let n := if o.op.residue then mismatches else 0
        if 3 ≤ n then s.checkStop core
        else
          let s := if n = 0 then s else
            (s.modCore core (fun k => { k with residue := k.residue + n })).logCorrected (benchOf core) 1 core
          (s.finishDec core).1)
  else .fault .noSuchUnit

end Sys2Proof.Machine
end

