-- ==== Sys2Proof/Machine/Dovetail.lean ====
section
/-!
DEFINITION. Frames received on the Dovetail link (R184 to R188): acceptance in order, acknowledgements and credits, and
what each frame type does (R162, R185, R190, R191, R194, R198, R202).
-/

namespace Sys2Proof

open Sys2Proof.Machine

/-! ### Fields of frames -/

/-- AREA of FSPEC: the sender's area; the mirror lies in the other one (R157, R185). -/
def Frame.myArea (f : Frame) : Nat := 1 - nbits f.fspec.toNat 0 8 % 2
/-- FRAG_OFFSET. -/
def Frame.frag (f : Frame) : Nat := nbits f.fspec.toNat 32 32
/-- The area offset in bytes. -/
def Frame.areaOff (f : Frame) : Nat := 64 * nbits f.fspec.toNat 64 32
/-- FFLAGS bit 0 LAST. -/
def Frame.last (f : Frame) : Bool := f.fflags.getLsbD 0
/-- FFLAGS bit 1 RELOCATED. -/
def Frame.relocated (f : Frame) : Bool := f.fflags.getLsbD 1

/-- The record bytes of a RECORD frame, and the chain head that ends a last one (R185). -/
def Frame.split (f : Frame) : Bytes × Bytes :=
  if f.last && !f.relocated then (f.payload.take (f.payload.length - 32), f.payload.drop (f.payload.length - 32)) else (f.payload, [])

/-- A frame of a type of R185, with a listed PAIR_OP or FENCE_OP, its FCRC right, received without error. -/
def Frame.sound (f : Frame) : Bool :=
  let op := bfld f.payload 0 1
  f.good && f.fcrc == f.crc && decide (f.ftype.toNat ≤ 9) && decide (f.payload.length ≤ 4096) &&
    (f.ftype != 8 || (decide (1 ≤ op) && decide (op ≤ 5))) && (f.ftype != 9 || (decide (1 ≤ op) && decide (op ≤ 3)))

/-- A sequenced frame type (R185). -/
def Frame.sequenced (f : Frame) : Bool := [1, 2, 8, 9].contains f.ftype.toNat

end Sys2Proof

namespace Sys2Proof.Machine

/-! ### Acknowledgements and credits -/

/-- ACK_FSEQ and CREDIT of a received frame (R186, R187): frames acknowledged are no longer kept, credits return, and held
frames leave. -/
def State.onAck (s : State) (f : Frame) : State :=
  let l := s.link
  let acked := (f.ack - l.peerAck).toNat
  let l := if acked ≠ 0 ∧ acked ≤ (l.txSeq - l.peerAck).toNat then
      { l with peerAck := f.ack, unacked := l.unacked.drop acked, lastAckAt := s.time.ns }
    else l
  let freed := (f.credit - l.peerCredit).toNat
  let l := if l.txCredit + freed ≤ 8192 then { l with peerCredit := f.credit, txCredit := l.txCredit + freed } else l
  State.pumpTx l.txWait.length { s with link := l }

/-- A NAK for the gap in received FSEQ (R186). -/
def State.sendNak (s : State) : State :=
  let s := s.sendOn s.anySub { ftype := 5, fspec := s.link.rxNext.setWidth 96 }
  { s with link := { s.link with naks := s.link.naks + 1 } }

/-- Sequenced frames sent again from an FSEQ on (R186). -/
def State.resendFrom (s : State) (seq : BitVec 32) : State :=
  let again := s.link.unacked.filter (fun p => decide ((p.2.fseq - seq).toNat < 2 ^ 31))
  let s := again.foldl (fun t p => t.putFrame t.anySub p.2) s
  { s with link := { s.link with resends := s.link.resends + again.length } }

/-! ### RECORD and TAIL -/

/-- A mirror takes a complete record at its place (R162, R185); an ADOPT record raises the stream's count (R195). -/
def Stream.receive (st : Stream) (r : Record) (off : Nat) (relocated : Bool) (chain : BitVec 256) : Stream :=
  let log := st.log.filter (fun e => e.record.jsn != r.jsn) ++ [{ off := off, record := r, chain := chain }]
  let fresh : Bool := r.rtype == 8 && !(st.cfg.any (fun x => x.jsn == r.jsn))
  let h := off + r.size
  { st.note r with
    log := log, cfg := if fresh then insertJsn r st.cfg else st.cfg, nextJsn := max st.nextJsn (r.jsn + 1)
    heads := if relocated then st.heads else st.heads.set (r.jsn % 8) chain
    adoption := if r.rtype = 10 then max st.adoption (bfld r.body 24 4) else st.adoption
    serial := if r.rtype = 10 ∧ st.adoption < bfld r.body 24 4 then bfld r.body 8 8 % 2 ^ 48 else st.serial
    rxStaged := if r.jsn = st.rxStaged + 1 then r.jsn else st.rxStaged
    head := if st.logSz ≤ h then h - st.logSz else h }

/-- A checkpoint received (R175, log 11). -/
def Stream.takeCheckpoint (st : Stream) (bs : Bytes) : Stream :=
  match Config.checkpointOf bs with
  | none => st
  | some c => { st with cfg := c.records.filterMap Record.ofBytes, heads := c.heads, cursor := c.cursor, ckptCursor := c.cursor, ckptJsn := c.upTo, nextJsn := max st.nextJsn (c.upTo + 1) }

/-- RECORD (R162, R185): a fragment is kept, and with the last one the record is complete. A record that the joining
package's PAIR_TWIN waits for ends that command (R192). -/
def State.onRecord (s : State) (f : Frame) : State :=
  match s.area f.myArea with
  | none => s
  | some st =>
    if st.role ≠ .mirror then s
    else
      let p := f.split
      let st : Stream := { st with stagedBytes := st.stagedBytes + p.1.length }
      let frags := (if f.frag = 0 then st.frags.filter (fun x => x.1 != f.areaOff) else st.frags) ++ [(f.areaOff, f.frag, p.1)]
      if !f.last then s.setArea f.myArea (some { st with frags := frags })
      else
        let bs := (frags.filter (fun x => x.1 == f.areaOff)).flatMap (fun x => x.2.2)
        let st : Stream := { st with frags := frags.filter (fun x => x.1 != f.areaOff) }
        if f.areaOff < ckptSize then s.setArea f.myArea (some (st.takeCheckpoint bs))
        else match Record.ofBytes bs with
        | none => s.setArea f.myArea (some st)
        | some r =>
          let s := s.setArea f.myArea (some (st.receive r (f.areaOff - ckptSize) f.relocated (BitVec.ofNat 256 (beVal p.2))))
          if r.rtype = 8 ∧ r.tfld 32 1 = 5 ∧ r.tfld 33 1 = 0x60 then s.endJoin 0 r.jsn else s

/-- A mirror's tail moved (R177, R185): records between the old tail and the new one are gone. -/
def Stream.setTail (st : Stream) (tail : Nat) (drop : Bool) : Stream :=
  let n := st.logSz
  let past (e : LogRec) : Bool := decide ((e.off + n - st.tail) % n < (tail + n - st.tail) % n)
  { st with tail := tail, log := if drop then st.log.filter (fun e => !past e) else st.log }

/-- TAIL (R185). During catch-up it only places the tail. -/
def State.onTail (s : State) (f : Frame) : State :=
  match s.area f.myArea with
  | none => s
  | some st =>
    if st.role ≠ .mirror ∨ f.areaOff < ckptSize then s
    else s.setArea f.myArea (some (st.setTail (f.areaOff - ckptSize) (s.link.pair != 2)))

/-! ### STAGED -/

/-- STAGED_JSN of one stream (R162). -/
def State.onStaged (s : State) (id jsn : Nat) : State :=
  s.modStream id (fun st => if st.role = .primary then { st with staged := max st.staged (min jsn (st.nextJsn - 1)) } else st)

/-- A stream whose RELEASED record is durable is handed over (R202): FENCE RELEASED is sent, and the area becomes the
mirror. -/
def State.handOver (s : State) (st : Stream) : State :=
  match st.released with
  | none => s
  | some j =>
    if st.role ≠ .primary ∨ !s.durable st.id j then s
    else
      let t := (s.sendFence 2 st.id st.adoption j).dropStream st.id
      (t.modStream st.id (fun x => { x with role := .mirror, released := none, rxStaged := x.nextJsn - 1, frags := [] })).spaceEvent
        s.spaceClass

/-- Streams released so far handed over. -/
def State.handOverAll (s : State) : State := s.primaries.foldl State.handOver s

/-- STAGED (R162, R188): one or two entries. -/
def State.onStagedFrame (s : State) (f : Frame) : State :=
  let s := (chunks 16 f.payload).foldl (fun t e => t.onStaged (bfld e 0 8) (bfld e 8 8)) s
  s.settleAll.handOverAll

/-! ### HEARTBEAT and TIME -/

/-- The streams that a HEARTBEAT lists (R190). -/
def heartbeatStreams (p : Bytes) : List TwinStream :=
  (List.range (min 2 (bfld p 14 1))).map (fun i =>
    let o := 16 + 32 * i
    ⟨bfld p o 8, bfld p (o + 8) 4, bfld p (o + 12) 1, bfld p (o + 13) 1, bfld p (o + 16) 8⟩)

/-- HEARTBEAT (R190, R194, R198). -/
def State.onHeartbeatFrame (s : State) (f : Frame) : State :=
  let p := f.payload
  let tw : TwinInfo :=
    { serial := bfld p 0 8 % 2 ^ 48, state := bfld p 8 1, mode := bfld p 9 1, own := bfld p 10 1, timeQ := bfld p 11 1
      space := bfld p 12 2, at_ := s.time.ns, streams := heartbeatStreams p }
  let s := { s with link := { s.link with twin := tw } }
  let s := if s.time.source = .twin then { s with time := { s.time with twinQ := tw.timeQ } }.judge else s
  s.onHeartbeat.settleAll

/-- A transfer applied to ledger time (R122): the first as R120 applies an edge. The twin's error estimate, which no frame
carries, is free (log 4). -/
def State.applyTransfer (s : State) (theta : Int) (first : Bool) : State :=
  let t := s.time
  let target := ((t.ns : Int) - theta).toNat
  let u := t.offset target
  let u : TimeUnit := if first then { u with source := .twin, applied := true, await := false, jumped := false, armed := none } else u
  let s := { s with time := { u with
    held := false, twinAt := u.ns, twinOffset := theta, twinE := s.freeVal.toNat, twinQ := s.link.twin.timeQ } }
  s.nextFree

/-- A transfer (R122, R191): `theta` is the follower's lead. After a loss of the link tracking resumes only within E. -/
def State.transfer (s : State) (theta : Int) : State :=
  let t := s.time
  if t.await then s.applyTransfer theta true
  else if t.source ≠ .twin ∨ !t.applied ∨ (t.held && t.jumped) then s
  else if t.held then
    if theta.natAbs * secNs ≤ s.errorE9 then s.applyTransfer theta false else { s with time := { t with jumped := true } }
  else s.applyTransfer theta false

/-- TIME (R191): the receipt is kept for the next TIME frame; with an echo the offset is computed, half
of an odd difference taken downwards (log 112). -/
def State.onTime (s : State) (f : Frame) : State :=
  let p := f.payload
  let t1 : Int := bfld p 0 8
  let t3 : Int := bfld p 8 8
  let t4 : Int := bfld p 16 8
  let t2 : Int := s.time.ns
  let s := { s with link := { s.link with time := some (bfld p 0 8, s.time.ns) } }
  if bfld p 16 8 = 0 then s else ((s.transfer (((t2 - t1) - (t4 - t3)) / 2)).afterStep s).settle

/-! ### PAIR and FENCE -/

/-- PROPOSE (R194): answered in PROPOSED, kept until this package proposes. -/
def State.onPropose (s : State) (p : Bytes) : State :=
  if s.link.pair = 1 then s.answer p
  else if s.link.pair = 0 then { s with link := { s.link with rxProp := some p } }
  else s

/-- AGREE (R194). -/
def State.onAgree (s : State) (pl : Bytes) : State :=
  match s.link.prop with
  | some p => if s.link.pair = 1 then s.enterCatchUp p.mode p.twin (bfld pl 1 1) else s
  | none => s

/-- CATCHUP_DONE (R194): the mirrors are complete to their last records. -/
def State.onCatchUpDone (s : State) : State :=
  if s.link.pair ≠ 2 then s
  else
    let g (x : Stream) : Stream := if x.role = .mirror then { x with rxStaged := x.nextJsn - 1 } else x
    let s := { s with area0 := s.area0.map g, area1 := s.area1.map g, link := { s.link with rcvdDone := true } }
    s.catchUpEnds

/-- A PAIR frame by PAIR_OP (R185, R194). -/
def State.onPair (s : State) (p : Bytes) : State :=
  match bfld p 0 1 with
  | 1 => s.onPropose p
  | 2 => s.onAgree p
  | 3 => s.onCatchUpDone
  | 4 => if 2 ≤ s.link.pair then s.goSolo 2 else s
  | _ => if s.link.pair = 1 then s.refusePair else s

/-- REQUEST_RELEASE (R202): acceptance stops for the stream's channels. -/
def State.onRequestRelease (s : State) (id : Nat) : State :=
  if s.actsFor id && s.link.pair == 3 && s.link.release.isNone then
    { s with link := { s.link with release := some (id, s.time.ns) } }
  else s

/-- A FENCE frame by FENCE_OP (R185, R202). -/
def State.onFence (s : State) (p : Bytes) : State :=
  let id := bfld p 8 8
  match bfld p 0 1 with
  | 1 => s.onRequestRelease id
  | 2 => s.adoptReleased id (bfld p 24 8)
  | _ => s.modStream id (fun st => if st.role = .mirror then
      { st with adoption := bfld p 16 4, serial := s.link.twinSerial } else st)

/-! ### Receiving -/

/-- What a sequenced frame does when its turn has come (R185). -/
def State.takeFrame (s : State) (f : Frame) : State :=
  let s := { s with link := { s.link with rxNext := s.link.rxNext + 1, rxFreed := s.link.rxFreed + f.flits } }
  match f.ftype.toNat with
  | 1 => s.onRecord f
  | 2 => s.onTail f
  | 8 => (s.onPair f.payload).settleAll
  | _ => (s.onFence f.payload).settleAll

/-- A mirror's staging has room for what a RECORD frame carries (R161). -/
def State.roomFor (s : State) (f : Frame) : Bool :=
  f.ftype != 1 || (s.area f.myArea).all (fun st => st.role != .mirror || decide (st.stagedBytes + f.payload.length ≤ 0x800000))

/-- Held frames passed on in FSEQ order (R186), while staging has room for them (R161). -/
def State.takeHeld : Nat → State → State
  | 0, s => s
  | n + 1, s =>
    match s.link.rxHeld.find? (fun f => f.fseq == s.link.rxNext && s.roomFor f) with
    | none => s
    | some f =>
      State.takeHeld n ({ s with link := { s.link with rxHeld := s.link.rxHeld.filter (fun x => x.fseq != f.fseq) } }.takeFrame f)

/-- A sequenced frame arrives (R186): passed on, held past a gap or while staging is full (R161), or dropped as a duplicate. -/
def State.seqIn (s : State) (f : Frame) : State :=
  let l := s.link
  if f.fseq = l.rxNext ∧ s.roomFor f then
    let s := State.takeHeld 64 (s.takeFrame f)
    { s with link := { s.link with gapSince := if s.link.rxHeld.isEmpty then none else some s.time.ns } }
  else if 2 ^ 31 ≤ (f.fseq - l.rxNext).toNat || l.rxHeld.any (fun x => x.fseq == f.fseq) then s
  else if 64 ≤ l.rxHeld.length then s.sendNak
  else
    let s := { s with link := { l with rxHeld := l.rxHeld ++ [f], gapSince := l.gapSince.or (some s.time.ns) } }
    if s.link.rxHeld.length = 64 then s.sendNak else s

/-- An unsequenced frame (R185). IDLE and ACK carry only their header. -/
def State.unseqIn (s : State) (f : Frame) : State :=
  match f.ftype.toNat with
  | 3 => s.onStagedFrame f
  | 5 => s.resendFrom (f.fspec.setWidth 32)
  | 6 => s.onHeartbeatFrame f
  | 7 => s.onTime f
  | _ => s

/-- A frame arrives on a sublink (R185 to R187): one that is not sound is discarded and counted. -/
def State.rxFrame (s : State) (sl : Nat) (f : Frame) : State :=
  let x := s.link.sub sl
  if !x.up then s
  else
    let s := if f.good then { s with link := s.link.setSub sl { x with lastGood := s.time.ns } } else s
    if !f.sound then { s with link := { s.link with discarded := s.link.discarded + 1 } }
    else if f.sequenced then (s.onAck f).seqIn f
    else (s.onAck f).unseqIn f

/-- The Dovetail unit works: no reset, flush or halt stops the device (R163, R491). -/
def State.linkRuns (s : State) : Bool := decide (1 ≤ s.su.step) && !s.su.halted && !s.su.flushing && !s.su.sysResetLow

/-- A frame row: the frame's own type says what it does. -/
def onLink (sl : Nat) (s : State) (f : State → State) : Out3 :=
  if sl < 2 then .next (if s.linkRuns then f s else s) else .fault .noSuchUnit

/-- RECORD_FRAME (R162). -/
def execRecordFrame (sl : Nat) (f : Frame) (s : State) : Out3 := onLink sl s (fun s => s.rxFrame sl f)
/-- TAIL_FRAME (R185). -/
def execTailFrame (sl : Nat) (f : Frame) (s : State) : Out3 := onLink sl s (fun s => s.rxFrame sl f)
/-- STAGED_FRAME (R162). -/
def execStagedFrame (sl : Nat) (f : Frame) (s : State) : Out3 := onLink sl s (fun s => s.rxFrame sl f)
/-- ACK_FRAME (R186). -/
def execAckFrame (sl : Nat) (f : Frame) (s : State) : Out3 := onLink sl s (fun s => s.rxFrame sl f)
/-- NAK_FRAME (R186). -/
def execNakFrame (sl : Nat) (f : Frame) (s : State) : Out3 := onLink sl s (fun s => s.rxFrame sl f)
/-- IDLE_FRAME (R185). -/
def execIdleFrame (sl : Nat) (f : Frame) (s : State) : Out3 := onLink sl s (fun s => s.rxFrame sl f)
/-- HEARTBEAT_FRAME (R190). -/
def execHeartbeatFrame (sl : Nat) (f : Frame) (s : State) : Out3 := onLink sl s (fun s => s.rxFrame sl f)
/-- TIME_FRAME (R191). -/
def execTimeFrame (sl : Nat) (f : Frame) (s : State) : Out3 := onLink sl s (fun s => s.rxFrame sl f)
/-- PAIR_PROPOSE (R194). -/
def execPairPropose (sl : Nat) (f : Frame) (s : State) : Out3 := onLink sl s (fun s => s.rxFrame sl f)
/-- PAIR_AGREE (R194). -/
def execPairAgree (sl : Nat) (f : Frame) (s : State) : Out3 := onLink sl s (fun s => s.rxFrame sl f)
/-- PAIR_CATCHUP_DONE (R194). -/
def execPairCatchupDone (sl : Nat) (f : Frame) (s : State) : Out3 := onLink sl s (fun s => s.rxFrame sl f)
/-- PAIR_UNPAIR (R194). -/
def execPairUnpair (sl : Nat) (f : Frame) (s : State) : Out3 := onLink sl s (fun s => s.rxFrame sl f)
/-- PAIR_REFUSE (R194). -/
def execPairRefuse (sl : Nat) (f : Frame) (s : State) : Out3 := onLink sl s (fun s => s.rxFrame sl f)
/-- FENCE_REQUEST_RELEASE (R202). -/
def execFenceRequestRelease (sl : Nat) (f : Frame) (s : State) : Out3 := onLink sl s (fun s => s.rxFrame sl f)
/-- FENCE_RELEASED (R202). -/
def execFenceReleased (sl : Nat) (f : Frame) (s : State) : Out3 := onLink sl s (fun s => s.rxFrame sl f)
/-- FENCE_ADOPTED (R185). -/
def execFenceAdopted (sl : Nat) (f : Frame) (s : State) : Out3 := onLink sl s (fun s => s.rxFrame sl f)

end Sys2Proof.Machine
end

