-- ==== Sys2Proof/Machine/EvcRows.lean ====
section
/-!
DEFINITION. The event controller's register writes as commands (R419, R422 to R424), and the end of a hold-off (R414).
-/

namespace Sys2Proof.Machine

/-- A command that names one of the four benches. -/
def onBench (bench : Nat) (s : State) (f : State → State) : Out3 :=
  if bench < 4 then .next (f s) else .fault .noSuchUnit

/-- EVC_RAISE_WRITE (R423). -/
def execEvcRaiseWrite (bench : Nat) (v : W) (s : State) : Out3 :=
  onBench bench s (fun s => s.evcWrite bench 0xB00 8 v)

/-- EVC_PENDING_WITHDRAW (R419): a write of EVC_SRC_CFG with PENDING 1. -/
def execEvcPendingWithdraw (bench src : Nat) (v : W) (s : State) : Out3 :=
  onBench bench s (fun s => s.evcWrite bench (8 * (src % 256)) 8 (v ||| 0x100000000))

/-- EVC_TURN_RESTART (R422): a write of EVC_TURN with RESTART 1. -/
def execEvcTurnRestart (bench i : Nat) (v : W) (s : State) : Out3 :=
  if i < 24 then onBench bench s (fun s => s.evcWrite bench (0xA00 + 8 * i) 8 (v ||| 0x8000000000000000))
  else .fault .noSuchUnit

/-- EVC_REGISTER_WRITE (R424). -/
def execEvcRegisterWrite (bench off size : Nat) (v : W) (s : State) : Out3 :=
  onBench bench s (fun s => s.evcWrite bench off size v)

/-- GROUP_HOLDOFF_END (R414): the hold-off of a group ends and its pending sources are presented. -/
def execGroupHoldoffEnd (bench g : Nat) (s : State) : Out3 :=
  onBench bench s (fun s =>
    (s.advanceTo ((s.evc bench).group g).until_).evalEvc bench)

end Sys2Proof.Machine
end

