-- ==== Sys2Proof/Machine/FloatOps.lean ====
section
/-!
DEFINITION. IEEE 754-2019 arithmetic on exact dyadic numbers, rounded once (R344 to R349, R353 to R355).
-/

namespace Sys2Proof.Machine

/-- A binary format: precision with the hidden bit, and the exponent range. -/
structure FFmt where
  p : Nat
  emax : Nat
  width : Nat
  deriving DecidableEq, Repr

/-- binary64. -/
def f64 : FFmt := ⟨53, 1023, 64⟩

/-- binary32. -/
def f32 : FFmt := ⟨24, 127, 32⟩

/-- The format OSZ selects (R344). -/
def ffmt (o : Bool) : FFmt := if o then f32 else f64

/-- A value taken apart: NaN, infinity, or a finite `m * 2^e` with its sign. -/
inductive FVal where
  | nan (signalling : Bool)
  | inf (neg : Bool)
  | fin (neg : Bool) (m : Nat) (e : Int)
  deriving DecidableEq, Repr

/-- The sign of a value. -/
def FVal.neg : FVal → Bool
  | .nan _ => false
  | .inf n => n
  | .fin n _ _ => n

/-- Bits of the trailing significand. -/
def FFmt.tbits (f : FFmt) : Nat := f.p - 1

/-- The biased exponent field of a bit pattern. -/
def FFmt.expOf (f : FFmt) (x : Nat) : Nat := nbits x f.tbits (f.width - f.p)

/-- The trailing significand of a bit pattern. -/
def FFmt.fracOf (f : FFmt) (x : Nat) : Nat := nbits x 0 f.tbits

/-- The sign bit of a bit pattern. -/
def FFmt.signOf (f : FFmt) (x : Nat) : Bool := x.testBit (f.width - 1)

/-- The largest biased exponent. -/
def FFmt.expMax (f : FFmt) : Nat := 2 * f.emax + 1

/-- A bit pattern holds a subnormal number. -/
def FFmt.isSub (f : FFmt) (x : Nat) : Bool := f.expOf x == 0 && f.fracOf x != 0

/-- A bit pattern taken apart; a subnormal becomes a zero of its sign (R347). -/
def FFmt.unpack (f : FFmt) (x : Nat) : FVal :=
  let e := f.expOf x
  let m := f.fracOf x
  let s := f.signOf x
  if e = f.expMax then (if m = 0 then .inf s else .nan (!m.testBit (f.tbits - 1)))
  else if e = 0 then .fin s 0 0
  else .fin s (m + 2 ^ f.tbits) ((e : Int) - f.emax - f.tbits)

/-- The canonical quiet NaN (R345). -/
def FFmt.qnan (f : FFmt) : Nat := f.expMax * 2 ^ f.tbits + 2 ^ (f.tbits - 1)

/-- An infinity. -/
def FFmt.infBits (f : FFmt) (neg : Bool) : Nat := (if neg then 2 ^ (f.width - 1) else 0) + f.expMax * 2 ^ f.tbits

/-- The largest finite number of a sign. -/
def FFmt.maxBits (f : FFmt) (neg : Bool) : Nat := f.infBits neg - 1

/-- A zero. -/
def FFmt.zeroBits (f : FFmt) (neg : Bool) : Nat := if neg then 2 ^ (f.width - 1) else 0

/-- A result: its bits, the FCSR flags it sets (IV 1, DZ 2, OF 4, UF 8, PE 16), and whether it would be tiny. -/
structure FRes where
  bits : Nat
  flags : Nat := 0
  tiny : Bool := false
  deriving DecidableEq, Repr

/-- Whether rounding goes away from zero: mode, sign, last bit, and the part cut off compared with a half. -/
def roundUp (rm : Nat) (neg odd : Bool) (gtHalf eqHalf inexact : Bool) : Bool :=
  match rm with
  | 0 => gtHalf || (eqHalf && odd)
  | 1 => false
  | 2 => inexact && !neg
  | _ => inexact && neg

/-- The overflowed result of a mode and sign (R346). -/
def FFmt.overflow (f : FFmt) (rm : Nat) (neg : Bool) : Nat :=
  match rm with
  | 0 => f.infBits neg
  | 1 => f.maxBits neg
  | 2 => if neg then f.maxBits true else f.infBits false
  | _ => if neg then f.infBits true else f.maxBits false

/-- `m * 2^e`, plus less than one unit of `2^e` when `sticky`, rounded once (R344, R346, R347). With `sticky`, `m` has
more than `p + 1` bits. -/
def FFmt.round (f : FFmt) (rm : Nat) (neg : Bool) (m : Nat) (e : Int) (sticky : Bool) : FRes :=
  if m = 0 then { bits := f.zeroBits neg }
  else
    let len := Nat.log2 m + 1
    let sh := len - f.p
    let q := m >>> sh
    let rem := m % 2 ^ sh
    let half := 2 ^ (sh - 1)
    let inexact := rem != 0 || sticky
    let gt := sh != 0 && (decide (half < rem) || (rem == half && sticky))
    let eq := sh != 0 && rem == half && !sticky
    let q := if roundUp rm neg (q % 2 == 1) gt eq inexact then q + 1 else q
    let q := q * 2 ^ (f.p - len)
    let ex : Int := e + sh - (f.p - len : Nat) + (f.p - 1 : Nat)
    let ex := if q = 2 ^ f.p then ex + 1 else ex
    let q := if q = 2 ^ f.p then 2 ^ (f.p - 1) else q
    if (f.emax : Int) < ex then { bits := f.overflow rm neg, flags := 4 + 16 }
    else if ex < 1 - (f.emax : Int) then { bits := f.zeroBits neg, flags := 8 + 16, tiny := true }
    else
      { bits := (if neg then 2 ^ (f.width - 1) else 0) + (ex + f.emax).toNat * 2 ^ f.tbits + (q - 2 ^ f.tbits)
        flags := if inexact then 16 else 0 }

/-- An invalid operation (R345). -/
def FFmt.invalid (f : FFmt) : FRes := { bits := f.qnan, flags := 1 }

/-- A quiet NaN operand's result (R345). -/
def FFmt.quiet (f : FFmt) : FRes := { bits := f.qnan }

/-- A NaN among operands decides the result: invalid for a signalling one (R345). -/
def FFmt.nanRes (f : FFmt) (xs : List FVal) : Option FRes :=
  if xs.any (fun v => v == .nan true) then some f.invalid
  else if xs.any (fun v => v == .nan false) then some f.quiet
  else none

/-- The exact sum of two finite values, rounded. An exact zero takes the common sign of two zeros of one sign, else + 0,
or - 0 toward minus infinity. -/
def FFmt.addFin (f : FFmt) (rm : Nat) (s1 : Bool) (m1 : Nat) (e1 : Int) (s2 : Bool) (m2 : Nat) (e2 : Int) : FRes :=
  let e := min e1 e2
  let a : Int := (m1 * 2 ^ (e1 - e).toNat : Nat)
  let b : Int := (m2 * 2 ^ (e2 - e).toNat : Nat)
  let t := (if s1 then -a else a) + (if s2 then -b else b)
  if t = 0 then { bits := f.zeroBits (if m1 = 0 ∧ m2 = 0 ∧ s1 = s2 then s1 else rm == 3) }
  else f.round rm (decide (t < 0)) t.natAbs e false

/-- Addition. -/
def FFmt.add (f : FFmt) (rm : Nat) (x y : FVal) : FRes :=
  match f.nanRes [x, y] with
  | some r => r
  | none =>
    match x, y with
    | .inf a, .inf b => if a = b then { bits := f.infBits a } else f.invalid
    | .inf a, _ => { bits := f.infBits a }
    | _, .inf b => { bits := f.infBits b }
    | .fin s1 m1 e1, .fin s2 m2 e2 => f.addFin rm s1 m1 e1 s2 m2 e2
    | _, _ => f.quiet

/-- A value with its sign inverted. -/
def FVal.flip : FVal → FVal
  | .nan s => .nan s
  | .inf n => .inf (!n)
  | .fin n m e => .fin (!n) m e

/-- Multiplication. -/
def FFmt.mul (f : FFmt) (rm : Nat) (x y : FVal) : FRes :=
  match f.nanRes [x, y] with
  | some r => r
  | none =>
    let s := x.neg != y.neg
    match x, y with
    | .fin _ m1 e1, .fin _ m2 e2 => f.round rm s (m1 * m2) (e1 + e2) false
    | .fin _ m _, .inf _ => if m = 0 then f.invalid else { bits := f.infBits s }
    | .inf _, .fin _ m _ => if m = 0 then f.invalid else { bits := f.infBits s }
    | _, _ => { bits := f.infBits s }

/-- Division. -/
def FFmt.div (f : FFmt) (rm : Nat) (x y : FVal) : FRes :=
  match f.nanRes [x, y] with
  | some r => r
  | none =>
    let s := x.neg != y.neg
    match x, y with
    | .inf _, .inf _ => f.invalid
    | .inf _, _ => { bits := f.infBits s }
    | _, .inf _ => { bits := f.zeroBits s }
    | .fin _ m1 e1, .fin _ m2 e2 =>
      if m2 = 0 then (if m1 = 0 then f.invalid else { bits := f.infBits s, flags := 2 })
      else
        let sh := f.p + 3 + (Nat.log2 m2 + 1)
        let n := m1 <<< sh
        f.round rm s (n / m2) (e1 - e2 - sh) (n % m2 != 0)
    | _, _ => f.quiet

/-- The integer square root, bit by bit from bit `n - 1`. -/
def isqrt : Nat → Nat → Nat → Nat
  | 0, r, _ => r
  | n + 1, r, x =>
    let t := r + 2 ^ n
    isqrt n (if t * t ≤ x then t else r) x

/-- Square root. -/
def FFmt.sqrt (f : FFmt) (rm : Nat) (x : FVal) : FRes :=
  match f.nanRes [x] with
  | some r => r
  | none =>
    match x with
    | .inf n => if n then f.invalid else { bits := f.infBits false }
    | .fin n m e =>
      if m = 0 then { bits := f.zeroBits n }
      else if n then f.invalid
      else
        let odd := (e % 2).toNat
        let m := m * 2 ^ odd * 4 ^ (f.p + 2)
        let r := isqrt (2 * f.p + 4) 0 m
        f.round rm false r ((e - odd) / 2 - (f.p + 2 : Nat)) (r * r != m)
    | .nan _ => f.quiet

/-- Fused multiply-add with one rounding; 0 times infinity is invalid whatever `z` is (R345). -/
def FFmt.fma (f : FFmt) (rm : Nat) (x y z : FVal) : FRes :=
  let bad : Bool := match x, y with
    | .inf _, .fin _ 0 _ => true
    | .fin _ 0 _, .inf _ => true
    | _, _ => false
  if bad then f.invalid
  else match f.nanRes [x, y, z] with
  | some r => r
  | none =>
    let s := x.neg != y.neg
    match x, y with
    | .fin _ m1 e1, .fin _ m2 e2 =>
      match z with
      | .inf n => { bits := f.infBits n }
      | .fin s3 m3 e3 => f.addFin rm s (m1 * m2) (e1 + e2) s3 m3 e3
      | .nan _ => f.quiet
    | _, _ =>
      match z with
      | .inf n => if n = s then { bits := f.infBits s } else f.invalid
      | _ => { bits := f.infBits s }

/-- Two values compared: less, equal, greater, or unordered. -/
inductive FOrd where
  | lt | eq | gt | un
  deriving DecidableEq, Repr

/-- The order of two values; the zeros are equal (R354). -/
def fcompare (x y : FVal) : FOrd :=
  let key : FVal → Option (Int × Nat × Int) := fun v => match v with
    | .nan _ => none
    | .inf n => some (if n then -1 else 1, 1, 0)
    | .fin n m e => some (if m = 0 then 0 else if n then -1 else 1, m, e)
  match x, y with
  | .nan _, _ => .un
  | _, .nan _ => .un
  | .inf a, .inf b => if a = b then .eq else if a then .lt else .gt
  | .inf a, _ => if a then .lt else .gt
  | _, .inf b => if b then .gt else .lt
  | .fin _ _ _, .fin _ _ _ =>
    match key x, key y with
    | some (s1, m1, e1), some (s2, m2, e2) =>
      let e := min e1 e2
      let a : Int := s1 * (m1 * 2 ^ (e1 - e).toNat : Nat)
      let b : Int := s2 * (m2 * 2 ^ (e2 - e).toNat : Nat)
      if a < b then .lt else if a = b then .eq else .gt
    | _, _ => .un

/-- The bits of a value as an operand holds it, a subnormal flushed. -/
def FFmt.repack (f : FFmt) (x : Nat) : Nat := if f.isSub x then f.zeroBits (f.signOf x) else x

/-- minimumNumber or maximumNumber with the zeros ordered (R353). -/
def FFmt.minmax (f : FFmt) (wantMax : Bool) (x y : Nat) : FRes :=
  let a := f.unpack x
  let b := f.unpack y
  let iv := if a == .nan true || b == .nan true then 1 else 0
  match a, b with
  | .nan _, .nan _ => { bits := f.qnan, flags := iv }
  | .nan _, _ => { bits := f.repack y, flags := iv }
  | _, .nan _ => { bits := f.repack x, flags := iv }
  | _, _ =>
    let o := fcompare a b
    let xFirst : Bool := match o with
      | .lt => !wantMax
      | .gt => wantMax
      | _ => if wantMax then !a.neg else a.neg
    { bits := f.repack (if xFirst then x else y) }

/-- A finite value rounded to an integer: its magnitude, and whether it was inexact. -/
def roundInt (rm : Nat) (neg : Bool) (m : Nat) (e : Int) : Nat × Bool :=
  if 0 ≤ e then (m * 2 ^ e.toNat, false)
  else
    let sh := (-e).toNat
    let q := m >>> sh
    let rem := m % 2 ^ sh
    let half := 2 ^ (sh - 1)
    let up := roundUp rm neg (q % 2 == 1) (decide (half < rem)) (rem == half) (rem != 0)
    (if up then q + 1 else q, rem != 0)

/-- Conversion to a 64-bit integer (R355). -/
def toIntRes (rm : Nat) (signed : Bool) (v : FVal) : FRes :=
  let top : Nat := if signed then 2 ^ 63 - 1 else 2 ^ 64 - 1
  let bot : Nat := if signed then 2 ^ 63 else 0
  match v with
  | .nan _ => { bits := 0, flags := 1 }
  | .inf n => { bits := if n then bot else top, flags := 1 }
  | .fin n m e =>
    let r := roundInt rm n m e
    if !n then (if top < r.1 then { bits := top, flags := 1 } else { bits := r.1, flags := if r.2 then 16 else 0 })
    else if signed then
      if 2 ^ 63 < r.1 then { bits := bot, flags := 1 }
      else { bits := (2 ^ 64 - r.1) % 2 ^ 64, flags := if r.2 then 16 else 0 }
    else if r.1 = 0 then { bits := 0, flags := if r.2 then 16 else 0 }
    else { bits := 0, flags := 1 }

end Sys2Proof.Machine
end

