-- ==== Sys2Proof/Machine/MemInstr.lean ====
section
/-!
DEFINITION. Loads, stores and atomic access (R306 to R311, R336).
-/

namespace Sys2Proof.Machine

/-- Format M with a G data register. -/
def fmtM (op : Nat) (px : List Pfx) (m : MemSpec) : Desc :=
  { op := op, len := 1 + m.len, ok := okG m.data :: m.oks (hasPx px 5), spec := true }

/-- Format M with an even G data register (R336). -/
def fmtMPair (op : Nat) (px : List Pfx) (m : MemSpec) : Desc :=
  { op := op, len := 1 + m.len, ok := (okG m.data && decide (m.data.toNat % 2 = 0)) :: m.oks (hasPx px 5), spec := true }

/-- A load: it completes at once, or is left outstanding (R282, R400). -/
def State.loadInstr (s : State) (c : Nat) (px : List Pfx) (d : Desc) (op : LoadOp) (m : MemSpec) (late : Bool) : Out3 :=
  s.instr c px d (fun s nxt =>
    if late then .wait (s.modCore c (fun k => { k with load := some { op := op, px := px, m := m } }))
    else loadBody c op px m s nxt)

/-- A store's effect, once every check has passed or with the exception of the first that fails (R299, R336). -/
def storeBody (c n : Nat) (value : Core → Nat) (px : List Pfx) (m : MemSpec) (s : State) (nxt : Nat) : Eff :=
  let k := s.core c
  match memEa k px m nxt with
  | .error e => .exc e
  | .ok (a, u) =>
    match s.checkAccess (whoOf c k px) a n .write with
    | some e => .exc e
    | none => .next ((s.store c a n (value k)).modCore c (fun k => k.advanceAu u))

/-- LD.B (R336). -/
def execILdB (c : Nat) (px : List Pfx) (m : MemSpec) (late : Bool) (s : State) : Out3 :=
  s.loadInstr c px (fmtM 0x10 px m) .b m late

/-- LD.H (R336). -/
def execILdH (c : Nat) (px : List Pfx) (m : MemSpec) (late : Bool) (s : State) : Out3 :=
  s.loadInstr c px (fmtM 0x11 px m) .h m late

/-- LD.W (R336). -/
def execILdW (c : Nat) (px : List Pfx) (m : MemSpec) (late : Bool) (s : State) : Out3 :=
  s.loadInstr c px (fmtM 0x12 px m) .w m late

/-- LD.D (R336). -/
def execILdD (c : Nat) (px : List Pfx) (m : MemSpec) (late : Bool) (s : State) : Out3 :=
  s.loadInstr c px (fmtM 0x13 px m) .d m late

/-- LDS.B (R336). -/
def execILdsB (c : Nat) (px : List Pfx) (m : MemSpec) (late : Bool) (s : State) : Out3 :=
  s.loadInstr c px (fmtM 0x14 px m) .sb m late

/-- LDS.H (R336). -/
def execILdsH (c : Nat) (px : List Pfx) (m : MemSpec) (late : Bool) (s : State) : Out3 :=
  s.loadInstr c px (fmtM 0x15 px m) .sh m late

/-- LDS.W (R336). -/
def execILdsW (c : Nat) (px : List Pfx) (m : MemSpec) (late : Bool) (s : State) : Out3 :=
  s.loadInstr c px (fmtM 0x16 px m) .sw m late

/-- LD.Q (R336). -/
def execILdQ (c : Nat) (px : List Pfx) (m : MemSpec) (late : Bool) (s : State) : Out3 :=
  s.loadInstr c px (fmtMPair 0x1C px m) .q m late

/-- LEA (R336): nothing is accessed or checked. -/
def execILea (c : Nat) (px : List Pfx) (m : MemSpec) (s : State) : Out3 :=
  s.instr c px (fmtM 0x17 px m) (fun s nxt =>
    .next (s.modCore c (fun k => k.wg m.data.toNat (specEa m k nxt))))

/-- ST.B (R336). -/
def execIStB (c : Nat) (px : List Pfx) (m : MemSpec) (s : State) : Out3 :=
  s.instr c px (fmtM 0x18 px m) (storeBody c 1 (fun k => k.gn m.data) px m)

/-- ST.H (R336). -/
def execIStH (c : Nat) (px : List Pfx) (m : MemSpec) (s : State) : Out3 :=
  s.instr c px (fmtM 0x19 px m) (storeBody c 2 (fun k => k.gn m.data) px m)

/-- ST.W (R336). -/
def execIStW (c : Nat) (px : List Pfx) (m : MemSpec) (s : State) : Out3 :=
  s.instr c px (fmtM 0x1a px m) (storeBody c 4 (fun k => k.gn m.data) px m)

/-- ST.D (R336). -/
def execIStD (c : Nat) (px : List Pfx) (m : MemSpec) (s : State) : Out3 :=
  s.instr c px (fmtM 0x1b px m) (storeBody c 8 (fun k => k.gn m.data) px m)

/-- ST.Q (R336). -/
def execIStQ (c : Nat) (px : List Pfx) (m : MemSpec) (s : State) : Out3 :=
  s.instr c px (fmtMPair 0x1D px m)
    (storeBody c 16 (fun k => k.gn m.data + (k.rg (m.data.toNat + 1)).toNat * 2 ^ 64) px m)

/-- SWAP (R311, R336). -/
def execISwap (c : Nat) (px : List Pfx) (m : MemSpec) (s : State) : Out3 :=
  s.instr c px (fmtM 0x1E px m) (fun s nxt =>
    let k := s.core c
    match memEa k px m nxt with
    | .error e => .exc e
    | .ok (a, u) =>
      match s.checkAccess (whoOf c k px) a 8 .rmw with
      | some e => .exc e
      | none =>
        let t := s.readVal c a.toNat 8
        .next (((s.afterRead a.toNat 8).store c a 8 (k.gn m.data)).modCore c (fun k =>
          (k.wg m.data.toNat (BitVec.ofNat 64 t)).advanceAu u)))

/-- CAS (R311, R336): checked as a write even when it does not store; Z alone is written. -/
def execICas (c : Nat) (px : List Pfx) (a : Byte) (m : MemSpec) (s : State) : Out3 :=
  s.instr c px { op := 0x1F, len := 2 + m.len, ok := [okG a, okG m.data] ++ m.oks (hasPx px 5), fl := true, spec := true } (fun s nxt =>
    let k := s.core c
    match memEa k px m nxt with
    | .error e => .exc e
    | .ok (ea, u) =>
      match s.checkAccess (whoOf c k px) ea 8 .rmw with
      | some e => .exc e
      | none =>
        let t := s.readVal c ea.toNat 8
        let same := t == k.gn a
        let s := s.afterRead ea.toNat 8
        let s := if same then s.store c ea 8 (k.gn m.data) else s
        .next (s.modCore c (fun k => ((k.setZ same).wg a.toNat (BitVec.ofNat 64 t)).advanceAu u)))

/-- LOAD_COMPLETE (R400): an outstanding load completes, writing its register or raising its exception. -/
def execLoadComplete (core : Nat) (s : State) : Out3 :=
  if core < 96 then .next (if s.coreRuns core then (s.finishLoad core).1 else s) else .fault .noSuchUnit

end Sys2Proof.Machine
end

