-- ==== Sys2Proof/Machine/Float.lean ====
section
/-!
DEFINITION. The floating-point instructions (R344 to R356).
-/

namespace Sys2Proof.Machine

/-- FCSR.RM (R289). -/
def Core.rm (k : Core) : Nat := nbits k.fcsr.toNat 16 2

/-- FCSR.SUBM: trap on subnormals (R289). -/
def Core.subm (k : Core) : Bool := nbit k.fcsr.toNat 18

/-- An operand as the operation's format reads it (R344). -/
def Core.fop (k : Core) (o : Bool) (r : Byte) : Nat := (k.rf r.toNat).toNat % 2 ^ (ffmt o).width

/-- What an arithmetic instruction completes with: the subnormal traps of R348, the enabled traps of R349, else its
result. -/
def floatOut (k : Core) (dest : FDest) (sub : Bool) (r : FRes) : FloatOut :=
  let at_ := k.pc
  if k.subm && sub then { at_ := at_, dest := dest, value := 0, flags := 0, trap := some 6 }
  else if k.subm && r.tiny then { at_ := at_, dest := dest, value := 0, flags := 0, trap := some 7 }
  else
    let en := nbits k.fcsr.toNat 8 5 &&& r.flags
    let cause : Option Nat := ((List.range 5).find? (fun i => en.testBit i)).map (fun i => i + 1)
    { at_ := at_, dest := dest, value := BitVec.ofNat 64 r.bits, flags := BitVec.ofNat 5 r.flags, trap := cause }

/-- A floating-point instruction issued: left outstanding, or completed at once (R350, R351). -/
def floatIssue (c : Nat) (late : Bool) (f : Core → FloatOut) (s : State) (_nxt : Nat) : Eff :=
  .next (s.modCore c (fun k => if late then { k with floats := k.floats ++ [f k] } else k.finishFloat (f k)))

/-- The decoding of a floating-point instruction: each is a delivery point of R351. -/
def fmtF (op len : Nat) (ok : List Bool) : Desc := { op := op, len := len, ok := ok, delivers := true }

/-- The decoding of FLD and FST: format M with an F data register. -/
def fmtFM (op : Nat) (px : List Pfx) (m : MemSpec) : Desc :=
  { fmtF op (1 + m.len) (okF m.data :: m.oks (hasPx px 5)) with spec := true }

/-- A two-operand arithmetic instruction. -/
def arith2 (o : Bool) (d a b : Byte) (g : FFmt → Nat → FVal → FVal → FRes) (k : Core) : FloatOut :=
  let f := ffmt o
  let x := k.fop o a
  let y := k.fop o b
  floatOut k (.f d.toNat) (f.isSub x || f.isSub y) (g f k.rm (f.unpack x) (f.unpack y))

/-- FADD (R353). -/
def execIFadd (c : Nat) (px : List Pfx) (d a b : Byte) (late : Bool) (s : State) : Out3 :=
  s.instr c px (fmtF 0x70 4 [okF d, okF a, okF b]) (floatIssue c late (arith2 (osz px) d a b (fun f rm x y => f.add rm x y)))

/-- FSUB (R353). -/
def execIFsub (c : Nat) (px : List Pfx) (d a b : Byte) (late : Bool) (s : State) : Out3 :=
  s.instr c px (fmtF 0x71 4 [okF d, okF a, okF b]) (floatIssue c late (arith2 (osz px) d a b (fun f rm x y => f.add rm x y.flip)))

/-- FMUL (R353). -/
def execIFmul (c : Nat) (px : List Pfx) (d a b : Byte) (late : Bool) (s : State) : Out3 :=
  s.instr c px (fmtF 0x72 4 [okF d, okF a, okF b]) (floatIssue c late (arith2 (osz px) d a b (fun f rm x y => f.mul rm x y)))

/-- FDIV (R353). -/
def execIFdiv (c : Nat) (px : List Pfx) (d a b : Byte) (late : Bool) (s : State) : Out3 :=
  s.instr c px (fmtF 0x73 4 [okF d, okF a, okF b]) (floatIssue c late (arith2 (osz px) d a b (fun f rm x y => f.div rm x y)))

/-- FSQRT (R353). -/
def execIFsqrt (c : Nat) (px : List Pfx) (d a : Byte) (late : Bool) (s : State) : Out3 :=
  s.instr c px (fmtF 0x74 3 [okF d, okF a]) (floatIssue c late (fun k =>
    let f := ffmt (osz px)
    let x := k.fop (osz px) a
    floatOut k (.f d.toNat) (f.isSub x) (f.sqrt k.rm (f.unpack x))))

/-- FMADD (R353). -/
def execIFmadd (c : Nat) (px : List Pfx) (d a b e : Byte) (late : Bool) (s : State) : Out3 :=
  s.instr c px (fmtF 0x75 5 [okF d, okF a, okF b, okF e]) (floatIssue c late (fun k =>
    let f := ffmt (osz px)
    let x := k.fop (osz px) a
    let y := k.fop (osz px) b
    let z := k.fop (osz px) e
    floatOut k (.f d.toNat) (f.isSub x || f.isSub y || f.isSub z) (f.fma k.rm (f.unpack x) (f.unpack y) (f.unpack z))))

/-- The flags FCMP writes: C, Z, N, V (R354). -/
def fcmpFl : FOrd → W
  | .lt => flOf true false true false false
  | .eq => flOf false true false false false
  | .gt => 0
  | .un => flOf true false false true false

/-- FCMP (R354). -/
def execIFcmp (c : Nat) (px : List Pfx) (a b : Byte) (late : Bool) (s : State) : Out3 :=
  s.instr c px { fmtF 0x76 3 [okF a, okF b] with fl := true } (floatIssue c late (fun k =>
    let f := ffmt (osz px)
    let x := k.fop (osz px) a
    let y := k.fop (osz px) b
    let iv := if f.unpack x == .nan true || f.unpack y == .nan true then 1 else 0
    floatOut k .flags (f.isSub x || f.isSub y)
      { bits := (fcmpFl (fcompare (f.unpack x) (f.unpack y))).toNat, flags := iv }))

/-- FMIN (R353). -/
def execIFmin (c : Nat) (px : List Pfx) (d a b : Byte) (late : Bool) (s : State) : Out3 :=
  s.instr c px (fmtF 0x77 4 [okF d, okF a, okF b]) (floatIssue c late (fun k =>
    let f := ffmt (osz px)
    let x := k.fop (osz px) a
    let y := k.fop (osz px) b
    floatOut k (.f d.toNat) (f.isSub x || f.isSub y) (f.minmax false x y)))

/-- FMAX (R353). -/
def execIFmax (c : Nat) (px : List Pfx) (d a b : Byte) (late : Bool) (s : State) : Out3 :=
  s.instr c px (fmtF 0x78 4 [okF d, okF a, okF b]) (floatIssue c late (fun k =>
    let f := ffmt (osz px)
    let x := k.fop (osz px) a
    let y := k.fop (osz px) b
    floatOut k (.f d.toNat) (f.isSub x || f.isSub y) (f.minmax true x y)))

/-- FCVT's result: destination, whether an operand is subnormal, and the rounded value (R355). -/
def fcvtOut (o : Bool) (sub : Nat) (d a : Byte) (k : Core) : FloatOut :=
  let f := ffmt o
  let x := k.fop o a
  let g := k.rg a.toNat
  let rz := if 6 ≤ sub then 1 else k.rm
  match sub with
  | 0 =>
    let x := (k.rf a.toNat).toNat % 2 ^ 32
    floatOut k (.f d.toNat) (f32.isSub x) (match f32.unpack x with
      | .nan sg => if sg then f64.invalid else f64.quiet
      | .inf n => { bits := f64.infBits n }
      | .fin n m e => f64.round k.rm n m e false)
  | 1 =>
    let x := (k.rf a.toNat).toNat
    floatOut k (.f d.toNat) (f64.isSub x) (match f64.unpack x with
      | .nan sg => if sg then f32.invalid else f32.quiet
      | .inf n => { bits := f32.infBits n }
      | .fin n m e => f32.round k.rm n m e false)
  | 2 => floatOut k (.f d.toNat) false (f.round k.rm g.msb g.toInt.natAbs 0 false)
  | 3 => floatOut k (.f d.toNat) false (f.round k.rm false g.toNat 0 false)
  | _ => floatOut k (.g d.toNat) (f.isSub x) (toIntRes rz (sub % 2 == 0) (f.unpack x))

/-- The operand bytes of FCVT by sub-operation (R355). -/
def fcvtOk (sub d a : Byte) : List Bool :=
  [decide (sub.toNat ≤ 7), if 4 ≤ sub.toNat then okG d else okF d, if sub = 2 ∨ sub = 3 then okG a else okF a]

/-- FCVT (R355). -/
def execIFcvt (c : Nat) (px : List Pfx) (sub d a : Byte) (late : Bool) (s : State) : Out3 :=
  s.instr c px (fmtF 0x79 4 (fcvtOk sub d a)) (floatIssue c late (fcvtOut (osz px) sub.toNat d a))

/-- Bits moved: all 64, or the low 32 with OSZ (R356). -/
def moveBits (o : Bool) (v : W) : W := if o then (v.setWidth 32).setWidth 64 else v

/-- FMOV (R356). -/
def execIFmov (c : Nat) (px : List Pfx) (sub d a : Byte) (s : State) : Out3 :=
  s.instr c px (fmtF 0x7A 4 [decide (sub.toNat ≤ 2), if sub = 2 then okG d else okF d, if sub = 1 then okG a else okF a])
    (fun s _ => .next (s.modCore c (fun k =>
      if sub = 0 then k.wf d.toNat (moveBits (osz px) (k.rf a.toNat))
      else if sub = 1 then k.wf d.toNat (moveBits (osz px) (k.rg a.toNat))
      else k.wg d.toNat (moveBits (osz px) (k.rf a.toNat)))))

/-- FLD (R353). -/
def execIFld (c : Nat) (px : List Pfx) (m : MemSpec) (late : Bool) (s : State) : Out3 :=
  s.loadInstr c px (fmtFM 0x7B px m) .fld m late

/-- FST (R353). -/
def execIFst (c : Nat) (px : List Pfx) (m : MemSpec) (s : State) : Out3 :=
  s.instr c px (fmtFM 0x7C px m)
    (storeBody c (if osz px then 4 else 8) (fun k => (k.rf m.data.toNat).toNat) px m)

/-- FSGN's result on bit patterns (R356). -/
def fsgnRes (o : Bool) (sub : Nat) (x y : Nat) : Nat :=
  let f := ffmt o
  let top := 2 ^ (f.width - 1)
  let mag := x % top
  let s : Bool := match sub with
    | 0 => f.signOf y
    | 1 => !f.signOf y
    | _ => f.signOf x != f.signOf y
  mag + (if s then top else 0)

/-- FSGN (R356). -/
def execIFsgn (c : Nat) (px : List Pfx) (sub d a b : Byte) (s : State) : Out3 :=
  s.instr c px (fmtF 0x7D 5 [decide (sub.toNat ≤ 2), okF d, okF a, okF b])
    (fun s _ => .next (s.modCore c (fun k =>
      k.wf d.toNat (BitVec.ofNat 64 (fsgnRes (osz px) sub.toNat (k.fop (osz px) a) (k.fop (osz px) b))))))

/-- FLOAT_COMPLETE (R351): the oldest outstanding floating-point instruction completes. -/
def execFloatComplete (core : Nat) (s : State) : Out3 :=
  if core < 96 then
    .next (s.modCore core (fun k => match k.floats with
      | [] => k
      | o :: rest => { k with floats := rest }.finishFloat o))
  else .fault .noSuchUnit

end Sys2Proof.Machine
end

