-- ==== Sys2Proof/Machine/LinkTimers.lean ====
section
/-!
DEFINITION. The Dovetail link's timers and sublinks (R186, R188 to R191, R194, R202), confinement (R158), and the journal's
own work: seals (R170), checkpoints (R175), wedging (R177) and staging (R161).
-/

namespace Sys2Proof.Machine

/-- A row of the Dovetail unit or the journal controller: nothing happens while it does not work. -/
def linked (s : State) (f : State → State) : Out3 := .next (if s.linkRuns then f s else s)

/-! ### Acknowledgement and resending -/

/-- NAK_GAP_TIMEOUT (R186). -/
def execNakGapTimeout (s : State) : Out3 :=
  linked s (fun s =>
    match s.link.gapSince with
    | none => s
    | some t =>
      let s := (s.advanceTo (t + 1000)).sendNak
      { s with link := { s.link with gapSince := some s.time.ns } })

/-- RESEND_TIMEOUT (R186). -/
def execResendTimeout (s : State) : Out3 :=
  linked s (fun s =>
    if s.link.unacked.isEmpty || !s.linkUp then s
    else
      let s := (s.advanceTo (s.link.lastAckAt + 4000)).resendFrom s.link.peerAck
      { s with link := { s.link with lastAckAt := s.time.ns } })

/-- ACK_TIMER (R186). -/
def execAckTimer (s : State) : Out3 :=
  linked s (fun s =>
    if !s.linkUp then s
    else
      let s := s.advanceTo (s.link.lastSentAt + 500)
      s.sendOn s.anySub { ftype := 4 })

/-- STAGED_TIMER (R188): an entry for each mirror. -/
def execStagedTimer (s : State) : Out3 :=
  linked s (fun s =>
    if s.mirrors.isEmpty || !s.mirroring || !s.linkUp then s
    else
      let body := s.mirrors.flatMap (fun st => leBytes 8 st.id ++ leBytes 8 st.rxStaged)
      s.sendOn s.anySub { ftype := 3, payload := body })

/-! ### HEARTBEAT and TIME -/

/-- ROLE of a stream as a HEARTBEAT gives it (R190). -/
def Role.code : Role → Nat
  | .primary => 1
  | .mirror => 2
  | .superseded => 3

/-- A stream's entry of a HEARTBEAT (R190). -/
def Stream.entry (st : Stream) (area : Nat) : Bytes :=
  leBytes 8 st.id ++ leBytes 4 st.adoption ++ leBytes 1 st.role.code ++ leBytes 1 area ++ leBytes 2 0 ++ leBytes 8 st.headJsn ++
    leBytes 8 0

/-- The payload of a HEARTBEAT (R190). -/
def State.heartbeat (s : State) : Bytes :=
  let es := [0, 1].filterMap (fun a => (s.area a).map (fun st => st.entry a))
  padTo 128 (leBytes 8 s.ident.serial.toNat ++ leBytes 1 s.link.pair ++ leBytes 1 s.jMode ++ leBytes 1 s.ownNow ++
    leBytes 1 s.time.quality ++ leBytes 2 (s.freeSpace 1000) ++ leBytes 1 es.length ++ leBytes 1 0 ++ es.flatten)

/-- HEARTBEAT_TIMER (R190): one on every sublink that is up. A period without one from the twin is counted (R509). -/
def execHeartbeatTimer (s : State) : Out3 :=
  linked s (fun s =>
    let body := s.heartbeat
    let missed : Bool := s.linkUp && decide (s.link.twin.at_ + 10000 < s.time.ns)
    let s := { s with link := { s.link with hbMissed := s.link.hbMissed + if missed then 1 else 0 } }
    [0, 1].foldl (fun t sl => t.sendOn sl { ftype := 6, payload := body }) s)

/-- TIME_FRAME_TIMER (R191). -/
def execTimeFrameTimer (s : State) : Out3 :=
  linked s (fun s =>
    let echo := s.link.time.getD (0, 0)
    let body := leBytes 8 s.time.ns ++ leBytes 8 echo.1 ++ leBytes 8 echo.2
    [0, 1].foldl (fun t sl => t.sendOn sl { ftype := 7, payload := body }) s)

/-! ### Sublinks -/

/-- A sublink row. -/
def onSub (sl : Nat) (s : State) (f : State → Sublink → State) : Out3 :=
  onLink sl s (fun s => f s (s.link.sub sl))

/-- SUBLINK_TRAINED (R189). -/
def execSublinkTrained (sl : Nat) (s : State) : Out3 :=
  onSub sl s (fun s x => if x.up then s else (s.sublinkUp sl).settleAll)

/-- SUBLINK_SILENCE_TIMEOUT (R189). -/
def execSublinkSilenceTimeout (sl : Nat) (s : State) : Out3 :=
  onSub sl s (fun s x => if x.up then ((s.advanceTo (x.lastGood + 30000)).sublinkDown sl).settleAll else s)

/-- SUBLINK_ERROR_LIMIT (R189): `n` uncorrectable codewords within 1 ledger ms. -/
def execSublinkErrorLimit (sl n : Nat) (s : State) : Out3 :=
  onSub sl s (fun s x => if x.up && decide (16 < n) then (s.sublinkDown sl).settleAll else s)

/-- CODEWORD_ALIGNMENT_LOSS (R189). -/
def execCodewordAlignmentLoss (sl : Nat) (s : State) : Out3 := onSub sl s (fun s _ => (s.sublinkDown sl).settleAll)

/-- SUBLINK_RETRAIN_TIMER (R189): a sublink that is down retrains 10 ledger ms after it went down, and again every 10. -/
def execSublinkRetrainTimer (sl : Nat) (s : State) : Out3 :=
  onSub sl s (fun s x =>
    if x.up then s
    else
      let s := s.advanceTo (x.downAt + 10000000)
      { s with link := s.link.setSub sl { x with retrains := x.retrains + 1, downAt := s.time.ns } })

/-! ### Pairing -/

/-- FENCE_TIMEOUT (R194). -/
def execFenceTimeout (s : State) : Out3 :=
  linked s (fun s => if s.link.pair = 4 then (s.advanceTo (s.link.sevAt + 50000)).setPair 5 else s)

/-- PROPOSE_TIMEOUT (R194). -/
def execProposeTimeout (s : State) : Out3 :=
  linked s (fun s =>
    match s.link.prop with
    | some p => if s.link.pair = 1 then ((s.advanceTo (p.at_ + 10 * secNs)).refusePair).settleAll else s
    | none => s)

/-- CONFINEMENT_DONE (R158). -/
def execConfinementDone (s : State) : Out3 := linked s (fun s => s.propose.settleAll)

/-- CATCH_UP_SENT (R194): the live log and the checkpoint of every primary area have been sent. -/
def execCatchUpSent (s : State) : Out3 :=
  linked s (fun s =>
    if s.link.pair ≠ 2 ∨ s.link.sentDone then s
    else
      let s := (s.sendLog 0).sendLog 1
      let s := s.sendPair 3 s.jMode s.ownNow s.link.twinSerial []
      ({ s with link := { s.link with sentDone := true } }.catchUpEnds).settleAll)

/-- RELEASE_TIMEOUT (R202): the holder's RELEASED record, at the latest 500 ledger µs after the request. -/
def execReleaseTimeout (s : State) : Out3 :=
  linked s (fun s =>
    match s.link.release with
    | none => s
    | some (id, since) =>
      let runs := s.items.any (fun i => i.stream == id && i.state == .running)
      let s := if runs then s.advanceTo (since + 500000) else s
      if !s.actsFor id || !s.appendOk id 128 true then s
      else
        let s := s.openSlot
        let jsn := s.nextJsn id
        let s := s.appendConfig id 4 0 0 0 5 0 chNone s.eventNow
        let s := s.modStream id (fun st => { st with released := some jsn })
        ({ s with link := { s.link with release := none } }.settleAll).handOverAll)

/-! ### The journal's own work -/

/-- The primary stream of an area, or nothing to do. -/
def onPrimary (area : Nat) (s : State) (f : State → Stream → State) : Out3 :=
  if area < 2 then
    linked s (fun s =>
      match s.area area with
      | none => s
      | some st => if st.role = .primary ∧ st.released = none then f s st else s)
  else .fault .noSuchUnit

/-- SEAL_APPEND (R170): 65,535 records or 100 ledger ms after the last SEAL record. In P3 the seal made on entry
stands; without the working copy of the audit key none is made (R248). -/
def execSealAppend (area : Nat) (s : State) : Out3 :=
  onPrimary area s (fun s st =>
    if s.power.state = 3 ∨ !s.vault.working ∨ !s.appendOk st.id 3776 true then s
    else
      let s := if 65535 ≤ st.sinceSeal then s else s.advanceTo (st.lastSealAt + 100000000)
      ((s.openSlot).sealNow st.id).settleAll)

/-- CHECKPOINT (R175): after 16,384 CONFIG records or 10 ledger s; it covers every CONFIG record so far and is mirrored. -/
def execCheckpoint (area : Nat) (s : State) : Out3 :=
  onPrimary area s (fun s st =>
    let s := if 16384 ≤ st.sinceCkpt then s else s.advanceTo (st.ckptAt + 10 * secNs)
    let st : Stream := { st with ckptJsn := st.nextJsn - 1, ckptAt := s.time.ns, sinceCkpt := 0, ckptCursor := st.cursor }
    let s := s.setArea area (some st)
    if s.mirroring then s.sendCheckpoint area st else s)

/-- Where the tail stands once the first record of a log has gone: at the next one, or at the head. -/
def Stream.tailAfter (st : Stream) (rest : List LogRec) : Nat :=
  match rest with
  | [] => st.head
  | e :: _ => e.off

/-- The record at the tail copied to the head, unchanged (R177). -/
def Stream.relocate (st : Stream) (e : LogRec) (rest : List LogRec) (size : Nat) : Stream :=
  let n := e.record.size
  let x : Stream := { st with log := rest ++ [{ e with off := st.place n size }], stagedBytes := st.stagedBytes + n }
  let y := x.advance n size
  { y with tail := y.tailAfter y.log }

/-- WEDGING (R177, R178): the record at the tail is dropped where it has retired, else copied to the head. Both are sent to
the twin (R162, R185). -/
def execWedging (area : Nat) (s : State) : Out3 :=
  onPrimary area s (fun s st =>
    match st.log with
    | [] => s
    | e :: rest =>
      let before := s.spaceClass
      let size := s.logSize area
      if s.retired st e.record then
        let x : Stream := { st with log := rest, tail := st.tailAfter rest }
        let s := s.setArea area (some x)
        ((if s.mirroring then s.sendTail area x else s).spaceEvent before).settleAll
      else if st.logSz ≤ st.used + e.record.size || decide (0x800000 < st.stagedBytes + e.record.size) then s
      else
        let x := st.relocate e rest size
        let s := { s.setArea area (some x) with counters := { s.counters with wedged := s.counters.wedged + e.record.size } }
        let s := if s.mirroring then (s.sendRecord area (st.place e.record.size size) e.record true 0).sendTail area x else s
        s.spaceEvent before)

/-- STAGING_FLUSH (R161): what an area's staging holds has been written to MRAM; appends and frames that waited for it go on. -/
def execStagingFlush (area : Nat) (s : State) : Out3 :=
  if area < 2 then
    linked s (fun s =>
      match s.area area with
      | none => s
      | some st => (State.takeHeld 64 (s.setArea area (some { st with stagedBytes := 0 }))).settleAll)
  else .fault .noSuchUnit

end Sys2Proof.Machine
end

