-- ==== Sys2Proof/Machine/MulDiv.lean ====
section
/-!
DEFINITION. Multiply and divide (R339 to R343).
-/

namespace Sys2Proof.Machine

/-- Significant bits of an unsigned multiplier (R340). -/
def sigBits (b : Nat) : Nat := max 1 (if b = 0 then 1 else Nat.log2 b + 1)

/-- Significant bits of a signed multiplier (R340). -/
def sigBitsS (b : Int) : Nat :=
  let m := if 0 ≤ b then b.toNat else (-b - 1).toNat
  if m = 0 then 1 else Nat.log2 m + 2

/-- Core cycles of a multiply (R339, R340). -/
def mulCycles (borrowed : Bool) (k : Nat) : Nat := if borrowed then 1 else 1 + ceilDiv k 4

/-- Results of MUL (R339, R343). -/
def mulOut (o borrowed : Bool) (a b : Nat) : MulOut :=
  let w := opWidth o
  let x := a % 2 ^ w
  let y := b % 2 ^ w
  { lo := BitVec.ofNat 64 (x * y), hi := BitVec.ofNat 64 (x * y / 2 ^ 64), v := none
    cyc := mulCycles borrowed (sigBits y), borrowed := borrowed }

/-- Results of MULS (R339, R343). -/
def mulsOut (o borrowed : Bool) (a b : Nat) : MulOut :=
  let w := opWidth o
  let p := sint w a * sint w b
  { lo := BitVec.ofInt 64 p, hi := BitVec.ofInt 64 (p / (2 ^ 64 : Nat)), v := none
    cyc := mulCycles borrowed (sigBitsS (sint w b)), borrowed := borrowed }

/-- Results of DIV (R339, R343). -/
def divOut (o : Bool) (a b : Nat) : MulOut :=
  let w := opWidth o
  let x := a % 2 ^ w
  let y := b % 2 ^ w
  { lo := BitVec.ofNat 64 (x / y), hi := BitVec.ofNat 64 (x % y), v := none
    cyc := if o then 34 else 66, borrowed := false, mul := false }

/-- Results of DIVS (R339, R343): truncated toward zero, the remainder takes the sign of the dividend. -/
def divsOut (o : Bool) (a b : Nat) : MulOut :=
  let w := opWidth o
  let x := sint w a
  let y := sint w b
  let tooBig := x == -(2 ^ (w - 1) : Nat) && y == -1
  if tooBig then { lo := BitVec.ofInt 64 x, hi := 0, v := some true, cyc := if o then 34 else 66, borrowed := false, mul := false }
  else
    { lo := BitVec.ofInt 64 (Int.tdiv x y), hi := BitVec.ofInt 64 (x - Int.tdiv x y * y), v := some false
      cyc := if o then 34 else 66, borrowed := false, mul := false }

/-- A multiply or divide issued: MST.MBUSY is 1 until it has written MLO and MHI (R341). -/
def Core.startMul (k : Core) (m : MulOut) : Core :=
  { k with muldiv := some m, mst := k.mst ||| 1, borrowedMuls := k.borrowedMuls + (if m.borrowed then 1 else 0) }

/-- The decoding of a multiply or divide. -/
def fmtMul (op : Nat) (a b : Byte) (fl : Bool) : Desc :=
  { op := op, len := 3, ok := [okG a, okG b], ml := true, fl := fl }

/-- The core's bench lends it the array of the engine of its position, unless that engine is deconfigured (R281). -/
def State.lentTo (s : State) (c : Nat) : Bool :=
  let b := benchOf c
  let n := (s.core c).position.getD (c % 24)
  (s.bench b).lent && !(s.ident.deconf.any (fun d => d.1 == PartRef.signature b n))

/-- MUL (R339). -/
def execIMul (c : Nat) (px : List Pfx) (a b : Byte) (s : State) : Out3 :=
  s.instr c px (fmtMul 0x50 a b false) (fun s _ =>
    .next (s.modCore c (fun k => k.startMul (mulOut (osz px) (s.lentTo c) (k.gn a) (k.gn b)))))

/-- MULS (R339). -/
def execIMuls (c : Nat) (px : List Pfx) (a b : Byte) (s : State) : Out3 :=
  s.instr c px (fmtMul 0x51 a b false) (fun s _ =>
    .next (s.modCore c (fun k => k.startMul (mulsOut (osz px) (s.lentTo c) (k.gn a) (k.gn b)))))

/-- DIV (R339, R342): a divisor of 0 raises vector 5. -/
def execIDiv (c : Nat) (px : List Pfx) (a b : Byte) (s : State) : Out3 :=
  s.instr c px (fmtMul 0x54 a b false) (fun s _ =>
    if (s.core c).gn b % 2 ^ (opWidth (osz px)) = 0 then .exc { vec := 5, cause := 1 }
    else .next (s.modCore c (fun k => k.startMul (divOut (osz px) (k.gn a) (k.gn b)))))

/-- DIVS (R339, R342). -/
def execIDivs (c : Nat) (px : List Pfx) (a b : Byte) (s : State) : Out3 :=
  s.instr c px (fmtMul 0x55 a b true) (fun s _ =>
    if (s.core c).gn b % 2 ^ (opWidth (osz px)) = 0 then .exc { vec := 5, cause := 2 }
    else .next (s.modCore c (fun k => k.startMul (divsOut (osz px) (k.gn a) (k.gn b)))))

/-- MFLO (R339). -/
def execIMflo (c : Nat) (px : List Pfx) (d : Byte) (s : State) : Out3 :=
  s.regInstr c px { op := 0x52, len := 2, ok := [okG d], ml := true } (fun k => k.wg d.toNat k.mlo)

/-- MFHI (R339). -/
def execIMfhi (c : Nat) (px : List Pfx) (d : Byte) (s : State) : Out3 :=
  s.regInstr c px { op := 0x53, len := 2, ok := [okG d], ml := true } (fun k => k.wg d.toNat k.mhi)

/-- MTLO (R339). -/
def execIMtlo (c : Nat) (px : List Pfx) (a : Byte) (s : State) : Out3 :=
  s.regInstr c px { op := 0x56, len := 2, ok := [okG a], ml := true } (fun k => { k with mlo := k.rg a.toNat })

/-- MTHI (R339). -/
def execIMthi (c : Nat) (px : List Pfx) (a : Byte) (s : State) : Out3 :=
  s.regInstr c px { op := 0x57, len := 2, ok := [okG a], ml := true } (fun k => { k with mhi := k.rg a.toNat })

/-- MULDIV_COMPLETE (R341). -/
def execMuldivComplete (core : Nat) (s : State) : Out3 :=
  if core < 96 then .next (s.modCore core Core.finishMul) else .fault .noSuchUnit

end Sys2Proof.Machine
end

