-- ==== Sys2Proof/Machine/PortResets.lean ====
section
/-!
DEFINITION. Resets of one port (R60, R61, R490, R492, R516): what its registers and its rings return to, and the commands that
it abandons.
-/

namespace Sys2Proof.Machine

/-- A function's set-up registers and MSI-X state at their reset values (R60, R61, R490): the admin rings are forgotten,
and a command without a durable CONFIG record has no effect. -/
def Port.resetSetup (x : Port) : Port :=
  { linkUp := x.linkUp, trained := x.trained, inReset := x.inReset, dstate := x.dstate, busMaster := x.busMaster
    relaxed := x.relaxed, mps := x.mps, mrrs := x.mrrs, tag10 := x.tag10, widthX8 := x.widthX8, aspmL1 := x.aspmL1, bar0 := x.bar0
    aerStatus := x.aerStatus, aerMask := x.aerMask, aerSeverity := x.aerSeverity }

/-- A ring that waits for its port to recover it; a cause that already waits stands. -/
def Ring.waitsFor (r : Ring) (cause : Nat) : Ring := { r with recovering := r.recovering.or (some cause) }

/-- A joining package's PAIR_TWIN whose port is reset before the twin's CONFIG record is here has no effect (R61, R192): the
pairing it began is given up. -/
def State.abandonJoin (s : State) (p : Nat) : State :=
  if s.link.joins ≠ some p then s
  else
    let s := { s with link := { s.link with joins := none } }
    if 2 ≤ s.link.pair then s.goSolo 2
    else ({ s with link := { s.link with prop := none } }.setPair 0).freeArea

/-- The rings of a port recover at its next commit (R492): a cause that already waits stands. An adoption that its command
awaits, and a pairing that it joins, are given up with the command (R61). -/
def State.portRecovers (s : State) (p cause : Nat) : State :=
  let s := { s with link := { s.link with adopting := s.link.adopting.filter (fun x => x.2 != p) } }.abandonJoin p
  { s with rings := s.rings.map (fun r => if r.2.port = p then (r.1, r.2.waitsFor cause) else r) }

/-- A fundamental or hot reset of a port: link, configuration space and set-up registers (R490). -/
def State.resetPort (s : State) (p : Nat) (held : Bool) : State :=
  let x := s.port p
  (s.setPort p { inReset := held, widthX8 := x.widthX8 }).portRecovers p 2

/-- PERST (R492). -/
def execPerst (p : Nat) (s : State) : Out3 := onPort p s (fun s _ => s.resetPort p true)

/-- HOT_RESET (R492): it reaches a port through a link that is up. -/
def execHotReset (p : Nat) (s : State) : Out3 := onPort p s (fun s x => if x.linkUp then s.resetPort p false else s)

/-- FLR (R60, R490, R492). -/
def execFlr (p : Nat) (s : State) : Out3 :=
  onPort p s (fun s x => if x.linkUp && !x.inReset then (s.setPort p x.resetSetup).portRecovers p 2 else s)

/-- PERST_DEASSERT (R516, R528): the width strap is sampled; the port trains from then on. -/
def execPerstDeassert (p : Nat) (x8 : Bool) (s : State) : Out3 :=
  onPort p s (fun s x => if x.inReset then s.setPort p { x with inReset := false, widthX8 := x8 } else s)

end Sys2Proof.Machine
end

