-- ==== Sys2Proof/Machine/HostRead.lean ====
section
/-!
DEFINITION. What the host reads of a function: the registers and the MSI-X structures of BAR0 (R12, R16, R54, R55), and the
identity in configuration space (R43). A read changes nothing.
-/

namespace Sys2Proof.Machine

/-- DEVICE_ID of a port (R43, DEVICE_ID of 02_host_attachment). -/
def State.deviceId (s : State) (p : Nat) : Nat := 0x9600 + 0xB0 * 2 ^ 16 + s.gradeByte * 2 ^ 24 + p * 2 ^ 32

/-- SETUP_STATUS of a port (R56). -/
def State.setupStatus (s : State) (p : Nat) : Nat :=
  let x := s.port p
  (if s.su.ready then 1 else 0) + (if x.committed then 2 else 0) + (if x.refused then 4 else 0) + (if s.su.fault then 8 else 0) +
    x.reason * 2 ^ 8 + x.refOffset * 2 ^ 16 + s.su.step * 2 ^ 40 + x.refuseCount * 2 ^ 48

/-- An MSI-X table entry: address, data, and the mask in bit 0 of its last word (R53, R54). -/
def Port.msixEntry (x : Port) (vec : Nat) : Nat :=
  let m := (tget x.msixMsg vec).getD (0, 0)
  m.1.toNat + m.2.toNat * 2 ^ 64 + (if x.unmasked.contains vec then 0 else 2 ^ 96)

/-- A quadword of the MSI-X pending-bit array (R53, R54). -/
def Port.pbaWord (x : Port) (q : Nat) : Nat :=
  (x.pbits.filter (fun v => v / 64 == q)).foldl (fun n v => n ||| 2 ^ (v % 64)) 0

/-- The quadword of BAR0 at a multiple of 8: write-only registers, reserved offsets and reserved fields read as 0, and
SETUP_CTRL.COMMIT reads as COMMITTED (R12, R16, R54, R55). -/
def State.barQuad (s : State) (p off : Nat) : Nat :=
  let x := s.port p
  match off with
  | 0x00 => s.deviceId p
  | 0x08 => if x.committed then 1 else 0
  | 0x10 => s.setupStatus p
  | 0x18 => x.sqBase.toNat
  | 0x20 => x.cqBase.toNat
  | 0x28 => x.ringSize.toNat
  | 0x30 => x.sqTailAddr.toNat
  | 0x38 => x.cqHeadAddr.toNat
  | 0x40 => x.doorbellBase.toNat
  | 0x48 => x.armBase.toNat
  | 0x50 => s.pollPeriod + s.armAfter * 2 ^ 16
  | _ =>
    if 0x10000 ≤ off ∧ off < 0x12100 then x.msixEntry ((off - 0x10000) / 16) / 2 ^ (8 * (off % 16)) % 2 ^ 64
    else if 0x18000 ≤ off ∧ off < 0x18048 then x.pbaWord ((off - 0x18000) / 8)
    else 0

/-- A byte of BAR0 (R7, R55). -/
def State.barByte (s : State) (p a : Nat) : Byte := BitVec.ofNat 8 (s.barQuad p (a / 8 * 8) / 2 ^ (8 * (a % 8)))

/-- A read of `n` bytes of BAR0, where it reaches the function: it returns data, never an error (R55). -/
def State.barRead (s : State) (p off n : Nat) : Option Bytes :=
  if s.reaches (s.port p) then some (bytesOf n (fun i => s.barByte p (off + i))) else none

/-- The double words of configuration space that R43 gives, at the places of the PCIe base specification's header (log 98): the
identity, the class, the six BARs and the subsystem. -/
def State.configWord (s : State) (p off : Nat) : Option Nat :=
  match off with
  | 0x00 => some (0x1F3D + 0x9600 * 2 ^ 16)
  | 0x08 => some (0xB0 + 0x120000 * 2 ^ 8)
  | 0x10 => some ((s.port p).bar0.toNat % 2 ^ 32 + 4)
  | 0x14 => some ((s.port p).bar0.toNat / 2 ^ 32)
  | 0x18 => some 0
  | 0x1C => some 0
  | 0x20 => some 0
  | 0x24 => some 0
  | 0x2C => some (s.ident.subVendor.toNat + s.ident.subId.toNat * 2 ^ 16)
  | _ => none

end Sys2Proof.Machine
end

