-- ==== Sys2Proof/Machine/StartUp.lean ====
section
/-!
DEFINITION. Resets, the journal flush and start-up: PWR_FAIL_N and what acts like it (R163, R504, R520, R529, R530), what
SYS_RESET_N and power-on reset and keep (R490, R491), and start-up steps 1 to 7 (R115, R203, R247, R248, R281, R469,
R493 to R495, R508).
-/

namespace Sys2Proof.Machine

/-! ### What a reset leaves -/

/-- A ring after a reset of the device (R94, R95, R109): completions that report durable records stay, and the ring recovers
with CAUSE 0x01 when its port commits (R203). -/
def Ring.afterReset (r : Ring) : Ring :=
  { r with queue := r.queue.filter CEntry.replays, unsig := 0, firstUnsig := 0, recovering := (r.waitsFor 1).recovering }

/-- A channel after a reset of the device (R93, R94, R109): its state and counts, and the messages it held. -/
def Channel.afterReset (c : Channel) : Channel :=
  { c with doorbell := c.consumed, ranged := false, cur := none, bufs := [], marks := [], charged := 0 }

/-- An outbound message whose granules are gone: its body is in the journal. -/
def Emit.bare (e : Emit) : Emit := { e with win := 0, granules := 0 }

/-- An item after a reset of the device (R27, R203): one without a DONE record is Accepted again. -/
def Item.afterReset (i : Item) : Item :=
  let j : Item := { i with win := 0, granules := 0, paid := 0, ready := false, emits := i.emits.map Emit.bare }
  if i.state == .running then j.again else j

/-- Dialogues after a reset of the device (R27, R203): Pending ones are dropped and claims released. -/
def Dialogue.afterReset (d : Dialogue) : Dialogue :=
  match d.state with
  | .claimed _ _ => { d with state := .open_ }
  | _ => d

/-- A bench at its reset values, with the counters that only power-on clears (R509). -/
def Bench.fresh (b : Bench) : Bench :=
  { kek := b.kek, charge := b.charge, taken := b.taken, programFaults := b.programFaults, tableFullWaits := b.tableFullWaits
    corrected := b.corrected }

/-- A port at its reset values; PERSTn is a pin of its own, and the width strap stands (R60, R490). -/
def Port.fresh (p : Port) : Port := { inReset := p.inReset, widthX8 := p.widthX8 }

/-- The Dovetail link after a reset of the device: both sublinks are down, the pairing state stands (R189, R203, R509). -/
def Link.fresh (l : Link) : Link :=
  { sub0 := { retrains := l.sub0.retrains }, sub1 := { retrains := l.sub1.retrains }, pair := l.pair, prop := l.prop
    twinSerial := l.twinSerial, discarded := l.discarded, naks := l.naks, resends := l.resends, hbMissed := l.hbMissed }

/-- The time unit after a reset of the device (R115, R509). -/
def TimeUnit.fresh (t : TimeUnit) : TimeUnit := { goods := t.goods, outliers := t.outliers, missing := t.missing }

/-- A journal area after a reset of the device (R161, R163): what staging held is in MRAM; fragments are discarded, and the
cursor is that of the last checkpoint (R176). -/
def Stream.afterReset (st : Stream) : Stream := { st with stagedBytes := 0, frags := [], cursor := st.ckptCursor }

/-- Commands that wait for the twin, whose CONFIG records are in the log (R203). -/
def State.heldRecords (s : State) : List AdminHeld := ([0, 1].filterMap (fun p => (s.port p).aheld)).filter (fun h => h.jsn != 0)

/-- A command whose CONFIG record recovery finds in the log (R203): channels, rings and program generations are rebuilt from it,
as step 4 of R201 rebuilds them. Nothing else is rebuilt from records. -/
def State.redoCmd (s : State) (h : AdminHeld) : State :=
  let op := opOf h.entry
  if op = 0x20 ∨ op = 0x21 then
    match s.findRecord h.stream h.jsn with
    | none => s
    | some r => s.learnProgram r
  else if [0x10, 0x11, 0x12, 0x13].contains op then (adminEffect h s h).1
  else s

/-- The commands held at the reset rebuilt from their records (R203). -/
def State.redoAll (s : State) : State :=
  { s.su.redo.foldl State.redoCmd s with su := { (s.su.redo.foldl State.redoCmd s).su with redo := [] } }

/-- First address past external memory (R463). -/
def extEnd : Nat := 0x000520000000

/-- Every block reset (R490): the journal, the configuration it holds, consumed counts, the vault's sealing keys, fuses,
flash, external memory and the hub's error log stay. -/
def State.resetBlocks (s : State) : State :=
  let wasAlert := s.alertN
  let s := s.setPpsOut false
  let ports := s.ports.map Port.fresh
  let items := s.items.map Item.afterReset
  let kept := s.dialogues.filter (fun d => d.state != DlgState.pending)
  let t : State := { s with
    su := { s.su with
      step := 0, ready := false, fault := false, halted := false, held := false, sysRoseInFlush := false, clkTimeLost := false
      redo := s.su.redo ++ s.heldRecords }
    ports := ports, pollPeriod := 4, armAfter := 50, groups := []
    chans := s.chans.map (fun c => (c.1, c.2.afterReset))
    rings := s.rings.map (fun r => (r.1, r.2.afterReset))
    poolWait := [], windows := [], rotation := {}, owed := [], time := s.time.fresh, items := items
    dialogues := kept.map Dialogue.afterReset, openWait := []
    area0 := s.area0.map Stream.afterReset, area1 := s.area1.map Stream.afterReset
    link := s.link.fresh, benches := s.benches.map Bench.fresh
    cores := s.cores.map (fun c => (c.1, c.2.fresh))
    vault := { s.vault with working := false }
    mem := s.mem.filter (fun c => decide (c.1 < extEnd))
    keys := s.keys.filter (fun f => decide (f.1 < extEnd / 4096))
    poisoned := s.poisoned.filter (fun l => decide (l < extEnd / 64))
    bgDue := [], bgLast := [], power := {}
    therm := { tripped := s.therm.tripped, warnings := s.therm.warnings, trips := s.therm.trips }
    alert := 0, mgmtSeq := 0 }
  if wasAlert then t.emitOut (.pin "ALERT_N" false) else t

/-! ### The journal flush (R163, R530) -/

/-- The flush begins; a second cause during it, or after it, adds nothing. -/
def State.beginFlush (s : State) : State :=
  if s.su.flushing || s.su.halted || s.su.sysResetLow then s else { s with su := { s.su with flushing := true } }

/-- A power failure: external memory is not kept through it (R491). -/
def State.powerFails (s : State) : State := { s.beginFlush with su := { s.beginFlush.su with extKept := false } }

/-- PWR_FAIL (R163). -/
def execPwrFail (s : State) : Out3 :=
  let t := s.powerFails
  .next { t with su := { t.su with pwrFailLow := true } }

/-- RAIL_UNDERVOLTAGE (R529): one of the 15 rails of R527. -/
def execRailUndervoltage (rail : Nat) (s : State) : Out3 :=
  if 15 ≤ rail then .fault .noSuchUnit else .next s.powerFails

/-- SYS_REFCLK_LOSS (R520). -/
def execSysRefclkLoss (s : State) : Out3 :=
  .next (if s.su.step = 0 then s else (s.powerFails.logErr 4 9 0xFFFF 0).deviceFault)

/-! ### Start-up -/

/-- Ledger time is set from the last record of the package's own journal (R115). -/
def State.restoreTime (s : State) : State :=
  let stamps := (s.primaries.filter (fun st => st.nextJsn != 1)).map (fun st => st.lastStamp + 1)
  let now := stamps.foldl max 0
  let at_ (st : Stream) : Stream := { st with ckptAt := now, lastSealAt := now }
  let s := { s with time := { s.time with ns := now, ppsOutAt := now } }
  { s with area0 := s.area0.map at_, area1 := s.area1.map at_, link := { s.link with downAt := now } }

/-- The straps sampled at the rise of SYS_RESET_N (R514, R516). -/
def State.sampleStraps (s : State) (b : BootFacts) : State :=
  let s := (s.modPort 0 (fun x => { x with widthX8 := b.pe0x8 })).modPort 1 (fun x => { x with widthX8 := b.pe1x8 })
  { s with su := { s.su with testEn := b.testEn, mgmtSmbus := b.mgmtSmbus, mgmtAddr := b.mgmtAddr } }

/-- START_STEP reached. -/
def State.atStep (s : State) (n : Nat) : State := { s with su := { s.su with step := n } }

/-- A failure at step 1 or 2 (R495). -/
def State.bootStops (s : State) : State := { s with su := { s.su with fault := true } }

/-- READY, with START_STEP 7. -/
def State.nowReady (s : State) : State := { s with su := { s.su with step := 7, ready := true } }

/-- A failure at step 3 or later: the device-fault state, READY and FAULT (R495). -/
def State.bootFails (s : State) : State := (s.nowReady.logErr 4 11 0xFFFF 0).deviceFault

/-- The firmware slot that the boot ROM runs (R494). -/
def State.bestSlot (s : State) : Option Nat :=
  (List.range s.ident.fwSlots.length).foldl (fun best n =>
    let x := s.ident.fwSlots.getD n ⟨0, 0, false⟩
    if !x.signed || decide (x.version < s.ident.rollback) then best
    else match best with
      | none => some n
      | some m => if (s.ident.fwSlots.getD m ⟨0, 0, false⟩).version < x.version then some n else best) none

/-- The error-log entries of the flash that hub SRAM has lost (R506). -/
def State.reloadLog (s : State) : State :=
  { s with elog := (s.elog ++ s.ident.flashLog.filter (fun e => !(s.elog.any (fun x => x.seq == e.seq)))).take 16384 }

/-- The vault is created (R247, R248): LOADED slots become ABSENT. -/
def VSlot.lost (v : VSlot) : VSlot := if v.st = .loaded then { v with st := .absent, key := [], copies := [] } else v

/-- Every LOADED slot becomes ABSENT (R245, R248). -/
def Vault.loseKeys (v : Vault) : Vault := { v with slots := v.slots.map (fun x => (x.1, x.2.lost)) }

/-- A new vault with a package sealing key (R247): every generation is 1 (R243, R249, log 97). -/
def State.createVault (s : State) (key : BitVec 256) : State :=
  let first (v : VSlot) : VSlot := { v.lost with gen := 1 }
  { s with
    vault := { s.vault with
      slots := s.vault.slots.map (fun x => (x.1, first x.2)), provGen := 1, active := false, rootOut := false, pkgKey := key, sealKeys := [], epoch := s.vault.epoch + 1, root := [] }
    su := { s.su with vaultMade := true } }

/-- A bench's key-encryption key regenerated by the hub, a free value (R244, R245, log 4). -/
def State.newKek (s : State) (b : Nat) : State :=
  (s.skipFree 32).modBench b (fun x => { x with kek := BitVec.ofNat 256 (leVal (s.freeBytes 32)) })

/-- External memory has not been kept (R212, R244, R245, R294, R461, R491). -/
def State.loseMemory (s : State) : State :=
  let gone (p : Prog) : Prog := { p with gens := p.gens.map (fun g => { g with absent := true }) }
  let ps : Tbl Prog := s.progs.map (fun p => (p.1, gone p.2))
  let s : State := { s with
    mem := [], keys := [], poisoned := [], vault := s.vault.loseKeys, ucode := { s.ucode with absent := s.ucode.loaded }, progs := ps }
  ps.foldl (fun t p =>
    if p.2.placed then t.placeArea p.2.dataAt (4096 * p.2.pages) p.2.key else t) ([0, 1, 2, 3].foldl State.newKek s)

/-- A part deconfigured earlier leaves the cores of its bench as it did then (R24, R508). -/
def State.applyDead (s : State) (part : PartRef) : State :=
  match part with
  | .core b p =>
    if p = 24 then
      (List.range 24).foldl (fun t i =>
        if (t.core (24 * b + i)).position = some 24 then t.modCore (24 * b + i) (fun k => { k with run := .deconfigured }) else t) s
    else
      let taken := (List.range 24).any (fun i => (s.core (24 * b + i)).position == some 24)
      let spareDead := (s.ident.deconf.takeWhile (fun d => d.1 != part)).any (fun d => d.1 == PartRef.core b 24)
      s.modCore (24 * b + p) (fun k =>
        if taken || spareDead then { k with run := .deconfigured } else { k with position := some 24 })
  | _ => s

/-- A part fails the built-in self-test (R39, R493, R508). A spare core that replaces none has no number (R24), and is logged
with 0xFFFF for none (log 106). -/
def State.failPart (s : State) (part : PartRef) : State :=
  match part with
  | .core b p =>
    if 4 ≤ b || 25 ≤ p || s.ident.deconf.any (fun d => d.1 == part) then s
    else match (List.range 24).find? (fun i => (s.core (24 * b + i)).position.getD i == p) with
      | some i => ((s.logErr 3 1 (24 * b + i) 0).msixAll 514).coreGone (24 * b + i)
      | none => s.partGone part 1 0xFFFF
  | .signature b n => if 4 ≤ b || 32 ≤ n then s else s.signatureGone b n
  | .cipher b n => if 4 ≤ b || 4 ≤ n then s else s.cipherGone b n
  | .gddr ch => if 24 ≤ ch then s else s.retireChannel ch
  | .mram die => if 18 ≤ die then s else s.dieGone die

/-- The kilns lend their arrays, or take commands again (R281). -/
def State.lend (s : State) (v : Bool) : State := [0, 1, 2, 3].foldl (fun t b => t.modBench b (fun x => { x with lent := v })) s

/-- The DRBG of a bench seeded from the entropy source, whose value is free, with the package serial and the bench number as
its personalisation string (R267, log 4). -/
def State.seedDrbg (s : State) (b : Nat) : State :=
  let seed := leVal (s.freeBytes 48)
  (s.skipFree 48).modBench b (fun x => { x with drbg := Config.drbgInit (BitVec.ofNat 384 seed) s.ident.serial b })

/-- The pairing after a start-up (R194, R203): a paired package stays FENCED, a catch-up or a proposal has ended. -/
def State.restartPairing (s : State) : State :=
  if 3 ≤ s.link.pair then s.setPair 5
  else if s.link.pair = 2 then s.goSolo 2
  else if s.link.pair = 1 ∨ s.link.prop.isSome then s.goSolo 3
  else s

/-- Step 6: journal recovery, and READY (R141, R203, R281, R493). -/
def State.bootJournal (s : State) (b : BootFacts) : State :=
  let s := b.mramLost.foldl (fun t d => t.failPart (.mram d)) (s.atStep 6)
  if s.su.fault then s.nowReady
  else if b.recordBad then s.bootFails
  else
    let s := s.lend false
    let s := [0, 1, 2, 3].foldl State.seedDrbg s
    (((s.redoAll).nowReady.restartPairing).placeItems.missPassed).settleAll

/-- Step 5: the built-in self-test (R281, R490, R508). -/
def State.bootTest (s : State) (b : BootFacts) : State :=
  let s := (s.atStep 5).lend true
  let s := s.ident.deconf.foldl (fun t d => t.applyDead d.1) s
  let s := b.selfTestFail.foldl State.failPart s
  if s.su.fault then s.nowReady else s.bootJournal b

/-- Step 4: GDDR6 training (R469, R491). -/
def State.bootMemory (s : State) (b : BootFacts) : State :=
  let s := s.atStep 4
  let s := if s.su.extKept && b.selfRefreshIntact then s else s.loseMemory
  let s := { s with su := { s.su with extKept := true } }
  let s := b.trainFail.foldl (fun t ch => t.failPart (.gddr ch)) s
  if s.su.fault then s.nowReady else s.bootTest b

/-- Step 3: fuses and identity (R247, R248, R493, R506). -/
def State.bootIdentity (s : State) (b : BootFacts) : State :=
  let s := (s.atStep 3).reloadLog
  if !b.identityOk then s.bootFails
  else
    let s := { s with vault := { s.vault with working := true } }
    let s := if s.su.vaultMade then s else s.createVault b.pkgKey
    if b.tamperLow then ((s.zeroize.logErr 4 14 0xFFFF 0).raiseAlert 8).bootFails else s.bootMemory b

/-- Steps 1 and 2: the boot ROM and firmware authentication (R493 to R495). -/
def State.bootRom (s : State) (b : BootFacts) : State :=
  if !b.romOk then s.bootStops
  else if !b.flashOk then (s.atStep 2).bootStops
  else match s.bestSlot with
    | none => (s.atStep 2).bootStops
    | some n => { s.atStep 2 with ident := { s.ident with fwRunning := n, fwStaged := none } }.bootIdentity b

/-- SYS_RESET_N has risen (R493, R504, R514, R528, R529): with TEST_EN high nothing starts; after a thermal trip every block
stays in reset; while PWR_FAIL_N is low start-up holds at step 1. -/
def State.rise (s : State) (b : BootFacts) : State :=
  let ir := if 3 ≤ s.su.jtagIr then 0 else s.su.jtagIr
  let s := { s with su := { s.su with sysResetLow := false, sysRoseInFlush := false, halted := s.therm.tripped, jtagIr := ir } }
  let s := s.sampleStraps b
  if b.testEn || s.therm.tripped then s
  else
    let s := (s.restoreTime).atStep 1
    if s.su.pwrFailLow then { s with su := { s.su with held := true, boot := b } } else s.bootRom b

/-! ### The rows -/

/-- START_UP (R493): SYS_RESET_N rises. During a flush it restarts the device only when the flush has ended (R530). -/
def execStartUp (b : BootFacts) (s : State) : Out3 :=
  .next (
    if !s.su.sysResetLow then s
    else if s.su.flushing then { s with su := { s.su with sysRoseInFlush := true, boot := b } }
    else s.rise b)

/-- SYS_RESET (R491): SYS_RESET_N falls. -/
def execSysReset (s : State) : Out3 :=
  .next (
    if s.su.sysResetLow then { s with su := { s.su with sysRoseInFlush := false } }
    else
      let s := s.beginFlush.resetBlocks
      { s with su := { s.su with sysResetLow := true } })

/-- JOURNAL_FLUSH_END (R163, R530): staging is in MRAM. -/
def execJournalFlushEnd (s : State) : Out3 :=
  .next (
    if !s.su.flushing then s
    else
      let flushed (st : Stream) : Stream := { st with stagedBytes := 0 }
      let s := { s with area0 := s.area0.map flushed, area1 := s.area1.map flushed, su := { s.su with flushing := false } }
      if !s.su.sysResetLow then { s with su := { s.su with halted := true } }
      else if s.su.sysRoseInFlush then s.rise s.su.boot
      else s)

/-- PWR_FAIL_N_RISE (R529): it resumes nothing but a start-up held at step 1. -/
def execPwrFailNRise (s : State) : Out3 :=
  .next (
    let held := s.su.held
    let s := { s with su := { s.su with pwrFailLow := false, held := false } }
    if held then s.bootRom s.su.boot else s)

/-- POWER_ON (R490, R506, R509, R528): everything not in the journal or in fuses and flash is reset, telemetry and the error
log included; the board holds SYS_RESET_N low. -/
def execPowerOn (s : State) : Out3 :=
  .next (
    let wasTrip := s.therm.tripped
    let s := s.resetBlocks
    let s := if wasTrip then s.emitOut (.pin "THERMTRIP_N" false) else s
    let clear (c : Channel) : Channel :=
      { c with accepted := 0, rejects := [], doneOk := 0, outPosted := 0, outSpace := 0, faults := 0, missTotal := 0 }
    let fresh : Link := { pair := s.link.pair, prop := s.link.prop, twinSerial := s.link.twinSerial }
    { s with
      su := { s.su with sysResetLow := true, flushing := false, extKept := false, jtagIr := 1 }
      chans := s.chans.map (fun c => (c.1, clear c.2)), closedChans := [], time := {}, link := fresh
      benches := Vector.replicate 4 {}, cores := [], counters := {}, sample := [], sampleAt := 0, therm := {}, elog := []
      gddr := (s.gddr.filter (fun g => g.2.retired || g.2.moving)).map
        (fun g => (g.1, { retired := g.2.retired, moving := g.2.moving })) })

end Sys2Proof.Machine
end

