-- ==== Sys2Proof/Machine/PowerRows.lean ====
section
/-!
DEFINITION. Power states (R498 to R503), thermal limits (R504, R505), the reference clocks (R520), the firmware switch
(R497), the change of the core clock (R502), the management interface (R510, R526) and JTAG (R525).
-/

namespace Sys2Proof.Machine

/-! ### Thermal -/

/-- The payload of THERMAL (R505). -/
def State.thermalPayload (s : State) : Nat :=
  s.power.state % 4 + (if s.therm.warning then 16 else 0) + (if s.power.target.isSome then 32 else 0) + uint 8 s.hottest * 65536

/-- A thermal warning or a power-state change is reported (R499, R504). -/
def State.thermalEvent (s : State) : State := (s.msixAll 518).raiseAll 68 s.thermalPayload

/-- TJ_WARN of the grade (R504). -/
def State.tjWarn (s : State) : Int := if s.ident.gradeE then 110 else 105

/-- ALERT_N follows its causes (R510). -/
def State.alertFrom (s : State) (was : Bool) : State :=
  if s.alertN = was then s else s.emitOut (.pin "ALERT_N" s.alertN)

/-- The warning begins, or ends when every sensor is 5 °C below (R504). -/
def State.judgeWarning (s : State) : State :=
  let was := s.alertN
  if !s.therm.warning && s.therm.temps.any (fun t => decide (s.tjWarn ≤ t)) then
    let s := { s with therm := { s.therm with warning := true, warnings := s.therm.warnings + 1 }, alert := s.alert ||| 1 }
    (s.alertFrom was).thermalEvent
  else if s.therm.warning && s.therm.temps.all (fun t => decide (t ≤ s.tjWarn - 5)) then
    { s with therm := { s.therm with warning := false } }.alertFrom was
  else s

/-- The hardware trips (R504, R530): the journal is flushed, and every block is held until power is removed. -/
def State.trip (s : State) : State :=
  let s := s.logErr 4 12 0xFFFF 0
  let s := { s with therm := { s.therm with tripped := true, trips := s.therm.trips + 1 } }
  (s.emitOut (.pin "THERMTRIP_N" true)).powerFails

/-- THERMAL_SENSOR_READ (R504): the junction temperatures of the five dies and the package power. -/
def execThermalSensorRead (temps : List Int) (watts : Nat) (s : State) : Out3 :=
  .next (
    if s.su.step = 0 || s.su.halted || s.su.sysResetLow then s
    else
      let s := { s with therm := { s.therm with temps := temps, watts := watts } }.judgeWarning
      if temps.any (fun t => decide (125 ≤ t)) && !s.therm.tripped then s.trip else s)

/-! ### Reference clocks -/

/-- TIME_REF_CLK_LOSS (R520). -/
def execTimeRefClkLoss (s : State) : Out3 :=
  timed s (fun s =>
    if s.su.clkTimeLost then s
    else
      let was := s.time.quality
      let s := { s with su := { s.su with clkTimeLost := true }, time := { s.time with refLost := true } }
      let s := (s.logErr 2 9 0xFFFF 0).judge.settle
      if s.time.quality = was then s.msixAll 515 else s)

/-- TIME_REF_CLK_RETURN (R520). -/
def execTimeRefClkReturn (s : State) : Out3 := .next { s with su := { s.su with clkTimeLost := false } }

/-! ### Parking and waking -/

/-- A core's items return to Accepted, and their slots and engine commands are given up (R500). -/
def State.evict (s : State) (c : Nat) : State :=
  let k := s.core c
  let left := k.slots.toList.filter (fun sl => !(sl.st == .free) && !(sl.st == .ended))
  let s := (left.filterMap (fun sl => sl.item)).foldl (fun t p => t.itemToAccepted p.1 p.2) (s.dropWaits c)
  let s := s.modBench (benchOf c) (fun x => { x with
    cipherQ := x.cipherQ.filter (fun q => q.core != c), sigQ := x.sigQ.filter (fun q => q.core != c) })
  let empty (sl : Slot) : Slot := if !(sl.st == .free) && !(sl.st == .ended) then {} else sl
  s.modCore c (fun k => { k with slots := k.slots.map empty, load := none, dec := none, floats := [], muldiv := none, uwait := none, ewaitFrom := none })

/-- PARK_TIMEOUT (R420, R500). -/
def execParkTimeout (core : Nat) (s : State) : Out3 :=
  if 96 ≤ core then .fault .noSuchUnit
  else timed s (fun s =>
    match (s.core core).parkFrom with
    | none => s
    | some t => (((s.advanceTo (t + 10000000)).evict core).parkCore core).settleAll)

/-- P2_BENCH_WAKE (R501): a bench whose ready queue is not empty wakes one parked core. -/
def execP2BenchWake (bench core : Nat) (s : State) : Out3 :=
  if 4 ≤ bench || benchOf core != bench then .fault .noSuchUnit
  else timed s (fun s =>
    if s.power.state ≠ 2 ∨ (s.readyOn bench).isEmpty ∨ (s.core core).run ≠ .parked then s
    else (s.wakeCore core).workReady bench)

/-! ### Transitions -/

/-- Every retraining unit of every channel runs on the exit from P3 (R487); no item runs then. -/
def State.retrainAll (s : State) : State :=
  ((List.range 24).filter (fun ch => !(s.gddrCh ch).retired)).foldl (fun t ch =>
    (t.retrainNow 2 ch false).retrainNow 3 ch false) s

/-- The exit from P3: what fell in P3 happens in order of instant (R487, R500). -/
def State.leaveP3 (s : State) : State :=
  { s with power := { s.power with state := 2 } }.retrainAll.passOver

/-- A transition may end: no item runs on entry to P2, and no core that is to be parked holds an item (R500). -/
def State.transitionDone (s : State) (dst : Nat) : Bool :=
  if 2 ≤ s.power.state then true
  else if dst = 2 then s.items.all (fun i => !(i.state == .running))
  else s.cores.all (fun c => c.2.parkFrom.isNone || !c.2.occupied)

/-- All cores parked. -/
def State.parkAll (s : State) : State := (List.range 96).foldl State.parkCore s

/-- Cores parked under a mask and the others awake. -/
def State.parkMask (s : State) (mask : BitVec 96) : State :=
  (List.range 96).foldl (fun t c => if mask.getLsbD c then t.parkCore c else t.wakeCore c) s

/-- POWER_TRANSITION_END (R498 to R501). -/
def execPowerTransitionEnd (s : State) : Out3 :=
  timed s (fun s =>
    match s.power.target with
    | none => s
    | some dst =>
      if !s.transitionDone dst then s
      else
        let flushed (st : Stream) : Stream := { st with stagedBytes := 0 }
        let s := if s.power.state = 3 then s.leaveP3 else s
        let s := if dst = 3 then s.modPrimaries flushed else s
        let s := if dst = 2 ∧ s.power.state < 2 then s.parkAll else if dst < 2 then s.parkMask s.power.park else s
        let s := { s with power := { s.power with state := dst, target := none } }
        (s.thermalEvent).settleAll)

/-- FIRMWARE_SWITCH_END (R497): the staged image runs, and the held command ends with its version. -/
def execFirmwareSwitchEnd (s : State) : Out3 :=
  timed s (fun s =>
    match s.power.fwSwitch, s.ident.fwStaged with
    | some p, some f =>
      let s := { s with
        power := { s.power with fwSwitch := none }
        ident := { s.ident with fwRunning := 1 - s.ident.fwRunning, fwStaged := none, rollback := max s.ident.rollback f.floor } }
      let s := s.rewriteWords (fun a => decide (a < customerBase))
      let s := match (s.port p).aheld with
        | some h => s.finish p h.entry 0 h.jsn (BitVec.ofNat 64 f.version)
        | none => s
      s.settleAll
    | _, _ => s)

/-- CORE_CLOCK_CHANGE_END (R502). -/
def execCoreClockChangeEnd (s : State) : Out3 := .next { s with power := { s.power with clkChange := false } }

/-! ### Management interface -/

/-- The management interface answers (R495, R510, R514). -/
def State.mgmtRuns (s : State) : Bool := decide (1 ≤ s.su.step) && !s.su.halted && !s.su.sysResetLow && !s.su.testEn

/-- A block returned (R510, R526). -/
def State.mgmtBlock (s : State) (bytes : Bytes) : State := s.emitOut (.mgmt s.su.mgmtSmbus (0x4C + s.su.mgmtAddr.toNat) bytes)

/-- A management command: nothing answers while the interface does not run. -/
def mgmtRow (s : State) (f : State → State) : Out3 := .next (if s.mgmtRuns then f s else s)

/-- MGMT_IDENTITY (R510): the places of the fields are not given (log 11). -/
def execMgmtIdentity (s : State) : Out3 :=
  mgmtRow s (fun s => s.mgmtBlock (padTo 16 (Config.mgmtBlock 1
    [BitVec.ofNat 64 s.gradeByte, 0xB0, s.ident.serial.setWidth 64, BitVec.ofNat 64 s.fwVersion])))

/-- MGMT_SETUP_STATUS (R510): the places of the fields are not given (log 11). -/
def execMgmtSetupStatus (s : State) : Out3 :=
  mgmtRow s (fun s => s.mgmtBlock (padTo 8 (Config.mgmtBlock 2
    [BitVec.ofNat 64 (s.setupStatus 0 % 2 ^ 48), BitVec.ofNat 64 s.power.state])))

/-- MGMT_THERMAL (R510): the places of the fields are not given (log 11). -/
def execMgmtThermal (s : State) : Out3 :=
  mgmtRow s (fun s => s.mgmtBlock (padTo 16 (Config.mgmtBlock 3
    ([tempW s.hottest] ++ (List.range 5).map (fun i => tempW (s.therm.temps.getD i 0)) ++ [BitVec.ofNat 64 s.therm.watts]))))

/-- MGMT_ALERT_CAUSE (R510). -/
def execMgmtAlertCause (s : State) : Out3 := mgmtRow s (fun s => s.mgmtBlock [s.alert.setWidth 8])

/-- An error-log entry as a block; what is returned where there is none the manual does not say: it is free (log 4). -/
def State.mgmtEntry (s : State) (e : Option LogEntry) : State :=
  match e with
  | some l => s.mgmtBlock l.bytes
  | none => (s.mgmtBlock (s.freeBytes 64)).skipFree 64

/-- MGMT_NEWEST_ENTRY (R510). -/
def execMgmtNewestEntry (s : State) : Out3 := mgmtRow s (fun s => s.mgmtEntry s.elog.head?)

/-- MGMT_SELECTED_ENTRY (R510). -/
def execMgmtSelectedEntry (s : State) : Out3 :=
  mgmtRow s (fun s => s.mgmtEntry (s.elog.find? (fun e => e.seq == s.mgmtSeq.toNat)))

/-- MGMT_ALERT_CLEAR (R12, R510): each 1 clears its bit. -/
def execMgmtAlertClear (v : Byte) (s : State) : Out3 :=
  mgmtRow s (fun s => { s with alert := s.alert &&& ~~~(v.setWidth 4) }.alertFrom s.alertN)

/-- MGMT_SEQ_SELECT (R510). -/
def execMgmtSeqSelect (v : W) (s : State) : Out3 := mgmtRow s (fun s => { s with mgmtSeq := v })

/-! ### JTAG -/

/-- A JTAG instruction takes effect: 0 BYPASS, 1 IDCODE, 2 SAMPLE/PRELOAD, 3 EXTEST, 4 CLAMP, 5 HIGHZ. The last three act as
BYPASS unless SYS_RESET_N is low; with TEST_EN high only BYPASS and IDCODE act (R514, R525). -/
def State.jtag (s : State) (n : Nat) : Out3 :=
  let ir := if (3 ≤ n ∧ !s.su.sysResetLow) ∨ (2 ≤ n ∧ s.su.testEn) then 0 else n
  .next ({ s with su := { s.su with jtagIr := ir } }.emitOut (.jtag ir (if ir = 1 then some 0x19600A3F else none)))

/-- BYPASS (R525). -/
def execJtagBypass (s : State) : Out3 := s.jtag 0
/-- IDCODE (R525). -/
def execJtagIdcode (s : State) : Out3 := s.jtag 1
/-- SAMPLE/PRELOAD (R525). -/
def execJtagSamplePreload (s : State) : Out3 := s.jtag 2
/-- EXTEST (R525). -/
def execJtagExtest (s : State) : Out3 := s.jtag 3
/-- CLAMP (R525). -/
def execJtagClamp (s : State) : Out3 := s.jtag 4
/-- HIGHZ (R525). -/
def execJtagHighz (s : State) : Out3 := s.jtag 5

end Sys2Proof.Machine
end

