-- ==== Sys2Proof/Machine/Strings.lean ====
section
/-!
DEFINITION. The long string family (R379 to R391).
-/

namespace Sys2Proof.Machine

/-- What one unit of a string instruction comes to: more to do, finished, or stopped by an exception after the bytes
before the failing one. -/
inductive UnitRes where
  | more (s : State)
  | done (s : State)
  | stop (s : State) (e : Exn)
  deriving DecidableEq, Repr

/-- A byte access of a string instruction (R381). -/
def State.strCheck (s : State) (w : Who) (a : W) (write : Bool) : Option Exn := s.checkBytes w a.toNat 1 write

/-- The first offset of a unit at which an access fails, with its exception (R382). -/
def firstFail (n : Nat) (f : Nat → Option Exn) : Option (Nat × Exn) :=
  (List.range n).findSome? (fun i => (f i).map (fun e => (i, e)))

/-- A byte read and its frame marked. -/
def State.strRead (s : State) (c : Nat) (a : W) : Byte × State := (s.readByte c a.toNat, s.afterRead a.toNat 1)

/-- The operands of a string instruction and what its byte step does. `step` answers true when it stops on the byte. -/
structure StrOp where
  c : Nat
  px : List Pfx
  op : Nat
  d : Nat
  b : Nat
  check : State → Nat → Option Exn
  step : State → State × Bool

/-- Bytes of the unit in progress: up to the next 64-byte boundary of G[d] (R381). -/
def StrOp.unitLen (o : StrOp) (s : State) : Nat :=
  let k := s.core o.c
  min (64 - (k.rg o.d).toNat % 64) (k.rg o.b).toNat

/-- Bytes of a unit performed one after the other; true when the instruction stopped on one. -/
def StrOp.bytes (o : StrOp) : Nat → State → State × Bool
  | 0, s => (s, false)
  | n + 1, s =>
    let r := o.step s
    if r.2 then r else o.bytes n r.1

/-- One unit (R381, R382). -/
def StrOp.unit (o : StrOp) (s : State) : UnitRes :=
  let n := o.unitLen s
  match firstFail n (o.check s) with
  | none =>
    let r := o.bytes n s
    if r.2 then .done r.1 else if ((r.1.core o.c).rg o.b).toNat = 0 then .done r.1 else .more r.1
  | some (i, e) =>
    let r := o.bytes i s
    if r.2 then .done r.1 else .stop r.1 e

/-- Units performed: `left` counts those before an event is taken, if any (R383). -/
def StrOp.run (o : StrOp) : Nat → Option Nat → State → UnitRes
  | 0, _, s => .more s
  | fuel + 1, left, s =>
    match o.unit s with
    | .more s => match left with
      | some n => if n ≤ 1 then .more s else o.run fuel (some (n - 1)) s
      | none => o.run fuel none s
    | r => r

/-- SSR of an instruction that has committed part of its work (R382, R383); STATE is kept. -/
def ssrActive (k : Core) (op : Nat) : Core :=
  { k with ssr := (k.ssr &&& 0xFFFFFFFFFFFF0000) ||| BitVec.ofNat 64 (1 + op * 256) }

/-- The effect of a string instruction of R380: completion with its flags, an exception with SSR set, or a stop for an
event with PC at the instruction. -/
def StrOp.eff (o : StrOp) (intr : Option Nat) (finish : State → Bool → Core → Core) (s : State) : Eff :=
  let k := s.core o.c
  let n := (k.rg o.b).toNat
  let start := k.pc.toNat
  if n = 0 then .next (s.modCore o.c (fun k => { finish s false k with ssr := 0 }))
  else
    match o.run (n / 64 + 2) intr s with
    | .done t =>
      let hit := ((t.core o.c).rg o.b).toNat != 0
      .next (t.modCore o.c (fun k => { finish t hit k with ssr := 0 }))
    | .more t => .wait (t.modCore o.c (fun k => ssrActive k o.op))
    | .stop t e => .wait ((t.modCore o.c (fun k => ssrActive k o.op)).takeEntry o.c e.vec e.cause e.g2 start start)

/-- G registers advanced by one byte and the length counted down. -/
def strAdvance (c : Nat) (regs : List Nat) (b : Nat) (s : State) : State :=
  s.modCore c (fun k =>
    let k := regs.foldl (fun k r => k.wg r (k.rg r + 1)) k
    k.wg b (k.rg b - 1))

/-- The decoding of a string instruction: distinct G registers (R379). -/
def fmtStr (op : Nat) (d a b : Byte) : Desc :=
  { op := op, len := 4, ok := [okG d, okG a && d != a, okG b && d != b && a != b], fl := true }

/-- SMOV's byte step (R380): one byte copied, both addresses advanced. -/
def smovOp (c : Nat) (px : List Pfx) (w : Who) (d a b : Byte) : StrOp :=
  { c := c, px := px, op := 0xA0, d := d.toNat, b := b.toNat
    check := fun s i =>
      let k := s.core c
      match s.strCheck w (k.rg a.toNat + BitVec.ofNat 64 i) false with
      | some e => some e
      | none => s.strCheck w (k.rg d.toNat + BitVec.ofNat 64 i) true
    step := fun s =>
      let k := s.core c
      let r := s.strRead c (k.rg a.toNat)
      (strAdvance c [d.toNat, a.toNat] b.toNat (r.2.storeBytes c (k.rg d.toNat).toNat [r.1]), false) }

/-- SMOV (R380). -/
def execISmov (c : Nat) (px : List Pfx) (d a b : Byte) (intr : Option Nat) (s : State) : Out3 :=
  s.instr c px { fmtStr 0xA0 d a b with fl := false } (fun s _ =>
    StrOp.eff (smovOp c px (whoOf c (s.core c) px) d a b) intr (fun _ _ k => k) s)

/-- SCMP's byte step (R380): it stops on the first pair of bytes that differ. -/
def scmpOp (c : Nat) (px : List Pfx) (w : Who) (d a b : Byte) : StrOp :=
  { c := c, px := px, op := 0xA1, d := d.toNat, b := b.toNat
    check := fun s i =>
      let k := s.core c
      match s.strCheck w (k.rg d.toNat + BitVec.ofNat 64 i) false with
      | some e => some e
      | none => s.strCheck w (k.rg a.toNat + BitVec.ofNat 64 i) false
    step := fun s =>
      let k := s.core c
      let x := s.strRead c (k.rg d.toNat)
      let y := x.2.strRead c (k.rg a.toNat)
      if x.1 = y.1 then (strAdvance c [d.toNat, a.toNat] b.toNat y.2, false) else (y.2, true) }

/-- SCMP's flags: from the bytes at the addresses it stopped at, or those of equal strings (R380). -/
def scmpFlags (c : Nat) (d a : Byte) (t : State) (hit : Bool) (k : Core) : Core :=
  let lt := hit && decide (t.readByte c (k.rg d.toNat).toNat < t.readByte c (k.rg a.toNat).toNat)
  k.setFl lt (!hit) lt false k.fH

/-- SCMP (R380). -/
def execIScmp (c : Nat) (px : List Pfx) (d a b : Byte) (intr : Option Nat) (s : State) : Out3 :=
  s.instr c px (fmtStr 0xA1 d a b) (fun s _ =>
    StrOp.eff (scmpOp c px (whoOf c (s.core c) px) d a b) intr (scmpFlags c d a) s)

/-- The 256 table bytes are checked as reads before the first unit (R381). -/
def tableCheck (c : Nat) (px : List Pfx) (a : Byte) (b : Byte) (s : State) : Option Exn :=
  let k := s.core c
  if (k.gn b) = 0 then none else s.checkBytes (whoOf c k px) (k.gn a) 256 false

/-- SXLT's byte step (R380): a byte replaced by its entry in the table. -/
def sxltOp (c : Nat) (px : List Pfx) (w : Who) (d a b : Byte) : StrOp :=
  { c := c, px := px, op := 0xA2, d := d.toNat, b := b.toNat
    check := fun s i => s.strCheck w ((s.core c).rg d.toNat + BitVec.ofNat 64 i) true
    step := fun s =>
      let k := s.core c
      let x := s.strRead c (k.rg d.toNat)
      let y := x.2.strRead c (k.rg a.toNat + x.1.setWidth 64)
      (strAdvance c [d.toNat] b.toNat (y.2.storeBytes c (k.rg d.toNat).toNat [y.1]), false) }

/-- SXLT (R380). -/
def execISxlt (c : Nat) (px : List Pfx) (d a b : Byte) (intr : Option Nat) (s : State) : Out3 :=
  s.instr c px { fmtStr 0xA2 d a b with fl := false } (fun s _ =>
    match tableCheck c px a b s with
    | some e => .exc e
    | none => StrOp.eff (sxltOp c px (whoOf c (s.core c) px) d a b) intr (fun _ _ k => k) s)

/-- SSCN's byte step (R380): it stops on the first byte whose function code is not 0, and writes the code. -/
def sscnOp (c : Nat) (px : List Pfx) (w : Who) (d a b e : Byte) : StrOp :=
  { c := c, px := px, op := 0xA3, d := d.toNat, b := b.toNat
    check := fun s i => s.strCheck w ((s.core c).rg d.toNat + BitVec.ofNat 64 i) false
    step := fun s =>
      let k := s.core c
      let x := s.strRead c (k.rg d.toNat)
      let f := x.2.strRead c (k.rg a.toNat + x.1.setWidth 64)
      if f.1 = 0 then (strAdvance c [d.toNat] b.toNat f.2, false)
      else (f.2.modCore c (fun k => k.wg e.toNat (f.1.setWidth 64)), true) }

/-- Z says that nothing was found; the other flags are kept (R380). -/
def foundFlag (_t : State) (hit : Bool) (k : Core) : Core := k.setZ (!hit)

/-- SSCN (R380). -/
def execISscn (c : Nat) (px : List Pfx) (d a b e : Byte) (intr : Option Nat) (s : State) : Out3 :=
  s.instr c px
    { op := 0xA3, len := 5, fl := true
      ok := [okG d, okG a && d != a, okG b && d != b && a != b, okG e && e != d && e != a && e != b] } (fun s _ =>
    match tableCheck c px a b s with
    | some x => .exc x
    | none => StrOp.eff (sscnOp c px (whoOf c (s.core c) px) d a b e) intr foundFlag s)

/-- SFND's byte step (R380): it stops on the byte sought. -/
def sfndOp (c : Nat) (px : List Pfx) (w : Who) (d a b : Byte) : StrOp :=
  { c := c, px := px, op := 0xA4, d := d.toNat, b := b.toNat
    check := fun s i => s.strCheck w ((s.core c).rg d.toNat + BitVec.ofNat 64 i) false
    step := fun s =>
      let k := s.core c
      let x := s.strRead c (k.rg d.toNat)
      if x.1.toNat = k.gn a then (x.2, true) else (strAdvance c [d.toNat] b.toNat x.2, false) }

/-- SFND (R379, R380). -/
def execISfnd (c : Nat) (px : List Pfx) (d a b : Byte) (intr : Option Nat) (s : State) : Out3 :=
  s.instr c px (fmtStr 0xA4 d a b) (fun s _ =>
    if 256 ≤ (s.core c).gn a then .exc Exn.reserved
    else StrOp.eff (sfndOp c px (whoOf c (s.core c) px) d a b) intr foundFlag s)

/-! ### SEDT (R386 to R391) -/

/-- The edit state of SSR.STATE (R386, R390). -/
structure Edit where
  left : Nat
  sig : Bool
  floatSet : Bool
  floatDone : Bool
  ovf : Bool
  fill : Byte
  floatC : Byte
  count : Nat
  deriving DecidableEq, Repr

/-- SSR of an interrupted SEDT (R390). -/
def Edit.ssr (e : Edit) : W :=
  BitVec.ofNat 64 (1 + 0xA5 * 2 ^ 8 + e.left * 2 ^ 16 + (if e.sig then 2 ^ 21 else 0) + (if e.floatSet then 2 ^ 22 else 0) +
    (if e.floatDone then 2 ^ 23 else 0) + (if e.ovf then 2 ^ 24 else 0) + e.fill.toNat * 2 ^ 32 +
    e.floatC.toNat * 2 ^ 40 + e.count * 2 ^ 48)

/-- The edit state of an SSR; none where R391 finds it illegal. -/
def Edit.ofSsr (x : Nat) : Option Edit :=
  let e : Edit :=
    { left := nbits x 16 5, sig := nbit x 21, floatSet := nbit x 22, floatDone := nbit x 23, ovf := nbit x 24
      fill := BitVec.ofNat 8 (nbits x 32 8), floatC := BitVec.ofNat 8 (nbits x 40 8), count := nbits x 48 11 }
  if nbits x 25 7 ≠ 0 ∨ nbits x 59 5 ≠ 0 ∨ e.count = 0 ∨ 1024 < e.count ∨ (e.floatDone ∧ !e.floatSet) then none
  else some e

/-- What a pattern code asks for: bytes to emit and the edit state after it, the end, or an invalid pattern (R387 to
R389). `p1` and `p2` are its operand bytes. -/
inductive EditAct where
  | emit (bs : Bytes) (e : Edit)
  | finish
  | invalid
  deriving DecidableEq, Repr

/-- DIGIT and SIGON (R388). -/
def editDigit (src : BitVec 128) (e : Edit) : EditAct :=
  if e.left = 0 then .invalid
  else
    let x := drDigit src (e.left - 1)
    let e := { e with left := e.left - 1, sig := e.sig || x != 0 }
    let dig : Byte := BitVec.ofNat 8 (0x30 + x)
    if e.sig then
      if e.floatSet && !e.floatDone then .emit [e.floatC, dig] { e with floatDone := true } else .emit [dig] e
    else .emit [e.fill] e

/-- A pattern code's action (R387). -/
def editAct (src : BitVec 128) (e : Edit) (code : Nat) (p1 p2 : Byte) : EditAct :=
  if code = 0 then (if e.left = 0 then .finish else .invalid)
  else if code = 1 then editDigit src e
  else if code = 2 then editDigit src { e with sig := true }
  else if code = 3 then .emit [] { e with fill := p1 }
  else if code = 4 then .emit [if decide (drValue src < 0) then p2 else p1] e
  else if code = 5 then .emit [] { e with floatC := p1, floatSet := true, floatDone := false }
  else if code = 6 then .emit [p1] e
  else if code < 0x20 then .invalid
  else .emit [if e.sig then BitVec.ofNat 8 code else e.fill] e

/-- Bytes a pattern code takes (R387). -/
def editLen (code : Nat) : Nat := if code = 4 then 3 else if code = 3 ∨ code = 5 ∨ code = 6 then 2 else 1

/-- One unit of SEDT (R381, R387, R389). Where a floating character can be written and the digit after it cannot, the former is
committed and the edit state says so (R382, R390). -/
def editUnit (c : Nat) (w : Who) (d a : Nat) (src : BitVec 128) (s : State) (e : Edit) : UnitRes × Edit :=
  let k := s.core c
  let pa := k.rg a
  let bad : UnitRes × Edit := (.stop s { vec := 6, cause := 5, g2 := pa }, e)
  match s.strCheck w pa false with
  | some x => (.stop s x, e)
  | none =>
    let code := (s.readByte c pa.toNat).toNat
    let n := editLen code
    if 1024 < e.count + n then bad
    else match s.checkBytes w pa.toNat n false with
    | some x => (.stop s x, e)
    | none =>
      let s' := s.touchRead pa.toNat n
      match editAct src e code (s.readByte c (pa + 1).toNat) (s.readByte c (pa + 2).toNat) with
      | .invalid => bad
      | .finish =>
        (.done (s'.modCore c (fun k =>
          { (k.wg a (pa + 1)).setFl false (drMag src == 0) (decide (drValue src < 0)) e.ovf k.fH with ssr := 0 })), e)
      | .emit bs e' =>
        let at_ := k.rg d
        match s.checkBytes w at_.toNat (min 1 bs.length) true,
            (if bs.length = 2 then s.checkBytes w (at_ + 1).toNat 1 true else none) with
        | some x, _ => (.stop s x, e)
        | none, some x =>
          (.stop ((s'.storeBytes c at_.toNat (bs.take 1)).modCore c (fun k => k.wg d (at_ + 1))) x, { e with floatDone := true })
        | none, none =>
          let e' := { e' with count := e.count + n }
          let s := (List.range bs.length).foldl (fun t i =>
            t.storeBytes c (k.rg d + BitVec.ofNat 64 i).toNat [bs.getD i 0]) s'
          (.more (s.modCore c (fun k =>
            { (k.wg a (pa + BitVec.ofNat 64 n)).wg d (k.rg d + BitVec.ofNat 64 bs.length) with ssr := e'.ssr })), e')

/-- Units of SEDT; a pattern holds at most 1,024. -/
def editRun (c : Nat) (w : Who) (d a : Nat) (src : BitVec 128) : Nat → Option Nat → State → Edit → UnitRes × Edit
  | 0, _, s, e => (.more s, e)
  | fuel + 1, left, s, e =>
    match editUnit c w d a src s e with
    | (.more s, e) => match left with
      | some n => if n ≤ 1 then (.more s, e) else editRun c w d a src fuel (some (n - 1)) s e
      | none => editRun c w d a src fuel none s e
    | r => r

/-- SEDT (R386 to R391). -/
def execISedt (c : Nat) (px : List Pfx) (d a b : Byte) (intr : Option Nat) (s : State) : Out3 :=
  s.instr c px { op := 0xA5, len := 4, ok := [okG d, okG a && d != a, okF b], fl := true } (fun s _ =>
    let k := s.core c
    let w := whoOf c k px
    let src := k.rd b.toNat
    let start := k.pc.toNat
    let go (s : State) (e : Edit) : Eff :=
      match editRun c w d.toNat a.toNat src 1025 intr s e with
      | (.done t, _) => .next t
      | (.more t, e) => .wait (t.modCore c (fun k => { k with ssr := e.ssr }))
      | (.stop t x, e) =>
        .wait ((t.modCore c (fun k => { k with ssr := e.ssr })).takeEntry c x.vec x.cause x.g2 start start)
    match decValid [src] with
    | some x => .exc x
    | none =>
      if nbit k.ssr.toNat 0 ∧ nbits k.ssr.toNat 8 8 = 0xA5 then
        match Edit.ofSsr k.ssr.toNat with
        | none => .exc Exn.reserved
        | some e => go s e
      else
        let pa := k.rg a.toNat
        match s.strCheck w pa false with
        | some x => .exc x
        | none =>
          let n := (s.readByte c pa.toNat).toNat
          if n = 0 ∨ 31 < n then .exc { vec := 6, cause := 5, g2 := pa }
          else
            let ovf := decide (10 ^ n ≤ drMag src)
            if ovf && k.doe then .exc { vec := 7, cause := 1 }
            else
              let e : Edit :=
                { left := n, sig := false, floatSet := false, floatDone := false, ovf := ovf, fill := 0x20
                  floatC := 0, count := 1 }
              go ((s.touchRead pa.toNat 1).modCore c (fun k => { k.wg a.toNat (pa + 1) with ssr := e.ssr })) e)

end Sys2Proof.Machine
end

