-- ==== Sys2Proof/Machine/Dispatch.lean ====
section
/-!
DEFINITION. The meaning of every command: one arm for each constructor.
-/

namespace Sys2Proof.Machine

def exec (i : Instr) (s : State) : Host.Outcome State Fault Refusal :=
  match i with
  | .setupRegisterWrite p off size v => Sys2Proof.Machine.execSetupRegisterWrite p off size v s
  | .setupCommit p size v heads => Sys2Proof.Machine.execSetupCommit p size v heads s
  | .setupStatusClear p size v => Sys2Proof.Machine.execSetupStatusClear p size v s
  | .kickDoorbellGroup p size v rd => Sys2Proof.Machine.execKickDoorbellGroup p size v rd s
  | .kickAdminRing p size v tail entry => Sys2Proof.Machine.execKickAdminRing p size v tail entry s
  | .identify p wrOk => Sys2Proof.Machine.execIdentify p wrOk s
  | .getFeature p => Sys2Proof.Machine.execGetFeature p s
  | .setFeature p => Sys2Proof.Machine.execSetFeature p s
  | .createCq p => Sys2Proof.Machine.execCreateCq p s
  | .deleteCq p => Sys2Proof.Machine.execDeleteCq p s
  | .openChannel p => Sys2Proof.Machine.execOpenChannel p s
  | .closeChannel p word => Sys2Proof.Machine.execCloseChannel p word s
  | .bindPort p head => Sys2Proof.Machine.execBindPort p head s
  | .loadProgram p data codeAt dataAt => Sys2Proof.Machine.execLoadProgram p data codeAt dataAt s
  | .activateProgram p => Sys2Proof.Machine.execActivateProgram p s
  | .loadMicrocode p data => Sys2Proof.Machine.execLoadMicrocode p data s
  | .registerKey p data => Sys2Proof.Machine.execRegisterKey p data s
  | .importKey p data => Sys2Proof.Machine.execImportKey p data s
  | .issueToken p data wrOk => Sys2Proof.Machine.execIssueToken p data wrOk s
  | .revokeSlot p data wrOk => Sys2Proof.Machine.execRevokeSlot p data wrOk s
  | .setTime p => Sys2Proof.Machine.execSetTime p s
  | .setCalendar p data => Sys2Proof.Machine.execSetCalendar p data s
  | .setPower p => Sys2Proof.Machine.execSetPower p s
  | .quiesce p => Sys2Proof.Machine.execQuiesce p s
  | .pairTwin p => Sys2Proof.Machine.execPairTwin p s
  | .adoptFailed p heads => Sys2Proof.Machine.execAdoptFailed p heads s
  | .adoptPlanned p => Sys2Proof.Machine.execAdoptPlanned p s
  | .journalRead p wrOk => Sys2Proof.Machine.execJournalRead p wrOk s
  | .channelState p wrOk => Sys2Proof.Machine.execChannelState p wrOk s
  | .telemetryRead p wrOk => Sys2Proof.Machine.execTelemetryRead p wrOk s
  | .errorLogRead p wrOk => Sys2Proof.Machine.execErrorLogRead p wrOk s
  | .setBackground p data => Sys2Proof.Machine.execSetBackground p data s
  | .fwUpdateStage p data => Sys2Proof.Machine.execFwUpdateStage p data s
  | .fwUpdateActivate p => Sys2Proof.Machine.execFwUpdateActivate p s
  | .adminCompletionPost p next => Sys2Proof.Machine.execAdminCompletionPost p next s
  | .adminHeadRead p word => Sys2Proof.Machine.execAdminHeadRead p word s
  | .doorbellPoll g rd => Sys2Proof.Machine.execDoorbellPoll g rd s
  | .groupArm g rd => Sys2Proof.Machine.execGroupArm g rd s
  | .msgIn ch desc => Sys2Proof.Machine.execMsgIn ch desc s
  | .accept ch body win => Sys2Proof.Machine.execAccept ch body win s
  | .descriptorReadFault ch => Sys2Proof.Machine.execDescriptorReadFault ch s
  | .bufOut ch desc => Sys2Proof.Machine.execBufOut ch desc s
  | .ctrlMark ch desc => Sys2Proof.Machine.execCtrlMark ch desc s
  | .ctrlReturnBuffers ch desc => Sys2Proof.Machine.execCtrlReturnBuffers ch desc s
  | .ctrlStop ch desc => Sys2Proof.Machine.execCtrlStop ch desc s
  | .ctrlStart ch desc => Sys2Proof.Machine.execCtrlStart ch desc s
  | .granuleGrant => Sys2Proof.Machine.execGranuleGrant s
  | .completionPost ring => Sys2Proof.Machine.execCompletionPost ring s
  | .headWordRead ring word => Sys2Proof.Machine.execHeadWordRead ring word s
  | .irqHoldoffExpiry ring => Sys2Proof.Machine.execIrqHoldoffExpiry ring s
  | .portLinkDown p => Sys2Proof.Machine.execPortLinkDown p s
  | .portLinkUp p => Sys2Proof.Machine.execPortLinkUp p s
  | .dStateChange p d => Sys2Proof.Machine.execDStateChange p d s
  | .recordFrame sl f => Sys2Proof.Machine.execRecordFrame sl f s
  | .tailFrame sl f => Sys2Proof.Machine.execTailFrame sl f s
  | .stagedFrame sl f => Sys2Proof.Machine.execStagedFrame sl f s
  | .ackFrame sl f => Sys2Proof.Machine.execAckFrame sl f s
  | .nakFrame sl f => Sys2Proof.Machine.execNakFrame sl f s
  | .idleFrame sl f => Sys2Proof.Machine.execIdleFrame sl f s
  | .heartbeatFrame sl f => Sys2Proof.Machine.execHeartbeatFrame sl f s
  | .timeFrame sl f => Sys2Proof.Machine.execTimeFrame sl f s
  | .pairPropose sl f => Sys2Proof.Machine.execPairPropose sl f s
  | .pairAgree sl f => Sys2Proof.Machine.execPairAgree sl f s
  | .pairCatchupDone sl f => Sys2Proof.Machine.execPairCatchupDone sl f s
  | .pairUnpair sl f => Sys2Proof.Machine.execPairUnpair sl f s
  | .pairRefuse sl f => Sys2Proof.Machine.execPairRefuse sl f s
  | .fenceRequestRelease sl f => Sys2Proof.Machine.execFenceRequestRelease sl f s
  | .fenceReleased sl f => Sys2Proof.Machine.execFenceReleased sl f s
  | .fenceAdopted sl f => Sys2Proof.Machine.execFenceAdopted sl f s
  | .releaseTimeout => Sys2Proof.Machine.execReleaseTimeout s
  | .nakGapTimeout => Sys2Proof.Machine.execNakGapTimeout s
  | .resendTimeout => Sys2Proof.Machine.execResendTimeout s
  | .ackTimer => Sys2Proof.Machine.execAckTimer s
  | .stagedTimer => Sys2Proof.Machine.execStagedTimer s
  | .heartbeatTimer => Sys2Proof.Machine.execHeartbeatTimer s
  | .timeFrameTimer => Sys2Proof.Machine.execTimeFrameTimer s
  | .sublinkTrained sl => Sys2Proof.Machine.execSublinkTrained sl s
  | .sublinkSilenceTimeout sl => Sys2Proof.Machine.execSublinkSilenceTimeout sl s
  | .sublinkErrorLimit sl n => Sys2Proof.Machine.execSublinkErrorLimit sl n s
  | .codewordAlignmentLoss sl => Sys2Proof.Machine.execCodewordAlignmentLoss sl s
  | .sublinkRetrainTimer sl => Sys2Proof.Machine.execSublinkRetrainTimer sl s
  | .fenceTimeout => Sys2Proof.Machine.execFenceTimeout s
  | .proposeTimeout => Sys2Proof.Machine.execProposeTimeout s
  | .confinementDone => Sys2Proof.Machine.execConfinementDone s
  | .sealAppend area => Sys2Proof.Machine.execSealAppend area s
  | .checkpoint area => Sys2Proof.Machine.execCheckpoint area s
  | .ppsEdge n => Sys2Proof.Machine.execPpsEdge n s
  | .ppsMissing => Sys2Proof.Machine.execPpsMissing s
  | .setTimeLapse => Sys2Proof.Machine.execSetTimeLapse s
  | .offsetAbsorbed => Sys2Proof.Machine.execOffsetAbsorbed s
  | .timeQualityEval n => Sys2Proof.Machine.execTimeQualityEval n s
  | .ledgerSecond => Sys2Proof.Machine.execLedgerSecond s
  | .ppsOutEnd => Sys2Proof.Machine.execPpsOutEnd s
  | .cutoffInstant idx => Sys2Proof.Machine.execCutoffInstant idx s
  | .keyRolloverInstant idx => Sys2Proof.Machine.execKeyRolloverInstant idx s
  | .windowOpen idx => Sys2Proof.Machine.execWindowOpen idx s
  | .windowClose idx => Sys2Proof.Machine.execWindowClose idx s
  | .deadlineMiss => Sys2Proof.Machine.execDeadlineMiss s
  | .dialogueFire => Sys2Proof.Machine.execDialogueFire s
  | .remnantDiscard => Sys2Proof.Machine.execRemnantDiscard s
  | .dialogueContextFree => Sys2Proof.Machine.execDialogueContextFree s
  | .generationRetire prog gen => Sys2Proof.Machine.execGenerationRetire prog gen s
  | .turnTimer core => Sys2Proof.Machine.execTurnTimer core s
  | .eventEntry core => Sys2Proof.Machine.execEventEntry core s
  | .evcRaiseWrite bench v => Sys2Proof.Machine.execEvcRaiseWrite bench v s
  | .evcPendingWithdraw bench src v => Sys2Proof.Machine.execEvcPendingWithdraw bench src v s
  | .evcTurnRestart bench n v => Sys2Proof.Machine.execEvcTurnRestart bench n v s
  | .evcRegisterWrite bench off size v => Sys2Proof.Machine.execEvcRegisterWrite bench off size v s
  | .groupHoldoffEnd bench g => Sys2Proof.Machine.execGroupHoldoffEnd bench g s
  | .muldivComplete core => Sys2Proof.Machine.execMuldivComplete core s
  | .coreFault core repeats => Sys2Proof.Machine.execCoreFault core repeats s
  | .engineFault bench unit => Sys2Proof.Machine.execEngineFault bench unit s
  | .macGen bench => Sys2Proof.Machine.execMacGen bench s
  | .macVerify bench => Sys2Proof.Machine.execMacVerify bench s
  | .pinTranslate bench => Sys2Proof.Machine.execPinTranslate bench s
  | .hashCmd bench => Sys2Proof.Machine.execHashCmd bench s
  | .keyExport bench => Sys2Proof.Machine.execKeyExport bench s
  | .randomCmd bench => Sys2Proof.Machine.execRandomCmd bench s
  | .attenuate bench => Sys2Proof.Machine.execAttenuate bench s
  | .signCmd bench => Sys2Proof.Machine.execSignCmd bench s
  | .verifyCmd bench => Sys2Proof.Machine.execVerifyCmd bench s
  | .tamper => Sys2Proof.Machine.execTamper s
  | .entropyHealthFail test => Sys2Proof.Machine.execEntropyHealthFail test s
  | .reseedTimeout => Sys2Proof.Machine.execReseedTimeout s
  | .pwrFail => Sys2Proof.Machine.execPwrFail s
  | .railUndervoltage rail => Sys2Proof.Machine.execRailUndervoltage rail s
  | .powerOn => Sys2Proof.Machine.execPowerOn s
  | .sysReset => Sys2Proof.Machine.execSysReset s
  | .startUp b => Sys2Proof.Machine.execStartUp b s
  | .perst p => Sys2Proof.Machine.execPerst p s
  | .hotReset p => Sys2Proof.Machine.execHotReset p s
  | .flr p => Sys2Proof.Machine.execFlr p s
  | .sysRefclkLoss => Sys2Proof.Machine.execSysRefclkLoss s
  | .timeRefClkLoss => Sys2Proof.Machine.execTimeRefClkLoss s
  | .thermalSensorRead temps watts => Sys2Proof.Machine.execThermalSensorRead temps watts s
  | .parkTimeout core => Sys2Proof.Machine.execParkTimeout core s
  | .p2BenchWake bench core => Sys2Proof.Machine.execP2BenchWake bench core s
  | .gddr6CrcError ch write retries finalOk line => Sys2Proof.Machine.execGddr6CrcError ch write retries finalOk line s
  | .mramDieFail die => Sys2Proof.Machine.execMramDieFail die s
  | .refresh ch delayed => Sys2Proof.Machine.execRefresh ch delayed s
  | .wckRetrain ch ok delayed => Sys2Proof.Machine.execWckRetrain ch ok delayed s
  | .dataRetrain ch ok delayed => Sys2Proof.Machine.execDataRetrain ch ok delayed s
  | .gddr6Scrub ch corrected bad delayed => Sys2Proof.Machine.execGddr6Scrub ch corrected bad delayed s
  | .sramScrub die corrected bad delayed => Sys2Proof.Machine.execSramScrub die corrected bad delayed s
  | .mramScrub corrected bad delayed => Sys2Proof.Machine.execMramScrub corrected bad delayed s
  | .wedging area => Sys2Proof.Machine.execWedging area s
  | .telemetry => Sys2Proof.Machine.execTelemetry s
  | .entropy bench seed delayed => Sys2Proof.Machine.execEntropy bench seed delayed s
  | .channelMove ch unreadable => Sys2Proof.Machine.execChannelMove ch unreadable s
  | .mgmtIdentity => Sys2Proof.Machine.execMgmtIdentity s
  | .mgmtSetupStatus => Sys2Proof.Machine.execMgmtSetupStatus s
  | .mgmtThermal => Sys2Proof.Machine.execMgmtThermal s
  | .mgmtAlertCause => Sys2Proof.Machine.execMgmtAlertCause s
  | .mgmtNewestEntry => Sys2Proof.Machine.execMgmtNewestEntry s
  | .mgmtSelectedEntry => Sys2Proof.Machine.execMgmtSelectedEntry s
  | .mgmtAlertClear v => Sys2Proof.Machine.execMgmtAlertClear v s
  | .mgmtSeqSelect v => Sys2Proof.Machine.execMgmtSeqSelect v s
  | .jtagBypass => Sys2Proof.Machine.execJtagBypass s
  | .jtagIdcode => Sys2Proof.Machine.execJtagIdcode s
  | .jtagSamplePreload => Sys2Proof.Machine.execJtagSamplePreload s
  | .jtagExtest => Sys2Proof.Machine.execJtagExtest s
  | .jtagClamp => Sys2Proof.Machine.execJtagClamp s
  | .jtagHighz => Sys2Proof.Machine.execJtagHighz s
  | .iIll c px => Sys2Proof.Machine.execIIll c px s
  | .iNop c px => Sys2Proof.Machine.execINop c px s
  | .iBr8 c px rel => Sys2Proof.Machine.execIBr8 c px rel s
  | .iBr32 c px rel => Sys2Proof.Machine.execIBr32 c px rel s
  | .iBcc8 c px cc rel => Sys2Proof.Machine.execIBcc8 c px cc rel s
  | .iBcc32 c px cc rel => Sys2Proof.Machine.execIBcc32 c px cc rel s
  | .iCall c px d rel => Sys2Proof.Machine.execICall c px d rel s
  | .iJmp c px a => Sys2Proof.Machine.execIJmp c px a s
  | .iCallr c px d a => Sys2Proof.Machine.execICallr c px d a s
  | .iLoop c px a rel => Sys2Proof.Machine.execILoop c px a rel s
  | .iLoopi c px imm rel => Sys2Proof.Machine.execILoopi c px imm rel s
  | .iLeave c px => Sys2Proof.Machine.execILeave c px s
  | .iLdB c px m late => Sys2Proof.Machine.execILdB c px m late s
  | .iLdH c px m late => Sys2Proof.Machine.execILdH c px m late s
  | .iLdW c px m late => Sys2Proof.Machine.execILdW c px m late s
  | .iLdD c px m late => Sys2Proof.Machine.execILdD c px m late s
  | .iLdsB c px m late => Sys2Proof.Machine.execILdsB c px m late s
  | .iLdsH c px m late => Sys2Proof.Machine.execILdsH c px m late s
  | .iLdsW c px m late => Sys2Proof.Machine.execILdsW c px m late s
  | .iLea c px m => Sys2Proof.Machine.execILea c px m s
  | .iStB c px m => Sys2Proof.Machine.execIStB c px m s
  | .iStH c px m => Sys2Proof.Machine.execIStH c px m s
  | .iStW c px m => Sys2Proof.Machine.execIStW c px m s
  | .iStD c px m => Sys2Proof.Machine.execIStD c px m s
  | .iLdQ c px m late => Sys2Proof.Machine.execILdQ c px m late s
  | .iStQ c px m => Sys2Proof.Machine.execIStQ c px m s
  | .iSwap c px m => Sys2Proof.Machine.execISwap c px m s
  | .iCas c px a m => Sys2Proof.Machine.execICas c px a m s
  | .iAdd c px d a b => Sys2Proof.Machine.execIAdd c px d a b s
  | .iAdc c px d a b => Sys2Proof.Machine.execIAdc c px d a b s
  | .iSub c px d a b => Sys2Proof.Machine.execISub c px d a b s
  | .iSbb c px d a b => Sys2Proof.Machine.execISbb c px d a b s
  | .iAnd c px d a b => Sys2Proof.Machine.execIAnd c px d a b s
  | .iOr c px d a b => Sys2Proof.Machine.execIOr c px d a b s
  | .iXor c px d a b => Sys2Proof.Machine.execIXor c px d a b s
  | .iAndn c px d a b => Sys2Proof.Machine.execIAndn c px d a b s
  | .iMov c px d a => Sys2Proof.Machine.execIMov c px d a s
  | .iNeg c px d a => Sys2Proof.Machine.execINeg c px d a s
  | .iNot c px d a => Sys2Proof.Machine.execINot c px d a s
  | .iCmp c px a b => Sys2Proof.Machine.execICmp c px a b s
  | .iTst c px a b => Sys2Proof.Machine.execITst c px a b s
  | .iMin c px d a b => Sys2Proof.Machine.execIMin c px d a b s
  | .iMax c px d a b => Sys2Proof.Machine.execIMax c px d a b s
  | .iAddi c px d a imm => Sys2Proof.Machine.execIAddi c px d a imm s
  | .iSubi c px d a imm => Sys2Proof.Machine.execISubi c px d a imm s
  | .iAndi c px d a imm => Sys2Proof.Machine.execIAndi c px d a imm s
  | .iOri c px d a imm => Sys2Proof.Machine.execIOri c px d a imm s
  | .iXori c px d a imm => Sys2Proof.Machine.execIXori c px d a imm s
  | .iCmpi c px a imm => Sys2Proof.Machine.execICmpi c px a imm s
  | .iTsti c px a imm => Sys2Proof.Machine.execITsti c px a imm s
  | .iMovi c px d imm => Sys2Proof.Machine.execIMovi c px d imm s
  | .iMovi64 c px d imm => Sys2Proof.Machine.execIMovi64 c px d imm s
  | .iCmpi8 c px a imm => Sys2Proof.Machine.execICmpi8 c px a imm s
  | .iShl c px d a b => Sys2Proof.Machine.execIShl c px d a b s
  | .iShr c px d a b => Sys2Proof.Machine.execIShr c px d a b s
  | .iSar c px d a b => Sys2Proof.Machine.execISar c px d a b s
  | .iRol c px d a b => Sys2Proof.Machine.execIRol c px d a b s
  | .iRor c px d a b => Sys2Proof.Machine.execIRor c px d a b s
  | .iShli c px d a imm => Sys2Proof.Machine.execIShli c px d a imm s
  | .iShri c px d a imm => Sys2Proof.Machine.execIShri c px d a imm s
  | .iSari c px d a imm => Sys2Proof.Machine.execISari c px d a imm s
  | .iRoli c px d a imm => Sys2Proof.Machine.execIRoli c px d a imm s
  | .iRori c px d a imm => Sys2Proof.Machine.execIRori c px d a imm s
  | .iExt c px d a p l => Sys2Proof.Machine.execIExt c px d a p l s
  | .iIns c px d a p l => Sys2Proof.Machine.execIIns c px d a p l s
  | .iBswap c px d a => Sys2Proof.Machine.execIBswap c px d a s
  | .iClz c px d a => Sys2Proof.Machine.execIClz c px d a s
  | .iCtz c px d a => Sys2Proof.Machine.execICtz c px d a s
  | .iPopc c px d a => Sys2Proof.Machine.execIPopc c px d a s
  | .iMul c px a b => Sys2Proof.Machine.execIMul c px a b s
  | .iMuls c px a b => Sys2Proof.Machine.execIMuls c px a b s
  | .iMflo c px d => Sys2Proof.Machine.execIMflo c px d s
  | .iMfhi c px d => Sys2Proof.Machine.execIMfhi c px d s
  | .iDiv c px a b => Sys2Proof.Machine.execIDiv c px a b s
  | .iDivs c px a b => Sys2Proof.Machine.execIDivs c px a b s
  | .iMtlo c px a => Sys2Proof.Machine.execIMtlo c px a s
  | .iMthi c px a => Sys2Proof.Machine.execIMthi c px a s
  | .iBset c px a => Sys2Proof.Machine.execIBset c px a s
  | .iBclr c px a => Sys2Proof.Machine.execIBclr c px a s
  | .iBinv c px a => Sys2Proof.Machine.execIBinv c px a s
  | .iBtst c px a => Sys2Proof.Machine.execIBtst c px a s
  | .iBbs c px a rel => Sys2Proof.Machine.execIBbs c px a rel s
  | .iBbc c px a rel => Sys2Proof.Machine.execIBbc c px a rel s
  | .iBtoc c px a => Sys2Proof.Machine.execIBtoc c px a s
  | .iBfromc c px a => Sys2Proof.Machine.execIBfromc c px a s
  | .iBffs c px d a b => Sys2Proof.Machine.execIBffs c px d a b s
  | .iFadd c px d a b late => Sys2Proof.Machine.execIFadd c px d a b late s
  | .iFsub c px d a b late => Sys2Proof.Machine.execIFsub c px d a b late s
  | .iFmul c px d a b late => Sys2Proof.Machine.execIFmul c px d a b late s
  | .iFdiv c px d a b late => Sys2Proof.Machine.execIFdiv c px d a b late s
  | .iFsqrt c px d a late => Sys2Proof.Machine.execIFsqrt c px d a late s
  | .iFmadd c px d a b e late => Sys2Proof.Machine.execIFmadd c px d a b e late s
  | .iFcmp c px a b late => Sys2Proof.Machine.execIFcmp c px a b late s
  | .iFmin c px d a b late => Sys2Proof.Machine.execIFmin c px d a b late s
  | .iFmax c px d a b late => Sys2Proof.Machine.execIFmax c px d a b late s
  | .iFcvt c px sub d a late => Sys2Proof.Machine.execIFcvt c px sub d a late s
  | .iFmov c px sub d a => Sys2Proof.Machine.execIFmov c px sub d a s
  | .iFld c px m late => Sys2Proof.Machine.execIFld c px m late s
  | .iFst c px m => Sys2Proof.Machine.execIFst c px m s
  | .iFsgn c px sub d a b => Sys2Proof.Machine.execIFsgn c px sub d a b s
  | .iDadd c px d a b late => Sys2Proof.Machine.execIDadd c px d a b late s
  | .iDsub c px d a b late => Sys2Proof.Machine.execIDsub c px d a b late s
  | .iDmul c px d a b late => Sys2Proof.Machine.execIDmul c px d a b late s
  | .iDdiv c px d a b late => Sys2Proof.Machine.execIDdiv c px d a b late s
  | .iDcmp c px a b late => Sys2Proof.Machine.execIDcmp c px a b late s
  | .iDnrm c px d a late => Sys2Proof.Machine.execIDnrm c px d a late s
  | .iDscl c px d a sc m late => Sys2Proof.Machine.execIDscl c px d a sc m late s
  | .iDld c px m late => Sys2Proof.Machine.execIDld c px m late s
  | .iDst c px m => Sys2Proof.Machine.execIDst c px m s
  | .iZtod c px m late => Sys2Proof.Machine.execIZtod c px m late s
  | .iDtoz c px m => Sys2Proof.Machine.execIDtoz c px m s
  | .iGtod c px d a late => Sys2Proof.Machine.execIGtod c px d a late s
  | .iDtog c px d a late => Sys2Proof.Machine.execIDtog c px d a late s
  | .iDadj c px d a => Sys2Proof.Machine.execIDadj c px d a s
  | .iLuhn c px d a b => Sys2Proof.Machine.execILuhn c px d a b s
  | .iDmov c px d a => Sys2Proof.Machine.execIDmov c px d a s
  | .iSmov c px d a b intr => Sys2Proof.Machine.execISmov c px d a b intr s
  | .iScmp c px d a b intr => Sys2Proof.Machine.execIScmp c px d a b intr s
  | .iSxlt c px d a b intr => Sys2Proof.Machine.execISxlt c px d a b intr s
  | .iSscn c px d a b e intr => Sys2Proof.Machine.execISscn c px d a b e intr s
  | .iSfnd c px d a b intr => Sys2Proof.Machine.execISfnd c px d a b intr s
  | .iSedt c px d a b intr => Sys2Proof.Machine.execISedt c px d a b intr s
  | .iCustomer c px op ops intr => Sys2Proof.Machine.execICustomer c px op ops intr s
  | .iIsync c px => Sys2Proof.Machine.execIIsync c px s
  | .iFence c px ty => Sys2Proof.Machine.execIFence c px ty s
  | .iFbar c px => Sys2Proof.Machine.execIFbar c px s
  | .iRett c px => Sys2Proof.Machine.execIRett c px s
  | .iTrap c px n => Sys2Proof.Machine.execITrap c px n s
  | .iKset c px a b => Sys2Proof.Machine.execIKset c px a b s
  | .iKget c px d a => Sys2Proof.Machine.execIKget c px d a s
  | .iMfsr c px d n => Sys2Proof.Machine.execIMfsr c px d n s
  | .iMtsr c px a n => Sys2Proof.Machine.execIMtsr c px a n s
  | .iTake c px => Sys2Proof.Machine.execITake c px s
  | .iPost c px => Sys2Proof.Machine.execIPost c px s
  | .iEmit c px win => Sys2Proof.Machine.execIEmit c px win s
  | .iOpen c px => Sys2Proof.Machine.execIOpen c px s
  | .iMatch c px => Sys2Proof.Machine.execIMatch c px s
  | .iClose c px => Sys2Proof.Machine.execIClose c px s
  | .iSubmit c px => Sys2Proof.Machine.execISubmit c px s
  | .iEwait c px => Sys2Proof.Machine.execIEwait c px s
  | .iYield c px => Sys2Proof.Machine.execIYield c px s
  | .pwrFailNRise => Sys2Proof.Machine.execPwrFailNRise s
  | .perstDeassert p x8 => Sys2Proof.Machine.execPerstDeassert p x8 s
  | .pcieConfigWrite p w => Sys2Proof.Machine.execPcieConfigWrite p w s
  | .msixTableWrite p vec w => Sys2Proof.Machine.execMsixTableWrite p vec w s
  | .stagingFlush area => Sys2Proof.Machine.execStagingFlush area s
  | .journalFlushEnd => Sys2Proof.Machine.execJournalFlushEnd s
  | .catchUpSent => Sys2Proof.Machine.execCatchUpSent s
  | .powerTransitionEnd => Sys2Proof.Machine.execPowerTransitionEnd s
  | .firmwareSwitchEnd => Sys2Proof.Machine.execFirmwareSwitchEnd s
  | .coreClockChangeEnd => Sys2Proof.Machine.execCoreClockChangeEnd s
  | .ewaitTimeout core => Sys2Proof.Machine.execEwaitTimeout core s
  | .waitTimeout core => Sys2Proof.Machine.execWaitTimeout core s
  | .floatComplete core => Sys2Proof.Machine.execFloatComplete core s
  | .loadComplete core => Sys2Proof.Machine.execLoadComplete core s
  | .decimalComplete core mismatches => Sys2Proof.Machine.execDecimalComplete core mismatches s
  | .timeRefClkReturn => Sys2Proof.Machine.execTimeRefClkReturn s
  | .gddr6TemperatureDrift ch temp => Sys2Proof.Machine.execGddr6TemperatureDrift ch temp s

end Sys2Proof.Machine
end

