-- ==== Sys2Proof/Safety.lean ====
section
/-!
DEFINITION. The words in which the statements speak: when an instruction issues and what its completion leaves (R284, R320,
R334, R404), what a step leaves alone, and the invariants.
-/

namespace Sys2Proof.Machine

/-! ### An instruction that issues (R320, R404) -/

/-- Core `c` of `s` issues an instruction with the prefixes `px` that decodes as `d`: the core runs, the work the
instruction depends on completes without an exception and leaves `u`, no floating-point trap and no event comes before it
(R351, R404), and every check of R320 and R292 passes. -/
structure Issues (s u : State) (c : Nat) (px : List Pfx) (d : Desc) : Prop where
  core : c < 96
  runs : s.coreRuns c = true
  before : s.beforeIssue c d = (u, true)
  trap : (d.delivers && (u.core c).trap.isSome) = false
  event : ((u.core c).eventDue && !(u.core c).staged) = false
  decodes : (u.decodeCheck c px d).1 = none

/-- PC of the instruction that core `c` issues. -/
def State.pcOf (u : State) (c : Nat) : Nat := (u.core c).pc.toNat

/-- The address of the first byte after the instruction: next in R332. -/
def State.nextOf (u : State) (c : Nat) (px : List Pfx) (d : Desc) : Nat := u.pcOf c + pxLen px + d.len

/-- The instruction's bytes have been read: ACCESSED of their frames is set (R297). -/
def State.fetched (u : State) (c : Nat) (px : List Pfx) (d : Desc) : State := u.touchRead (u.pcOf c) (pxLen px + d.len)

/-- The registers of a core whose instruction has completed without a taken branch: PC is next, or LS of a loop level whose
end check fires (R334). -/
def Core.ended (k : Core) (start nxt : Nat) : Core :=
  Core.endCheck 5 start nxt { k with retired := k.retired + 1, ewaitFrom := none, uwait := none, wait := .nothing }

/-- `t` once the instruction that `u` issued has completed in it. -/
def State.ended (t u : State) (c : Nat) (px : List Pfx) (d : Desc) : State :=
  t.setCore c ((t.core c).ended (u.pcOf c) (u.nextOf c px d))

/-- An instruction whose whole effect is that its core's registers become `k`. -/
def State.after (u : State) (c : Nat) (px : List Pfx) (d : Desc) (k : Core) : State :=
  (u.fetched c px d).setCore c (k.ended (u.pcOf c) (u.nextOf c px d))

/-- A taken branch to `target`, the core's other registers being those of `k` (R332). -/
def State.jumped (u : State) (c : Nat) (px : List Pfx) (d : Desc) (k : Core) (target : W) : State :=
  (u.fetched c px d).setCore c { k with pc := target.setWidth 48, retired := k.retired + 1, uwait := none }

/-- The instruction raises a precise exception: entry from the state in which it was fetched, with the PC of the
instruction (R393). -/
def State.raised (u : State) (c : Nat) (px : List Pfx) (d : Desc) (vec cause : Nat) (g2 : W := 0) : State :=
  (u.fetched c px d).takeEntry c vec cause g2 (u.pcOf c) (u.pcOf c)

/-! ### Results and flags of R326, from exact integers -/

/-- The exact integer `x` lies outside the signed numbers of `w` bits. -/
def outOfRange (w : Nat) (x : Int) : Bool := decide (x < -(2 ^ (w - 1) : Int)) || decide ((2 ^ (w - 1) : Int) ≤ x)

/-- ARITH, addition: d and every flag. -/
def Core.summed (k : Core) (w d a b cin : Nat) : Core :=
  let x := a % 2 ^ w
  let y := b % 2 ^ w
  let r := (x + y + cin) % 2 ^ w
  { k.wg d (BitVec.ofNat 64 r) with
    fl := flOf (decide (2 ^ w ≤ x + y + cin)) (decide (r = 0)) (decide (2 ^ (w - 1) ≤ r))
      (outOfRange w (sint w a + sint w b + cin)) (decide (16 ≤ x % 16 + y % 16 + cin)) }

/-- The W-bit difference of R326. -/
def diffOf (w a b cin : Nat) : Nat := (((a % 2 ^ w : Nat) : Int) - ((b % 2 ^ w : Nat) : Int) - cin).emod ((2 ^ w : Nat) : Int) |>.toNat

/-- ARITH, subtraction and compare: every flag. -/
def Core.compared (k : Core) (w a b cin : Nat) : Core :=
  let x := a % 2 ^ w
  let y := b % 2 ^ w
  let r := diffOf w a b cin
  { k with
    fl := flOf (decide (x < y + cin)) (decide (r = 0)) (decide (2 ^ (w - 1) ≤ r))
      (outOfRange w (sint w a - sint w b - cin)) (decide (x % 16 < y % 16 + cin)) }

/-- ARITH, subtraction: d and every flag. -/
def Core.subtracted (k : Core) (w d a b cin : Nat) : Core :=
  (k.compared w a b cin).wg d (BitVec.ofNat 64 (diffOf w a b cin))

/-- LOGIC of the W-bit result `r`: C and V 0, H kept. -/
def Core.tested (k : Core) (w r : Nat) : Core :=
  { k with fl := flOf false (decide (r = 0)) (decide (2 ^ (w - 1) ≤ r)) false k.fH }

/-- d and LOGIC. -/
def Core.logical (k : Core) (w d r : Nat) : Core := (k.tested w r).wg d (BitVec.ofNat 64 r)

/-- A shift or rotate: d, Z, N and V as R329 gives them, C as the pseudocode does. -/
def Core.shifted (k : Core) (w d r : Nat) (c : Bool) : Core :=
  { k.wg d (BitVec.ofNat 64 r) with fl := flOf c (decide (r = 0)) (decide (2 ^ (w - 1) ≤ r)) false k.fH }

/-! ### Loads (R336, R353) -/

/-- A core whose load of the number `v` has written its data register: the pair G[d], G[d + 1] for LD.Q, F[d] for FLD. -/
def Core.loaded (k : Core) (op : LoadOp) (d v : Nat) : Core :=
  match op with
  | .sb => k.wg d ((BitVec.ofNat 8 v).signExtend 64)
  | .sh => k.wg d ((BitVec.ofNat 16 v).signExtend 64)
  | .sw => k.wg d ((BitVec.ofNat 32 v).signExtend 64)
  | .q => (k.wg d (BitVec.ofNat 64 (v % 2 ^ 64))).wg (d + 1) (BitVec.ofNat 64 (v / 2 ^ 64))
  | .fld => k.wf d (BitVec.ofNat 64 v)
  | _ => k.wg d (BitVec.ofNat 64 v)

/-! ### Floating point (R348, R349) -/

/-- A core in which a floating-point instruction at `at_` with the result `r` has completed: `isSub` says that an operand
is subnormal. A trap that is pending already stands. -/
def Core.settled (k : Core) (at_ : BitVec 48) (dest : FDest) (isSub : Bool) (r : FRes) : Core :=
  let traps (k : Core) (cause : Nat) : Core := if k.trap = none then { k with trap := some (cause, at_) } else k
  let subm := k.fcsr.getLsbD 18
  let k' : Core := { k with fcsr := k.fcsr ||| (BitVec.ofNat 5 r.flags).setWidth 32 }
  let on (i : Nat) : Bool := k.fcsr.getLsbD (8 + i) && r.flags.testBit i
  if subm && isSub then traps k 6
  else if subm && r.tiny then traps k 7
  else if on 0 then traps k' 1
  else if on 1 then traps k' 2
  else if on 2 then traps k' 3
  else if on 3 then traps k' 4
  else if on 4 then traps k' 5
  else match dest with
    | .f n => k'.wf n (BitVec.ofNat 64 r.bits)
    | .g n => k'.wg n (BitVec.ofNat 64 r.bits)
    | .flags => { k' with fl := (k.fl &&& 0x10) ||| BitVec.ofNat 64 r.bits }

/-! ### Decimal (R358, R359, R363, R364) -/

/-- A decimal register is valid: digit nibbles 0 to 9, sign nibble 0xA to 0xF (R358). -/
def validDr (v : BitVec 128) : Prop := (∀ i, i < 31 → v.toNat / 16 ^ (i + 1) % 16 ≤ 9) ∧ 10 ≤ v.toNat % 16

/-- `v` holds the magnitude `mag` with the sign the device writes: 0xD for a negative value, 0xC for zero and above (R359). -/
def holdsDr (v : BitVec 128) (minus : Bool) (mag : Nat) : Prop :=
  v.toNat % 16 = (if minus = true ∧ mag ≠ 0 then 13 else 12) ∧ ∀ i, i < 31 → v.toNat / 16 ^ (i + 1) % 16 = mag / 10 ^ i % 10

/-- What a decimal result of sign `minus` and magnitude `mag` makes of core `k`, limited to `len` digits in DR[d] with the
flags of R363 and C as given. -/
structure DecResult (k k' : Core) (d len : Nat) (minus : Bool) (mag : Nat) (c : Bool) : Prop where
  register : ∃ v, holdsDr v minus (mag % 10 ^ len) ∧
    k' = { k.wd d v with
      fl := flOf c (decide (mag % 10 ^ len = 0)) (decide (minus = true ∧ mag % 10 ^ len ≠ 0)) (decide (10 ^ len ≤ mag)) k.fH }

/-! ### Entry (R392 to R398) -/

/-- Core `c` of `s` has nothing outstanding and nothing that an entry would meet besides its own vector: no work in
progress, nothing it waits for, no queued record, no pending source on its bench, no poisoned line. -/
structure Quiet (s : State) (c : Nat) : Prop where
  escalation : (s.core c).esc = false
  trap : (s.core c).trap = none
  floats : (s.core c).floats = []
  muldiv : (s.core c).muldiv = none
  waits : s.coreWaits c = false
  ewait : (s.core c).ewaitFrom = none
  queue : (s.core c).queue = []
  sources : (s.evc (c / 24)).order = []
  poisoned : s.poisoned = []

/-- Bytes `[lo, lo + n)` of a context's TSB as a number (R290). -/
def tsbField (t : Bytes) (lo n : Nat) : Nat := leVal ((t.drop lo).take n)

/-- An entry of core `c` into `vec` passes the checks of R392 and R395 to R397 with the template `t` at event level `hl`:
the vector entry is VALID with zeros in its reserved bits, the template and the interrupted context's TSB lie where they may
(R407), the template's LEVEL is S or M, and neither it nor the handler's own TSB is the one saved into. -/
structure EntryReady (s : State) (c vec hl : Nat) (t : Bytes) : Prop where
  table : regionOf ((s.core c).vtb.toNat + 8 * vec) ≠ .nothing
  valid : leVal (s.rawRead c ((s.core c).vtb.toNat + 8 * vec) 8) % 1024 = 1
  high : leVal (s.rawRead c ((s.core c).vtb.toNat + 8 * vec) 8) < 2 ^ 48
  place : tsbPlace (leVal (s.rawRead c ((s.core c).vtb.toNat + 8 * vec) 8) - 1) = true
  template : t = s.rawRead c (leVal (s.rawRead c ((s.core c).vtb.toNat + 8 * vec) 8) - 1) 0x3A0
  level : tsbField t 0x370 8 % 4 = 1 ∨ tsbField t 0x370 8 % 4 = 2
  reserved : BitVec.ofNat 64 (tsbField t 0x370 8) &&& 0xFFFFFFFFF0F00C0C = 0
  pc : tsbField t 0x360 8 < 2 ^ 48
  notFirmware : regionOf (tsbField t 0x360 8) ≠ .fw
  elevel : hl = max (tsbField t 0x370 8 / 2 ^ 24 % 16) ((s.core c).mode.toNat / 2 ^ 24 % 16 + 1)
  most : hl ≤ 15
  aligned : (s.core c).tsbp.toNat % 1024 = 0
  context : tsbPlace (s.core c).tsbp.toNat = true
  apart : leVal (s.rawRead c ((s.core c).vtb.toNat + 8 * vec) 8) - 1 ≠ (s.core c).tsbp.toNat
  other : (s.core c).tsbp.toNat ≠ 0x002000004000 + 0x400 * hl

end Sys2Proof.Machine
end

