-- ==== Sys2Proof/WellFormed.lean ====
section
/-!
DEFINITION. Which commands are well formed: every unit a command names is one the part has, the words of a doorbell group
that a read returns are 64, and a frame's payload is at most 4,096 bytes.
-/

namespace Sys2Proof

/-- A unit that a command names. -/
inductive UnitRef where
  | port (n : Nat)
  | core (n : Nat)
  | bench (n : Nat)
  | benchCore (b c : Nat)
  | channel (n : Nat)
  | ring (n : Nat)
  | group (n : Nat)
  | sublink (n : Nat)
  | area (n : Nat)
  | gddr (n : Nat)
  | sramDie (n : Nat)
  | mramDie (n : Nat)
  | engine (e : EngineRef)
  | rail (n : Nat)
  | healthTest (n : Nat)
  | turnRegister (n : Nat)
  | customerOpcode (n : Nat)
  deriving DecidableEq, Repr

/-- The part has the unit: two ports (R42), 96 cores in four benches of 24 (R23), 4,096 channels (R77), 512 rings (R74), 64
doorbell groups (R85), two sublinks (R189) and areas (R155), 24 GDDR6 channels (R467), SRAM on five logic dies (R483), 18 MRAM dies (R23), 32
signature and 4 cipher engines a bench (R276), 15 rails (R527), two health tests (R268), 24 turn registers a bench (R424),
and opcodes of 12 bits on the customer page (R321). -/
def UnitRef.ok : UnitRef → Bool
  | .port n => decide (n < 2)
  | .core n => decide (n < 96)
  | .bench n => decide (n < 4)
  | .benchCore b c => decide (b < 4) && c / 24 == b
  | .channel n => decide (n < 4096)
  | .ring n => decide (n < 512)
  | .group n => decide (n < 64)
  | .sublink n => decide (n < 2)
  | .area n => decide (n < 2)
  | .gddr n => decide (n < 24)
  | .sramDie n => decide (n < 5)
  | .mramDie n => decide (n < 18)
  | .engine (.signature n) => decide (n < 32)
  | .engine (.cipher n) => decide (n < 4)
  | .rail n => decide (n < 15)
  | .healthTest n => decide (n < 2)
  | .turnRegister n => decide (n < 24)
  | .customerOpcode n => decide (n < 4096)

/-- The units a command names. -/
def Instr.units : Instr → List UnitRef
  | .setupRegisterWrite p _ _ _ => [.port p]
  | .setupCommit p _ _ _ => [.port p]
  | .setupStatusClear p _ _ => [.port p]
  | .kickDoorbellGroup p _ _ _ => [.port p]
  | .kickAdminRing p _ _ _ _ => [.port p]
  | .identify p _ => [.port p]
  | .getFeature p => [.port p]
  | .setFeature p => [.port p]
  | .createCq p => [.port p]
  | .deleteCq p => [.port p]
  | .openChannel p => [.port p]
  | .closeChannel p _ => [.port p]
  | .bindPort p _ => [.port p]
  | .loadProgram p _ _ _ => [.port p]
  | .activateProgram p => [.port p]
  | .loadMicrocode p _ => [.port p]
  | .registerKey p _ => [.port p]
  | .importKey p _ => [.port p]
  | .issueToken p _ _ => [.port p]
  | .revokeSlot p _ _ => [.port p]
  | .setTime p => [.port p]
  | .setCalendar p _ => [.port p]
  | .setPower p => [.port p]
  | .quiesce p => [.port p]
  | .pairTwin p => [.port p]
  | .adoptFailed p _ => [.port p]
  | .adoptPlanned p => [.port p]
  | .journalRead p _ => [.port p]
  | .channelState p _ => [.port p]
  | .telemetryRead p _ => [.port p]
  | .errorLogRead p _ => [.port p]
  | .setBackground p _ => [.port p]
  | .fwUpdateStage p _ => [.port p]
  | .fwUpdateActivate p => [.port p]
  | .adminCompletionPost p _ => [.port p]
  | .adminHeadRead p _ => [.port p]
  | .doorbellPoll g _ => [.group g]
  | .groupArm g _ => [.group g]
  | .msgIn ch _ => [.channel ch]
  | .accept ch _ _ => [.channel ch]
  | .descriptorReadFault ch => [.channel ch]
  | .bufOut ch _ => [.channel ch]
  | .ctrlMark ch _ => [.channel ch]
  | .ctrlReturnBuffers ch _ => [.channel ch]
  | .ctrlStop ch _ => [.channel ch]
  | .ctrlStart ch _ => [.channel ch]
  | .granuleGrant => []
  | .completionPost ring => [.ring ring]
  | .headWordRead ring _ => [.ring ring]
  | .irqHoldoffExpiry ring => [.ring ring]
  | .portLinkDown p => [.port p]
  | .portLinkUp p => [.port p]
  | .dStateChange p _ => [.port p]
  | .recordFrame sl _ => [.sublink sl]
  | .tailFrame sl _ => [.sublink sl]
  | .stagedFrame sl _ => [.sublink sl]
  | .ackFrame sl _ => [.sublink sl]
  | .nakFrame sl _ => [.sublink sl]
  | .idleFrame sl _ => [.sublink sl]
  | .heartbeatFrame sl _ => [.sublink sl]
  | .timeFrame sl _ => [.sublink sl]
  | .pairPropose sl _ => [.sublink sl]
  | .pairAgree sl _ => [.sublink sl]
  | .pairCatchupDone sl _ => [.sublink sl]
  | .pairUnpair sl _ => [.sublink sl]
  | .pairRefuse sl _ => [.sublink sl]
  | .fenceRequestRelease sl _ => [.sublink sl]
  | .fenceReleased sl _ => [.sublink sl]
  | .fenceAdopted sl _ => [.sublink sl]
  | .releaseTimeout => []
  | .nakGapTimeout => []
  | .resendTimeout => []
  | .ackTimer => []
  | .stagedTimer => []
  | .heartbeatTimer => []
  | .timeFrameTimer => []
  | .sublinkTrained sl => [.sublink sl]
  | .sublinkSilenceTimeout sl => [.sublink sl]
  | .sublinkErrorLimit sl _ => [.sublink sl]
  | .codewordAlignmentLoss sl => [.sublink sl]
  | .sublinkRetrainTimer sl => [.sublink sl]
  | .fenceTimeout => []
  | .proposeTimeout => []
  | .confinementDone => []
  | .sealAppend area => [.area area]
  | .checkpoint area => [.area area]
  | .ppsEdge _ => []
  | .ppsMissing => []
  | .setTimeLapse => []
  | .offsetAbsorbed => []
  | .timeQualityEval _ => []
  | .ledgerSecond => []
  | .ppsOutEnd => []
  | .cutoffInstant _ => []
  | .keyRolloverInstant _ => []
  | .windowOpen _ => []
  | .windowClose _ => []
  | .deadlineMiss => []
  | .dialogueFire => []
  | .remnantDiscard => []
  | .dialogueContextFree => []
  | .generationRetire _ _ => []
  | .turnTimer core => [.core core]
  | .eventEntry core => [.core core]
  | .evcRaiseWrite bench _ => [.bench bench]
  | .evcPendingWithdraw bench _ _ => [.bench bench]
  | .evcTurnRestart bench i _ => [.bench bench, .turnRegister i]
  | .evcRegisterWrite bench _ _ _ => [.bench bench]
  | .groupHoldoffEnd bench _ => [.bench bench]
  | .muldivComplete core => [.core core]
  | .coreFault core _ => [.core core]
  | .engineFault bench unit => [.bench bench, .engine unit]
  | .macGen bench => [.bench bench]
  | .macVerify bench => [.bench bench]
  | .pinTranslate bench => [.bench bench]
  | .hashCmd bench => [.bench bench]
  | .keyExport bench => [.bench bench]
  | .randomCmd bench => [.bench bench]
  | .attenuate bench => [.bench bench]
  | .signCmd bench => [.bench bench]
  | .verifyCmd bench => [.bench bench]
  | .tamper => []
  | .entropyHealthFail test => [.healthTest test]
  | .reseedTimeout => []
  | .pwrFail => []
  | .railUndervoltage rail => [.rail rail]
  | .powerOn => []
  | .sysReset => []
  | .startUp _ => []
  | .perst p => [.port p]
  | .hotReset p => [.port p]
  | .flr p => [.port p]
  | .sysRefclkLoss => []
  | .timeRefClkLoss => []
  | .thermalSensorRead _ _ => []
  | .parkTimeout core => [.core core]
  | .p2BenchWake bench core => [.benchCore bench core]
  | .gddr6CrcError ch _ _ _ _ => [.gddr ch]
  | .mramDieFail die => [.mramDie die]
  | .refresh ch _ => [.gddr ch]
  | .wckRetrain ch _ _ => [.gddr ch]
  | .dataRetrain ch _ _ => [.gddr ch]
  | .gddr6Scrub ch _ _ _ => [.gddr ch]
  | .sramScrub die _ _ _ => [.sramDie die]
  | .mramScrub _ _ _ => []
  | .wedging area => [.area area]
  | .telemetry => []
  | .entropy bench _ _ => [.bench bench]
  | .channelMove ch _ => [.gddr ch]
  | .mgmtIdentity => []
  | .mgmtSetupStatus => []
  | .mgmtThermal => []
  | .mgmtAlertCause => []
  | .mgmtNewestEntry => []
  | .mgmtSelectedEntry => []
  | .mgmtAlertClear _ => []
  | .mgmtSeqSelect _ => []
  | .jtagBypass => []
  | .jtagIdcode => []
  | .jtagSamplePreload => []
  | .jtagExtest => []
  | .jtagClamp => []
  | .jtagHighz => []
  | .iIll c _ => [.core c]
  | .iNop c _ => [.core c]
  | .iBr8 c _ _ => [.core c]
  | .iBr32 c _ _ => [.core c]
  | .iBcc8 c _ _ _ => [.core c]
  | .iBcc32 c _ _ _ => [.core c]
  | .iCall c _ _ _ => [.core c]
  | .iJmp c _ _ => [.core c]
  | .iCallr c _ _ _ => [.core c]
  | .iLoop c _ _ _ => [.core c]
  | .iLoopi c _ _ _ => [.core c]
  | .iLeave c _ => [.core c]
  | .iLdB c _ _ _ => [.core c]
  | .iLdH c _ _ _ => [.core c]
  | .iLdW c _ _ _ => [.core c]
  | .iLdD c _ _ _ => [.core c]
  | .iLdsB c _ _ _ => [.core c]
  | .iLdsH c _ _ _ => [.core c]
  | .iLdsW c _ _ _ => [.core c]
  | .iLea c _ _ => [.core c]
  | .iStB c _ _ => [.core c]
  | .iStH c _ _ => [.core c]
  | .iStW c _ _ => [.core c]
  | .iStD c _ _ => [.core c]
  | .iLdQ c _ _ _ => [.core c]
  | .iStQ c _ _ => [.core c]
  | .iSwap c _ _ => [.core c]
  | .iCas c _ _ _ => [.core c]
  | .iAdd c _ _ _ _ => [.core c]
  | .iAdc c _ _ _ _ => [.core c]
  | .iSub c _ _ _ _ => [.core c]
  | .iSbb c _ _ _ _ => [.core c]
  | .iAnd c _ _ _ _ => [.core c]
  | .iOr c _ _ _ _ => [.core c]
  | .iXor c _ _ _ _ => [.core c]
  | .iAndn c _ _ _ _ => [.core c]
  | .iMov c _ _ _ => [.core c]
  | .iNeg c _ _ _ => [.core c]
  | .iNot c _ _ _ => [.core c]
  | .iCmp c _ _ _ => [.core c]
  | .iTst c _ _ _ => [.core c]
  | .iMin c _ _ _ _ => [.core c]
  | .iMax c _ _ _ _ => [.core c]
  | .iAddi c _ _ _ _ => [.core c]
  | .iSubi c _ _ _ _ => [.core c]
  | .iAndi c _ _ _ _ => [.core c]
  | .iOri c _ _ _ _ => [.core c]
  | .iXori c _ _ _ _ => [.core c]
  | .iCmpi c _ _ _ => [.core c]
  | .iTsti c _ _ _ => [.core c]
  | .iMovi c _ _ _ => [.core c]
  | .iMovi64 c _ _ _ => [.core c]
  | .iCmpi8 c _ _ _ => [.core c]
  | .iShl c _ _ _ _ => [.core c]
  | .iShr c _ _ _ _ => [.core c]
  | .iSar c _ _ _ _ => [.core c]
  | .iRol c _ _ _ _ => [.core c]
  | .iRor c _ _ _ _ => [.core c]
  | .iShli c _ _ _ _ => [.core c]
  | .iShri c _ _ _ _ => [.core c]
  | .iSari c _ _ _ _ => [.core c]
  | .iRoli c _ _ _ _ => [.core c]
  | .iRori c _ _ _ _ => [.core c]
  | .iExt c _ _ _ _ _ => [.core c]
  | .iIns c _ _ _ _ _ => [.core c]
  | .iBswap c _ _ _ => [.core c]
  | .iClz c _ _ _ => [.core c]
  | .iCtz c _ _ _ => [.core c]
  | .iPopc c _ _ _ => [.core c]
  | .iMul c _ _ _ => [.core c]
  | .iMuls c _ _ _ => [.core c]
  | .iMflo c _ _ => [.core c]
  | .iMfhi c _ _ => [.core c]
  | .iDiv c _ _ _ => [.core c]
  | .iDivs c _ _ _ => [.core c]
  | .iMtlo c _ _ => [.core c]
  | .iMthi c _ _ => [.core c]
  | .iBset c _ _ => [.core c]
  | .iBclr c _ _ => [.core c]
  | .iBinv c _ _ => [.core c]
  | .iBtst c _ _ => [.core c]
  | .iBbs c _ _ _ => [.core c]
  | .iBbc c _ _ _ => [.core c]
  | .iBtoc c _ _ => [.core c]
  | .iBfromc c _ _ => [.core c]
  | .iBffs c _ _ _ _ => [.core c]
  | .iFadd c _ _ _ _ _ => [.core c]
  | .iFsub c _ _ _ _ _ => [.core c]
  | .iFmul c _ _ _ _ _ => [.core c]
  | .iFdiv c _ _ _ _ _ => [.core c]
  | .iFsqrt c _ _ _ _ => [.core c]
  | .iFmadd c _ _ _ _ _ _ => [.core c]
  | .iFcmp c _ _ _ _ => [.core c]
  | .iFmin c _ _ _ _ _ => [.core c]
  | .iFmax c _ _ _ _ _ => [.core c]
  | .iFcvt c _ _ _ _ _ => [.core c]
  | .iFmov c _ _ _ _ => [.core c]
  | .iFld c _ _ _ => [.core c]
  | .iFst c _ _ => [.core c]
  | .iFsgn c _ _ _ _ _ => [.core c]
  | .iDadd c _ _ _ _ _ => [.core c]
  | .iDsub c _ _ _ _ _ => [.core c]
  | .iDmul c _ _ _ _ _ => [.core c]
  | .iDdiv c _ _ _ _ _ => [.core c]
  | .iDcmp c _ _ _ _ => [.core c]
  | .iDnrm c _ _ _ _ => [.core c]
  | .iDscl c _ _ _ _ _ _ => [.core c]
  | .iDld c _ _ _ => [.core c]
  | .iDst c _ _ => [.core c]
  | .iZtod c _ _ _ => [.core c]
  | .iDtoz c _ _ => [.core c]
  | .iGtod c _ _ _ _ => [.core c]
  | .iDtog c _ _ _ _ => [.core c]
  | .iDadj c _ _ _ => [.core c]
  | .iLuhn c _ _ _ _ => [.core c]
  | .iDmov c _ _ _ => [.core c]
  | .iSmov c _ _ _ _ _ => [.core c]
  | .iScmp c _ _ _ _ _ => [.core c]
  | .iSxlt c _ _ _ _ _ => [.core c]
  | .iSscn c _ _ _ _ _ _ => [.core c]
  | .iSfnd c _ _ _ _ _ => [.core c]
  | .iSedt c _ _ _ _ _ => [.core c]
  | .iCustomer c _ op _ _ => [.core c, .customerOpcode op]
  | .iIsync c _ => [.core c]
  | .iFence c _ _ => [.core c]
  | .iFbar c _ => [.core c]
  | .iRett c _ => [.core c]
  | .iTrap c _ _ => [.core c]
  | .iKset c _ _ _ => [.core c]
  | .iKget c _ _ _ => [.core c]
  | .iMfsr c _ _ _ => [.core c]
  | .iMtsr c _ _ _ => [.core c]
  | .iTake c _ => [.core c]
  | .iPost c _ => [.core c]
  | .iEmit c _ _ => [.core c]
  | .iOpen c _ => [.core c]
  | .iMatch c _ => [.core c]
  | .iClose c _ => [.core c]
  | .iSubmit c _ => [.core c]
  | .iEwait c _ => [.core c]
  | .iYield c _ => [.core c]
  | .pwrFailNRise => []
  | .perstDeassert p _ => [.port p]
  | .pcieConfigWrite p _ => [.port p]
  | .msixTableWrite p _ _ => [.port p]
  | .stagingFlush area => [.area area]
  | .journalFlushEnd => []
  | .catchUpSent => []
  | .powerTransitionEnd => []
  | .firmwareSwitchEnd => []
  | .coreClockChangeEnd => []
  | .ewaitTimeout core => [.core core]
  | .waitTimeout core => [.core core]
  | .floatComplete core => [.core core]
  | .loadComplete core => [.core core]
  | .decimalComplete core _ => [.core core]
  | .timeRefClkReturn => []
  | .gddr6TemperatureDrift ch _ => [.gddr ch]

/-- A poll returns 64 words through a port, or none (R85). -/
def GroupRead.ok (r : GroupRead) : Bool := r.via0.all (fun w => w.length == 64) && r.via1.all (fun w => w.length == 64)

/-- A payload has at most 4,096 bytes (R184). -/
def Frame.ok (f : Frame) : Bool := decide (f.payload.length ≤ 4096)

/-- What a command carries has the size the manual gives it. -/
def Instr.carries : Instr → Bool
  | .setupRegisterWrite _ _ _ _ => true
  | .setupCommit _ _ _ _ => true
  | .setupStatusClear _ _ _ => true
  | .kickDoorbellGroup _ _ _ rd => rd.ok
  | .kickAdminRing _ _ _ _ _ => true
  | .identify _ _ => true
  | .getFeature _ => true
  | .setFeature _ => true
  | .createCq _ => true
  | .deleteCq _ => true
  | .openChannel _ => true
  | .closeChannel _ _ => true
  | .bindPort _ _ => true
  | .loadProgram _ _ _ _ => true
  | .activateProgram _ => true
  | .loadMicrocode _ _ => true
  | .registerKey _ _ => true
  | .importKey _ _ => true
  | .issueToken _ _ _ => true
  | .revokeSlot _ _ _ => true
  | .setTime _ => true
  | .setCalendar _ _ => true
  | .setPower _ => true
  | .quiesce _ => true
  | .pairTwin _ => true
  | .adoptFailed _ _ => true
  | .adoptPlanned _ => true
  | .journalRead _ _ => true
  | .channelState _ _ => true
  | .telemetryRead _ _ => true
  | .errorLogRead _ _ => true
  | .setBackground _ _ => true
  | .fwUpdateStage _ _ => true
  | .fwUpdateActivate _ => true
  | .adminCompletionPost _ _ => true
  | .adminHeadRead _ _ => true
  | .doorbellPoll _ rd => rd.ok
  | .groupArm _ rd => rd.ok
  | .msgIn _ _ => true
  | .accept _ _ _ => true
  | .descriptorReadFault _ => true
  | .bufOut _ _ => true
  | .ctrlMark _ _ => true
  | .ctrlReturnBuffers _ _ => true
  | .ctrlStop _ _ => true
  | .ctrlStart _ _ => true
  | .granuleGrant => true
  | .completionPost _ => true
  | .headWordRead _ _ => true
  | .irqHoldoffExpiry _ => true
  | .portLinkDown _ => true
  | .portLinkUp _ => true
  | .dStateChange _ _ => true
  | .recordFrame _ f => f.ok
  | .tailFrame _ f => f.ok
  | .stagedFrame _ f => f.ok
  | .ackFrame _ f => f.ok
  | .nakFrame _ f => f.ok
  | .idleFrame _ f => f.ok
  | .heartbeatFrame _ f => f.ok
  | .timeFrame _ f => f.ok
  | .pairPropose _ f => f.ok
  | .pairAgree _ f => f.ok
  | .pairCatchupDone _ f => f.ok
  | .pairUnpair _ f => f.ok
  | .pairRefuse _ f => f.ok
  | .fenceRequestRelease _ f => f.ok
  | .fenceReleased _ f => f.ok
  | .fenceAdopted _ f => f.ok
  | .releaseTimeout => true
  | .nakGapTimeout => true
  | .resendTimeout => true
  | .ackTimer => true
  | .stagedTimer => true
  | .heartbeatTimer => true
  | .timeFrameTimer => true
  | .sublinkTrained _ => true
  | .sublinkSilenceTimeout _ => true
  | .sublinkErrorLimit _ _ => true
  | .codewordAlignmentLoss _ => true
  | .sublinkRetrainTimer _ => true
  | .fenceTimeout => true
  | .proposeTimeout => true
  | .confinementDone => true
  | .sealAppend _ => true
  | .checkpoint _ => true
  | .ppsEdge _ => true
  | .ppsMissing => true
  | .setTimeLapse => true
  | .offsetAbsorbed => true
  | .timeQualityEval _ => true
  | .ledgerSecond => true
  | .ppsOutEnd => true
  | .cutoffInstant _ => true
  | .keyRolloverInstant _ => true
  | .windowOpen _ => true
  | .windowClose _ => true
  | .deadlineMiss => true
  | .dialogueFire => true
  | .remnantDiscard => true
  | .dialogueContextFree => true
  | .generationRetire _ _ => true
  | .turnTimer _ => true
  | .eventEntry _ => true
  | .evcRaiseWrite _ _ => true
  | .evcPendingWithdraw _ _ _ => true
  | .evcTurnRestart _ _ _ => true
  | .evcRegisterWrite _ _ _ _ => true
  | .groupHoldoffEnd _ _ => true
  | .muldivComplete _ => true
  | .coreFault _ _ => true
  | .engineFault _ _ => true
  | .macGen _ => true
  | .macVerify _ => true
  | .pinTranslate _ => true
  | .hashCmd _ => true
  | .keyExport _ => true
  | .randomCmd _ => true
  | .attenuate _ => true
  | .signCmd _ => true
  | .verifyCmd _ => true
  | .tamper => true
  | .entropyHealthFail _ => true
  | .reseedTimeout => true
  | .pwrFail => true
  | .railUndervoltage _ => true
  | .powerOn => true
  | .sysReset => true
  | .startUp _ => true
  | .perst _ => true
  | .hotReset _ => true
  | .flr _ => true
  | .sysRefclkLoss => true
  | .timeRefClkLoss => true
  | .thermalSensorRead _ _ => true
  | .parkTimeout _ => true
  | .p2BenchWake _ _ => true
  | .gddr6CrcError _ _ _ _ _ => true
  | .mramDieFail _ => true
  | .refresh _ _ => true
  | .wckRetrain _ _ _ => true
  | .dataRetrain _ _ _ => true
  | .gddr6Scrub _ _ _ _ => true
  | .sramScrub _ _ _ _ => true
  | .mramScrub _ _ _ => true
  | .wedging _ => true
  | .telemetry => true
  | .entropy _ _ _ => true
  | .channelMove _ _ => true
  | .mgmtIdentity => true
  | .mgmtSetupStatus => true
  | .mgmtThermal => true
  | .mgmtAlertCause => true
  | .mgmtNewestEntry => true
  | .mgmtSelectedEntry => true
  | .mgmtAlertClear _ => true
  | .mgmtSeqSelect _ => true
  | .jtagBypass => true
  | .jtagIdcode => true
  | .jtagSamplePreload => true
  | .jtagExtest => true
  | .jtagClamp => true
  | .jtagHighz => true
  | .iIll _ _ => true
  | .iNop _ _ => true
  | .iBr8 _ _ _ => true
  | .iBr32 _ _ _ => true
  | .iBcc8 _ _ _ _ => true
  | .iBcc32 _ _ _ _ => true
  | .iCall _ _ _ _ => true
  | .iJmp _ _ _ => true
  | .iCallr _ _ _ _ => true
  | .iLoop _ _ _ _ => true
  | .iLoopi _ _ _ _ => true
  | .iLeave _ _ => true
  | .iLdB _ _ _ _ => true
  | .iLdH _ _ _ _ => true
  | .iLdW _ _ _ _ => true
  | .iLdD _ _ _ _ => true
  | .iLdsB _ _ _ _ => true
  | .iLdsH _ _ _ _ => true
  | .iLdsW _ _ _ _ => true
  | .iLea _ _ _ => true
  | .iStB _ _ _ => true
  | .iStH _ _ _ => true
  | .iStW _ _ _ => true
  | .iStD _ _ _ => true
  | .iLdQ _ _ _ _ => true
  | .iStQ _ _ _ => true
  | .iSwap _ _ _ => true
  | .iCas _ _ _ _ => true
  | .iAdd _ _ _ _ _ => true
  | .iAdc _ _ _ _ _ => true
  | .iSub _ _ _ _ _ => true
  | .iSbb _ _ _ _ _ => true
  | .iAnd _ _ _ _ _ => true
  | .iOr _ _ _ _ _ => true
  | .iXor _ _ _ _ _ => true
  | .iAndn _ _ _ _ _ => true
  | .iMov _ _ _ _ => true
  | .iNeg _ _ _ _ => true
  | .iNot _ _ _ _ => true
  | .iCmp _ _ _ _ => true
  | .iTst _ _ _ _ => true
  | .iMin _ _ _ _ _ => true
  | .iMax _ _ _ _ _ => true
  | .iAddi _ _ _ _ _ => true
  | .iSubi _ _ _ _ _ => true
  | .iAndi _ _ _ _ _ => true
  | .iOri _ _ _ _ _ => true
  | .iXori _ _ _ _ _ => true
  | .iCmpi _ _ _ _ => true
  | .iTsti _ _ _ _ => true
  | .iMovi _ _ _ _ => true
  | .iMovi64 _ _ _ _ => true
  | .iCmpi8 _ _ _ _ => true
  | .iShl _ _ _ _ _ => true
  | .iShr _ _ _ _ _ => true
  | .iSar _ _ _ _ _ => true
  | .iRol _ _ _ _ _ => true
  | .iRor _ _ _ _ _ => true
  | .iShli _ _ _ _ _ => true
  | .iShri _ _ _ _ _ => true
  | .iSari _ _ _ _ _ => true
  | .iRoli _ _ _ _ _ => true
  | .iRori _ _ _ _ _ => true
  | .iExt _ _ _ _ _ _ => true
  | .iIns _ _ _ _ _ _ => true
  | .iBswap _ _ _ _ => true
  | .iClz _ _ _ _ => true
  | .iCtz _ _ _ _ => true
  | .iPopc _ _ _ _ => true
  | .iMul _ _ _ _ => true
  | .iMuls _ _ _ _ => true
  | .iMflo _ _ _ => true
  | .iMfhi _ _ _ => true
  | .iDiv _ _ _ _ => true
  | .iDivs _ _ _ _ => true
  | .iMtlo _ _ _ => true
  | .iMthi _ _ _ => true
  | .iBset _ _ _ => true
  | .iBclr _ _ _ => true
  | .iBinv _ _ _ => true
  | .iBtst _ _ _ => true
  | .iBbs _ _ _ _ => true
  | .iBbc _ _ _ _ => true
  | .iBtoc _ _ _ => true
  | .iBfromc _ _ _ => true
  | .iBffs _ _ _ _ _ => true
  | .iFadd _ _ _ _ _ _ => true
  | .iFsub _ _ _ _ _ _ => true
  | .iFmul _ _ _ _ _ _ => true
  | .iFdiv _ _ _ _ _ _ => true
  | .iFsqrt _ _ _ _ _ => true
  | .iFmadd _ _ _ _ _ _ _ => true
  | .iFcmp _ _ _ _ _ => true
  | .iFmin _ _ _ _ _ _ => true
  | .iFmax _ _ _ _ _ _ => true
  | .iFcvt _ _ _ _ _ _ => true
  | .iFmov _ _ _ _ _ => true
  | .iFld _ _ _ _ => true
  | .iFst _ _ _ => true
  | .iFsgn _ _ _ _ _ _ => true
  | .iDadd _ _ _ _ _ _ => true
  | .iDsub _ _ _ _ _ _ => true
  | .iDmul _ _ _ _ _ _ => true
  | .iDdiv _ _ _ _ _ _ => true
  | .iDcmp _ _ _ _ _ => true
  | .iDnrm _ _ _ _ _ => true
  | .iDscl _ _ _ _ _ _ _ => true
  | .iDld _ _ _ _ => true
  | .iDst _ _ _ => true
  | .iZtod _ _ _ _ => true
  | .iDtoz _ _ _ => true
  | .iGtod _ _ _ _ _ => true
  | .iDtog _ _ _ _ _ => true
  | .iDadj _ _ _ _ => true
  | .iLuhn _ _ _ _ _ => true
  | .iDmov _ _ _ _ => true
  | .iSmov _ _ _ _ _ _ => true
  | .iScmp _ _ _ _ _ _ => true
  | .iSxlt _ _ _ _ _ _ => true
  | .iSscn _ _ _ _ _ _ _ => true
  | .iSfnd _ _ _ _ _ _ => true
  | .iSedt _ _ _ _ _ _ => true
  | .iCustomer _ _ _ _ _ => true
  | .iIsync _ _ => true
  | .iFence _ _ _ => true
  | .iFbar _ _ => true
  | .iRett _ _ => true
  | .iTrap _ _ _ => true
  | .iKset _ _ _ _ => true
  | .iKget _ _ _ _ => true
  | .iMfsr _ _ _ _ => true
  | .iMtsr _ _ _ _ => true
  | .iTake _ _ => true
  | .iPost _ _ => true
  | .iEmit _ _ _ => true
  | .iOpen _ _ => true
  | .iMatch _ _ => true
  | .iClose _ _ => true
  | .iSubmit _ _ => true
  | .iEwait _ _ => true
  | .iYield _ _ => true
  | .pwrFailNRise => true
  | .perstDeassert _ _ => true
  | .pcieConfigWrite _ _ => true
  | .msixTableWrite _ _ _ => true
  | .stagingFlush _ => true
  | .journalFlushEnd => true
  | .catchUpSent => true
  | .powerTransitionEnd => true
  | .firmwareSwitchEnd => true
  | .coreClockChangeEnd => true
  | .ewaitTimeout _ => true
  | .waitTimeout _ => true
  | .floatComplete _ => true
  | .loadComplete _ => true
  | .decimalComplete _ _ => true
  | .timeRefClkReturn => true
  | .gddr6TemperatureDrift _ _ => true

/-- A well-formed command. -/
def Instr.wf (i : Instr) : Bool := i.units.all UnitRef.ok && i.carries

end Sys2Proof
end

