-- ==== Sys2Proof/Certificates/Slice0/Obligations.lean ====
section
/-!
DEFINITION. The statements about the model, for the provers.
-/

open Sys2Proof Sys2Proof.Machine

/-- R325, R326 (with the operations of R327): additions, subtractions and compares. -/
def Obligations.IntegerSumsAndDifferences : Prop :=
  ∀ (s u : State) (c : Nat) (px : List Pfx) (d a b : Byte) (imm : BitVec 32),
    let k := u.core c
    let w := if osz px then 32 else 64
    let x := (k.rg a.toNat).toNat
    let y := (k.rg b.toNat).toNat
    let i := (imm.signExtend 64).toNat
    (Issues s u c px (fmtR3 0x20 d a b) →
      exec (.iAdd c px d a b) s = .next (u.after c px (fmtR3 0x20 d a b) (k.summed w d.toNat x y 0))) ∧
    (Issues s u c px (fmtR3 0x21 d a b) →
      exec (.iAdc c px d a b) s = .next (u.after c px (fmtR3 0x21 d a b) (k.summed w d.toNat x y (if k.fC then 1 else 0)))) ∧
    (Issues s u c px (fmtR2I32 0x30 d a) →
      exec (.iAddi c px d a imm) s = .next (u.after c px (fmtR2I32 0x30 d a) (k.summed w d.toNat x i 0))) ∧
    (Issues s u c px (fmtR3 0x22 d a b) →
      exec (.iSub c px d a b) s = .next (u.after c px (fmtR3 0x22 d a b) (k.subtracted w d.toNat x y 0))) ∧
    (Issues s u c px (fmtR3 0x23 d a b) →
      exec (.iSbb c px d a b) s =
        .next (u.after c px (fmtR3 0x23 d a b) (k.subtracted w d.toNat x y (if k.fC then 1 else 0)))) ∧
    (Issues s u c px (fmtR2I32 0x31 d a) →
      exec (.iSubi c px d a imm) s = .next (u.after c px (fmtR2I32 0x31 d a) (k.subtracted w d.toNat x i 0))) ∧
    (Issues s u c px (fmtR2 0x29 d a) →
      exec (.iNeg c px d a) s = .next (u.after c px (fmtR2 0x29 d a) (k.subtracted w d.toNat 0 x 0))) ∧
    (Issues s u c px (fmtR2 0x2B a b) →
      exec (.iCmp c px a b) s = .next (u.after c px (fmtR2 0x2B a b) (k.compared w x y 0))) ∧
    (Issues s u c px { op := 0x35, len := 6, ok := [okG a], fl := true } →
      exec (.iCmpi c px a imm) s =
        .next (u.after c px { op := 0x35, len := 6, ok := [okG a], fl := true } (k.compared w x i 0))) ∧
    (∀ imm8 : Byte, Issues s u c px { op := 0x39, len := 3, ok := [okG a], fl := true } →
      exec (.iCmpi8 c px a imm8) s =
        .next (u.after c px { op := 0x39, len := 3, ok := [okG a], fl := true }
          (k.compared 64 x (imm8.signExtend 64).toNat 0)))

/-- R328 (with the operations of R327 and the LOGIC flags of R326): logical operations and bit fields. -/
def Obligations.LogicAndBitFields : Prop :=
  ∀ (s u : State) (c : Nat) (px : List Pfx) (d a b : Byte) (imm : BitVec 32) (p l : Byte),
    let k := u.core c
    let w := if osz px then 32 else 64
    let x := (k.rg a.toNat).toNat % 2 ^ w
    let y := (k.rg b.toNat).toNat % 2 ^ w
    let i := (imm.signExtend 64).toNat % 2 ^ w
    let field : Desc := { op := 0x4A, len := 5, ok := [okG d, okG a], fl := true }
    let insert : Desc := { op := 0x4B, len := 5, ok := [okG d, okG a], fl := true }
    let legal : Bool := decide (1 ≤ l.toNat ∧ p.toNat + l.toNat ≤ w)
    (Issues s u c px (fmtR3 0x24 d a b) →
      exec (.iAnd c px d a b) s = .next (u.after c px (fmtR3 0x24 d a b) (k.logical w d.toNat (x &&& y)))) ∧
    (Issues s u c px (fmtR3 0x25 d a b) →
      exec (.iOr c px d a b) s = .next (u.after c px (fmtR3 0x25 d a b) (k.logical w d.toNat (x ||| y)))) ∧
    (Issues s u c px (fmtR3 0x26 d a b) →
      exec (.iXor c px d a b) s = .next (u.after c px (fmtR3 0x26 d a b) (k.logical w d.toNat (x ^^^ y)))) ∧
    (Issues s u c px (fmtR3 0x27 d a b) →
      exec (.iAndn c px d a b) s =
        .next (u.after c px (fmtR3 0x27 d a b) (k.logical w d.toNat (x &&& (2 ^ w - 1 - y))))) ∧
    (Issues s u c px (fmtR2 0x2A d a) →
      exec (.iNot c px d a) s = .next (u.after c px (fmtR2 0x2A d a) (k.logical w d.toNat (2 ^ w - 1 - x)))) ∧
    (Issues s u c px (fmtR2I32 0x32 d a) →
      exec (.iAndi c px d a imm) s = .next (u.after c px (fmtR2I32 0x32 d a) (k.logical w d.toNat (x &&& i)))) ∧
    (Issues s u c px (fmtR2I32 0x33 d a) →
      exec (.iOri c px d a imm) s = .next (u.after c px (fmtR2I32 0x33 d a) (k.logical w d.toNat (x ||| i)))) ∧
    (Issues s u c px (fmtR2I32 0x34 d a) →
      exec (.iXori c px d a imm) s = .next (u.after c px (fmtR2I32 0x34 d a) (k.logical w d.toNat (x ^^^ i)))) ∧
    (Issues s u c px (fmtR2 0x2C a b) →
      exec (.iTst c px a b) s = .next (u.after c px (fmtR2 0x2C a b) (k.tested w (x &&& y)))) ∧
    (Issues s u c px { op := 0x36, len := 6, ok := [okG a], fl := true } →
      exec (.iTsti c px a imm) s =
        .next (u.after c px { op := 0x36, len := 6, ok := [okG a], fl := true } (k.tested w (x &&& i)))) ∧
    (Issues s u c px field →
      exec (.iExt c px d a p l) s =
        .next (if legal then u.after c px field (k.logical w d.toNat (x / 2 ^ p.toNat % 2 ^ l.toNat))
          else u.raised c px field 1 5)) ∧
    (Issues s u c px insert →
      (legal = true → ∃ r : Nat,
        (∀ j, r.testBit j =
          if p.toNat ≤ j ∧ j < p.toNat + l.toNat then x.testBit (j - p.toNat)
          else ((k.rg d.toNat).toNat % 2 ^ w).testBit j) ∧
        exec (.iIns c px d a p l) s = .next (u.after c px insert (k.logical w d.toNat r))) ∧
      (legal = false → exec (.iIns c px d a p l) s = .next (u.raised c px insert 1 5)))

/-- R327: the moves, selections and counts, NOP and ILL. -/
def Obligations.MovesSelectionsAndCounts : Prop :=
  ∀ (s u : State) (c : Nat) (px : List Pfx) (d a b : Byte) (imm : BitVec 32) (imm64 : W),
    let k := u.core c
    let w := if osz px then 32 else 64
    let x := (k.rg a.toNat).toNat % 2 ^ w
    let y := (k.rg b.toNat).toNat % 2 ^ w
    let put (r : Nat) : Core := k.wg d.toNat (BitVec.ofNat 64 r)
    let counted (r : Nat) : Core := { put r with fl := flOf k.fC (decide (x = 0)) k.fN k.fV k.fH }
    let plain2 (op : Nat) : Desc := { fmtR2 op d a with fl := false }
    let plain3 (op : Nat) : Desc := { fmtR3 op d a b with fl := false }
    (Issues s u c px (plain2 0x28) → exec (.iMov c px d a) s = .next (u.after c px (plain2 0x28) (put x))) ∧
    (Issues s u c px { op := 0x37, len := 6, ok := [okG d] } →
      exec (.iMovi c px d imm) s =
        .next (u.after c px { op := 0x37, len := 6, ok := [okG d] } (k.wg d.toNat (imm.signExtend 64)))) ∧
    (Issues s u c px { op := 0x38, len := 10, ok := [okG d] } →
      exec (.iMovi64 c px d imm64) s = .next (u.after c px { op := 0x38, len := 10, ok := [okG d] } (k.wg d.toNat imm64))) ∧
    (Issues s u c px (plain3 0x2D) →
      exec (.iMin c px d a b) s =
        .next (u.after c px (plain3 0x2D) (put (if sint w x ≤ sint w y then x else y)))) ∧
    (Issues s u c px (plain3 0x2E) →
      exec (.iMax c px d a b) s =
        .next (u.after c px (plain3 0x2E) (put (if sint w y ≤ sint w x then x else y)))) ∧
    (Issues s u c px (plain2 0x4C) → ∃ r : Nat, r < 2 ^ w ∧
      (∀ j, j < w / 8 → r / 256 ^ j % 256 = x / 256 ^ (w / 8 - 1 - j) % 256) ∧
      exec (.iBswap c px d a) s = .next (u.after c px (plain2 0x4C) (put r))) ∧
    (Issues s u c px (fmtR2 0x4D d a) → ∃ r : Nat,
      (x = 0 → r = w) ∧ (x ≠ 0 → r < w ∧ 2 ^ (w - 1 - r) ≤ x ∧ x < 2 ^ (w - r)) ∧
      exec (.iClz c px d a) s = .next (u.after c px (fmtR2 0x4D d a) (counted r))) ∧
    (Issues s u c px (fmtR2 0x4E d a) → ∃ r : Nat,
      (x = 0 → r = w) ∧ (x ≠ 0 → r < w ∧ x % 2 ^ r = 0 ∧ x % 2 ^ (r + 1) ≠ 0) ∧
      exec (.iCtz c px d a) s = .next (u.after c px (fmtR2 0x4E d a) (counted r))) ∧
    (Issues s u c px (fmtR2 0x4F d a) →
      exec (.iPopc c px d a) s =
        .next (u.after c px (fmtR2 0x4F d a) (counted (((List.range w).map (fun j => x / 2 ^ j % 2)).sum)))) ∧
    (Issues s u c px { op := 0x01, len := 1 } →
      exec (.iNop c px) s = .next (u.after c px { op := 0x01, len := 1 } k)) ∧
    (let n := pxLen px + s.illLen c px
     let pc := k.pc.toNat
     c < 96 → s.coreRuns c = true → s.beforeIssue c { op := 0x00, len := 1, undef := some 2 } = (u, true) → k.eventDue = false →
      (misusedAt px = none → u.fetchCheck c n = none →
        exec (.iIll c px) s = .next ((u.touchRead pc n).takeEntry c 1 2 0 pc pc)) ∧
      (∀ m, misusedAt px = some m → u.fetchCheck c m = none →
        exec (.iIll c px) s = .next ((u.touchRead pc m).takeEntry c 1 1 0 pc pc)))

/-- R329: shifts and rotates. `sh` is the result and C for an amount. -/
def Obligations.ShiftsAndRotates : Prop :=
  ∀ (s u : State) (c : Nat) (px : List Pfx) (d a b imm : Byte),
    let k := u.core c
    let w := if osz px then 32 else 64
    let x := (k.rg a.toNat).toNat % 2 ^ w
    let n := (k.rg b.toNat).toNat
    let m := imm.toNat
    let left (n : Nat) : Core :=
      k.shifted w d.toNat (x * 2 ^ n % 2 ^ w) (if n = 0 then k.fC else decide (n ≤ w) && x.testBit (w - n))
    let right (n : Nat) : Core :=
      k.shifted w d.toNat (x / 2 ^ n) (if n = 0 then k.fC else decide (n ≤ w) && x.testBit (n - 1))
    let arith (n : Nat) : Core :=
      k.shifted w d.toNat (sint w x / (2 ^ n : Nat) % (2 ^ w : Nat)).toNat
        (if n = 0 then k.fC else if n < w then x.testBit (n - 1) else decide (2 ^ (w - 1) ≤ x))
    let rotl (n : Nat) : Core :=
      let r := x * 2 ^ (n % w) % 2 ^ w + x / 2 ^ (w - n % w)
      k.shifted w d.toNat r (if n % w = 0 then k.fC else decide (r % 2 = 1))
    let rotr (n : Nat) : Core :=
      let r := x / 2 ^ (n % w) + x * 2 ^ (w - n % w) % 2 ^ w
      k.shifted w d.toNat r (if n % w = 0 then k.fC else decide (2 ^ (w - 1) ≤ r))
    (Issues s u c px (fmtR3 0x40 d a b) → exec (.iShl c px d a b) s = .next (u.after c px (fmtR3 0x40 d a b) (left n))) ∧
    (Issues s u c px (fmtR3 0x41 d a b) → exec (.iShr c px d a b) s = .next (u.after c px (fmtR3 0x41 d a b) (right n))) ∧
    (Issues s u c px (fmtR3 0x42 d a b) → exec (.iSar c px d a b) s = .next (u.after c px (fmtR3 0x42 d a b) (arith n))) ∧
    (Issues s u c px (fmtR3 0x43 d a b) → exec (.iRol c px d a b) s = .next (u.after c px (fmtR3 0x43 d a b) (rotl n))) ∧
    (Issues s u c px (fmtR3 0x44 d a b) → exec (.iRor c px d a b) s = .next (u.after c px (fmtR3 0x44 d a b) (rotr n))) ∧
    (Issues s u c px (fmtRRI8 0x45 d a) → exec (.iShli c px d a imm) s = .next (u.after c px (fmtRRI8 0x45 d a) (left m))) ∧
    (Issues s u c px (fmtRRI8 0x46 d a) → exec (.iShri c px d a imm) s = .next (u.after c px (fmtRRI8 0x46 d a) (right m))) ∧
    (Issues s u c px (fmtRRI8 0x47 d a) → exec (.iSari c px d a imm) s = .next (u.after c px (fmtRRI8 0x47 d a) (arith m))) ∧
    (Issues s u c px (fmtRRI8 0x48 d a) → exec (.iRoli c px d a imm) s = .next (u.after c px (fmtRRI8 0x48 d a) (rotl m))) ∧
    (Issues s u c px (fmtRRI8 0x49 d a) → exec (.iRori c px d a imm) s = .next (u.after c px (fmtRRI8 0x49 d a) (rotr m)))

/-- R331, R332: branches and calls. -/
def Obligations.BranchesAndCalls : Prop :=
  ∀ (s u : State) (c : Nat) (px : List Pfx) (d a cc : Byte) (rel8 : Byte) (rel : BitVec 32),
    let k := u.core c
    let holds : Bool := match cc.toNat with
      | 0 => k.fZ | 1 => !k.fZ | 2 => k.fC | 3 => !k.fC | 4 => k.fN | 5 => !k.fN | 6 => k.fV | 7 => !k.fV
      | 8 => !k.fC && !k.fZ | 9 => k.fC || k.fZ | 10 => k.fN != k.fV | 11 => k.fN == k.fV
      | 12 => !k.fZ && k.fN == k.fV | 13 => k.fZ || k.fN != k.fV | 14 => true | _ => k.fH
    let goes (f : Desc) (k' : Core) (t : W) : State :=
      if t.toNat < 2 ^ 48 then u.jumped c px f k' t else u.raised c px f 3 3 t
    let near (f : Desc) : W := BitVec.ofNat 64 (u.nextOf c px f) + rel8.signExtend 64
    let far (f : Desc) : W := BitVec.ofNat 64 (u.nextOf c px f) + rel.signExtend 64
    let linked (f : Desc) : Core := k.wg d.toNat (BitVec.ofNat 64 (u.nextOf c px f))
    let br8 : Desc := { op := 0x02, len := 2 }
    let br32 : Desc := { op := 0x03, len := 5 }
    let bcc8 : Desc := { op := 0x04, len := 3, ok := [decide (cc.toNat < 16)], fl := true }
    let bcc32 : Desc := { op := 0x05, len := 6, ok := [decide (cc.toNat < 16)], fl := true }
    let call : Desc := { op := 0x06, len := 6, ok := [okG d] }
    let jmp : Desc := { op := 0x07, len := 2, ok := [okG a] }
    let callr : Desc := { op := 0x08, len := 3, ok := [okG d, okG a] }
    (Issues s u c px br8 → exec (.iBr8 c px rel8) s = .next (goes br8 k (near br8))) ∧
    (Issues s u c px br32 → exec (.iBr32 c px rel) s = .next (goes br32 k (far br32))) ∧
    (Issues s u c px bcc8 →
      exec (.iBcc8 c px cc rel8) s = .next (if holds then goes bcc8 k (near bcc8) else u.after c px bcc8 k)) ∧
    (Issues s u c px bcc32 →
      exec (.iBcc32 c px cc rel) s = .next (if holds then goes bcc32 k (far bcc32) else u.after c px bcc32 k)) ∧
    (Issues s u c px call → exec (.iCall c px d rel) s = .next (goes call (linked call) (far call))) ∧
    (Issues s u c px jmp → exec (.iJmp c px a) s = .next (goes jmp k (k.rg a.toNat))) ∧
    (Issues s u c px callr → exec (.iCallr c px d a) s = .next (goes callr (linked callr) (k.rg a.toNat)))

/-- R333 to R335: hardware loops and the end check. `fuel` counts levels that may still end. -/
def Obligations.HardwareLoops : Prop :=
  (∀ (s u : State) (c : Nat) (px : List Pfx) (a : Byte) (imm : BitVec 32) (rel : BitVec 16),
    let k := u.core c
    let loop : Desc := { op := 0x09, len := 4, ok := [okG a] }
    let loopi : Desc := { op := 0x0A, len := 7 }
    let starts (f : Desc) (count : Nat) : State :=
      let nxt := u.nextOf c px f
      let level := match k.topLoop with
        | none => 0
        | some i => i + 1
      if rel.toNat = 0 ∨ 32767 < rel.toNat then u.raised c px f 1 5
      else if count = 0 then
        (if nxt + rel.toNat < 2 ^ 48 then u.jumped c px f k (BitVec.ofNat 64 (nxt + rel.toNat))
        else u.raised c px f 3 3 (BitVec.ofNat 64 (nxt + rel.toNat)))
      else if level = 4 then u.raised c px f 1 5
      else u.after c px f (k.wl level
        { ls := BitVec.ofNat 64 nxt, le := BitVec.ofNat 64 (nxt + rel.toNat), lc := BitVec.ofNat 32 count, lf := 1 })
    (Issues s u c px loop → exec (.iLoop c px a rel) s = .next (starts loop ((k.rg a.toNat).toNat % 2 ^ 32))) ∧
    (Issues s u c px loopi → exec (.iLoopi c px imm rel) s = .next (starts loopi imm.toNat)) ∧
    (Issues s u c px { op := 0x0B, len := 1 } →
      exec (.iLeave c px) s = .next (u.after c px { op := 0x0B, len := 1 } (match k.topLoop with
        | none => k
        | some i => k.wl i { k.lvl i with lc := 0, lf := 0 })))) ∧
  (∀ (k : Core) (fuel start nxt : Nat),
    (k.topLoop = none → k.endCheck (fuel + 1) start nxt = { k with pc := BitVec.ofNat 48 nxt }) ∧
    (∀ i, k.topLoop = some i →
      i < 4 ∧ (k.lvl i).lf.getLsbD 0 = true ∧ (∀ j, i < j → j < 4 → (k.lvl j).lf.getLsbD 0 = false) ∧
      (¬(start < (k.lvl i).le.toNat ∧ (k.lvl i).le.toNat ≤ nxt) →
        k.endCheck (fuel + 1) start nxt = { k with pc := BitVec.ofNat 48 nxt }) ∧
      (start < (k.lvl i).le.toNat → (k.lvl i).le.toNat ≤ nxt → 1 < (k.lvl i).lc.toNat →
        k.endCheck (fuel + 1) start nxt =
          { k.wl i { k.lvl i with lc := (k.lvl i).lc - 1 } with pc := (k.lvl i).ls.setWidth 48 }) ∧
      (start < (k.lvl i).le.toNat → (k.lvl i).le.toNat ≤ nxt → (k.lvl i).lc.toNat ≤ 1 →
        k.endCheck (fuel + 1) start nxt =
          (k.wl i { k.lvl i with lc := 0, lf := 0 }).endCheck fuel start nxt)))

/-- R336, R353, R305, R400: loads. `late` is the model's operand: the load is left outstanding until LOAD_COMPLETE. The model's choices that it rests on: logs 10 and 20. -/
def Obligations.LoadsComplete : Prop :=
  (∀ (s u : State) (c : Nat) (px : List Pfx) (m : MemSpec) (r : LoadOp × Nat × Desc × (Bool → Instr)),
    let k := u.core c
    let rows : List (LoadOp × Nat × Desc × (Bool → Instr)) :=
      [(.b, 1, fmtM 0x10 px m, .iLdB c px m), (.h, 2, fmtM 0x11 px m, .iLdH c px m), (.w, 4, fmtM 0x12 px m, .iLdW c px m),
        (.d, 8, fmtM 0x13 px m, .iLdD c px m), (.sb, 1, fmtM 0x14 px m, .iLdsB c px m),
        (.sh, 2, fmtM 0x15 px m, .iLdsH c px m), (.sw, 4, fmtM 0x16 px m, .iLdsW c px m),
        (.q, 16, fmtMPair 0x1C px m, .iLdQ c px m),
        (.fld, if osz px then 4 else 8, fmtFM 0x7B px m, .iFld c px m)]
    let n := r.2.1
    let f := r.2.2.1
    let t := u.fetched c px f
    r ∈ rows → Issues s u c px f →
      exec (r.2.2.2 true) s = .next (t.setCore c { k with load := some { op := r.1, px := px, m := m } }) ∧
      (∀ e, memEa k px m (u.nextOf c px f) = .error e →
        exec (r.2.2.2 false) s = .next (u.raised c px f e.vec e.cause e.g2)) ∧
      (∀ (a : W) (unit : Option Nat), memEa k px m (u.nextOf c px f) = .ok (a, unit) →
        (∀ e, t.checkAccess (whoOf c k px) a n .read = some e →
          exec (r.2.2.2 false) s = .next (u.raised c px f e.vec e.cause e.g2)) ∧
        (t.checkAccess (whoOf c k px) a n .read = none → ∃ v : Nat, v < 256 ^ n ∧
          (∀ i, i < n → v / 256 ^ i % 256 = (t.readByte c ((a.toNat + i) % 2 ^ 64)).toNat) ∧
          exec (r.2.2.2 false) s =
            .next (((t.afterRead a.toNat n).setCore c ((k.loaded r.1 m.data.toNat v).advanceAu unit)).ended u c px f)))) ∧
  (∀ (s u : State) (c : Nat) (px : List Pfx) (m : MemSpec), Issues s u c px (fmtM 0x17 px m) →
    exec (.iLea c px m) s = .next (u.after c px (fmtM 0x17 px m)
      ((u.core c).wg m.data.toNat (specEa m (u.core c) (u.nextOf c px (fmtM 0x17 px m)))))) ∧
  (∀ (s : State) (c : Nat) (o : LoadOut) (a : W) (unit : Option Nat),
    let k : Core := { s.core c with load := none }
    let n := o.op.size o.px
    let nxt := k.pc.toNat + o.len
    let t := s.setCore c k
    c < 96 → s.coreRuns c = true → (s.core c).load = some o → memEa k o.px o.m nxt = .ok (a, unit) →
    t.checkAccess (whoOf c k o.px) a n .read = none → ∃ v : Nat, v < 256 ^ n ∧
      (∀ i, i < n → v / 256 ^ i % 256 = (t.readByte c ((a.toNat + i) % 2 ^ 64)).toNat) ∧
      exec (.loadComplete c) s = .next ((t.afterRead a.toNat n).setCore c
        (((k.loaded o.op o.m.data.toNat v).advanceAu unit).ended k.pc.toNat nxt)))

/-- R336, R353, R305, R307, R311: stores and atomics, and the frame of a store to external memory or the pool. The model's choices that it rests on: logs 8 and 29. -/
def Obligations.StoresAndAtomics : Prop :=
  (∀ (s u : State) (c : Nat) (px : List Pfx) (m : MemSpec) (r : Nat × Nat × Desc × Instr),
    let k := u.core c
    let g := (k.rg m.data.toNat).toNat
    let fl := (k.rf m.data.toNat).toNat
    let rows : List (Nat × Nat × Desc × Instr) :=
      [(1, g, fmtM 0x18 px m, .iStB c px m), (2, g, fmtM 0x19 px m, .iStH c px m), (4, g, fmtM 0x1A px m, .iStW c px m),
        (8, g, fmtM 0x1B px m, .iStD c px m),
        (16, g + (k.rg (m.data.toNat + 1)).toNat * 2 ^ 64, fmtMPair 0x1D px m, .iStQ c px m),
        (if osz px then 4 else 8, fl, fmtFM 0x7C px m, .iFst c px m)]
    let f := r.2.2.1
    let t := u.fetched c px f
    r ∈ rows → Issues s u c px f →
      (∀ e, memEa k px m (u.nextOf c px f) = .error e → exec r.2.2.2 s = .next (u.raised c px f e.vec e.cause e.g2)) ∧
      (∀ (a : W) (unit : Option Nat), memEa k px m (u.nextOf c px f) = .ok (a, unit) →
        (∀ e, t.checkAccess (whoOf c k px) a r.1 .write = some e →
          exec r.2.2.2 s = .next (u.raised c px f e.vec e.cause e.g2)) ∧
        (t.checkAccess (whoOf c k px) a r.1 .write = none →
          exec r.2.2.2 s =
            .next (((t.store c a r.1 r.2.1).modCore c (fun k => k.advanceAu unit)).ended u c px f)))) ∧
  (∀ (s u : State) (c : Nat) (px : List Pfx) (r : Byte) (m : MemSpec) (a : W) (unit : Option Nat),
    let k := u.core c
    let swap := fmtM 0x1E px m
    let cas : Desc := { op := 0x1F, len := 2 + m.len, ok := [okG r, okG m.data] ++ m.oks (hasPx px 5), fl := true, spec := true }
    let old (f : Desc) : Nat := (u.fetched c px f).readVal c a.toNat 8
    let read (f : Desc) : State := (u.fetched c px f).afterRead a.toNat 8
    (Issues s u c px swap → memEa k px m (u.nextOf c px swap) = .ok (a, unit) →
      (u.fetched c px swap).checkAccess (whoOf c k px) a 8 .rmw = none →
      exec (.iSwap c px m) s = .next ((((read swap).store c a 8 (k.rg m.data.toNat).toNat).modCore c (fun k =>
        (k.wg m.data.toNat (BitVec.ofNat 64 (old swap))).advanceAu unit)).ended u c px swap)) ∧
    (Issues s u c px cas → memEa k px m (u.nextOf c px cas) = .ok (a, unit) →
      (u.fetched c px cas).checkAccess (whoOf c k px) a 8 .rmw = none →
      exec (.iCas c px r m) s =
        .next (((if old cas = (k.rg r.toNat).toNat then (read cas).store c a 8 (k.rg m.data.toNat).toNat
            else read cas).modCore c (fun k' =>
          (({ k' with fl := flOf k'.fC (decide (old cas = (k.rg r.toNat).toNat)) k'.fN k'.fV k'.fH }).wg r.toNat
            (BitVec.ofNat 64 (old cas))).advanceAu unit)).ended u c px cas))) ∧
  (∀ (t : State) (c n v : Nat) (a : W),
    n ∈ [1, 2, 4, 8, 16] →
    (∀ i, i < n → regionOf ((a.toNat + i) % 2 ^ 64) ∈ [Region.ext, Region.fw, Region.pool]) →
    ∃ mem keys, t.store c a n v = { t with mem := mem, keys := keys } ∧
      (∀ i, i < n → (Memory.read mem ((a.toNat + i) % 2 ^ 64)).toNat = v / 256 ^ i % 256) ∧
      ∀ x, (∀ i, i < n → x ≠ (a.toNat + i) % 2 ^ 64) → Memory.read mem x = Memory.read t.mem x)

/-- R303, R304, R318: effective addresses and address units. -/
def Obligations.EffectiveAddressesAndUnits : Prop :=
  (∀ (k : Core) (px : List Pfx) (m : MemSpec) (nxt : Nat), pxAu px = none → m.amode ≤ 5 →
    let base : W :=
      if m.amode ≤ 3 then k.rg (m.b1.toNat % 32) else if m.amode = 4 then 0 else BitVec.ofNat 64 nxt
    let index : W := if m.b2.getLsbD 7 then (k.rg (m.b2.toNat % 32)) <<< (m.b2.toNat / 32 % 4) else 0
    let disp : W :=
      if m.amode = 0 then 0 else if m.amode = 1 then (m.disp.setWidth 8).signExtend 64
      else if m.amode = 2 then (m.disp.setWidth 16).signExtend 64 else m.disp.signExtend 64
    memEa k px m nxt = .ok (base + index + disp, none)) ∧
  (∀ (k : Core) (px : List Pfx) (m : MemSpec) (nxt i : Nat), pxAu px = some i →
    let u := k.au i
    let kind := u.mode.toNat % 4
    let shift := u.mode.toNat / 4 % 16
    let len := u.length.toNat
    let step := u.step.toInt
    let badUnit : Prop :=
      kind = 3 ∨ 4 < shift ∨ u.mode.toNat / 64 ≠ 0 ∨ 2 ^ 48 ≤ u.base.toNat ∨
      (kind = 1 ∧ (len = 0 ∨ 2 ^ 32 < len ∨ len ≤ u.index.toNat ∨ len ≤ step.natAbs)) ∨
      (kind = 2 ∧ ((∀ n, 1 ≤ n → n ≤ 32 → len ≠ 2 ^ n) ∨ len ≤ u.index.toNat))
    (badUnit → ∃ cause, memEa k px m nxt = .error { vec := 12, cause := cause, g2 := BitVec.ofNat 64 i }) ∧
    (¬badUnit → memEa k px m nxt = .ok (u.base + u.index <<< shift, some i) ∧
      (k.advanceAu (some i)) = k.wau i u.advance ∧
      { u.advance with index := u.index } = u ∧
      (kind = 0 → u.advance.index = u.index + u.step.signExtend 64) ∧
      (kind = 1 → u.advance.index.toNat < len ∧ ((u.advance.index.toNat : Int) - u.index.toNat - step) % len = 0) ∧
      (∀ n, kind = 2 → len = 2 ^ n → ∃ x y z : Nat,
        (∀ j, x.testBit j = (decide (j < n) && u.index.toNat.testBit (n - 1 - j))) ∧
        (∀ j, y.testBit j = (decide (j < n) && u.step.toNat.testBit (n - 1 - j))) ∧
        (∀ j, u.advance.index.toNat.testBit j = (decide (j < n) && z.testBit (n - 1 - j))) ∧
        z = (x + y) % 2 ^ n)))

/-- R301, R337, R338: bit space and its instructions. The model's choices that it rests on: log 19. -/
def Obligations.BitSpaceInstructions : Prop :=
  (∀ (k : Core) (x : Nat), x < 2 ^ 32 →
    (x < 65536 → bitPlace k x = .ok (.flag (0x20000 + x / 8) (x % 8))) ∧
    (65536 ≤ x →
      let a := k.baseb.toNat % 2 ^ 48 + (x - 65536) / 8
      bitPlace k x = if a < 2 ^ 48 then .ok (.mem a (x % 8)) else .error { vec := 11, cause := 2, g2 := BitVec.ofNat 64 x })) ∧
  (∀ (s u : State) (c : Nat) (px : List Pfx) (a : Byte) (rel : BitVec 16),
    let k := u.core c
    let v := k.rg a.toNat
    let writes : List (Desc × Instr × (Bool → Bool)) :=
      [(fmtBit 0x60 a, .iBset c px a, fun _ => true), (fmtBit 0x61 a, .iBclr c px a, fun _ => false),
        (fmtBit 0x62 a, .iBinv c px a, fun b => !b)]
    let bbs : Desc := { op := 0x64, len := 4, ok := [okG a] }
    let bbc : Desc := { op := 0x65, len := 4, ok := [okG a] }
    let goes (f : Desc) (p : BitPlace) : State :=
      let target : W := BitVec.ofNat 64 (u.nextOf c px f) + rel.signExtend 64
      if target.toNat < 2 ^ 48 then
        ((u.fetched c px f).afterBit p).setCore c
          { k with pc := target.setWidth 48, retired := k.retired + 1, uwait := none }
      else u.raised c px f 3 3 target
    (∀ r ∈ writes, Issues s u c px r.1 →
      let t := u.fetched c px r.1
      (∀ e, t.bitOperand c px v true = .error e → exec r.2.1 s = .next (u.raised c px r.1 e.vec e.cause e.g2)) ∧
      (∀ p, t.bitOperand c px v true = .ok p →
        let bit := t.readBit c p
        exec r.2.1 s = .next (((t.writeBit c p (r.2.2 bit)).modCore c (fun k =>
          { k with fl := flOf bit (!bit) k.fN k.fV k.fH })).ended u c px r.1))) ∧
    (∀ p, Issues s u c px (fmtBit 0x63 a) →
      let t := u.fetched c px (fmtBit 0x63 a)
      t.bitOperand c px v false = .ok p →
      exec (.iBtst c px a) s = .next (((t.afterBit p).setCore c
        { k with fl := flOf (t.readBit c p) (!t.readBit c p) k.fN k.fV k.fH }).ended u c px (fmtBit 0x63 a))) ∧
    (∀ p, Issues s u c px (fmtBit 0x66 a) →
      let t := u.fetched c px (fmtBit 0x66 a)
      t.bitOperand c px v false = .ok p →
      exec (.iBtoc c px a) s = .next (((t.afterBit p).setCore c
        { k with fl := flOf (t.readBit c p) k.fZ k.fN k.fV k.fH }).ended u c px (fmtBit 0x66 a))) ∧
    (∀ p, Issues s u c px (fmtBit 0x67 a) →
      let t := u.fetched c px (fmtBit 0x67 a)
      t.bitOperand c px v true = .ok p →
      exec (.iBfromc c px a) s = .next ((t.writeBit c p k.fC).ended u c px (fmtBit 0x67 a))) ∧
    (∀ p, Issues s u c px bbs →
      let t := u.fetched c px bbs
      t.bitOperand c px v false = .ok p →
      exec (.iBbs c px a rel) s =
        .next (if t.readBit c p then goes bbs p else (t.afterBit p).ended u c px bbs)) ∧
    (∀ p, Issues s u c px bbc →
      let t := u.fetched c px bbc
      t.bitOperand c px v false = .ok p →
      exec (.iBbc c px a rel) s =
        .next (if t.readBit c p then (t.afterBit p).ended u c px bbc else goes bbc p))) ∧
  (∀ (s u : State) (c : Nat) (px : List Pfx) (d a b : Byte), Issues s u c px (fmtR3 0x68 d a b) →
    let k := u.core c
    let t := u.fetched c px (fmtR3 0x68 d a b)
    let v := k.rg a.toNat
    let n := (k.rg b.toNat).toNat
    let fp (x : Nat) : Nat := x - x % 8 + (7 - x % 8)
    let start := fp v.toNat
    let hit (i : Nat) : Prop := ∃ p, bitPlace k (fp (start + i)) = .ok p ∧ t.readBit c p = true
    v.toNat < 2 ^ 32 →
    (4096 < n → exec (.iBffs c px d a b) s = .next (u.raised c px (fmtR3 0x68 d a b) 11 4 v)) ∧
    (n ≤ 4096 → t.bffsCheck c px v start n = none → ∃ (r : Nat) (keys : Tbl FrameWord),
      ((r < n ∧ hit r ∧ ∀ i, i < r → ¬hit i) ∨ (r = n ∧ ∀ i, i < n → ¬hit i)) ∧
      exec (.iBffs c px d a b) s = .next (({ t with keys := keys }.setCore c
        { k.wg d.toNat (BitVec.ofNat 64 r) with
          fl := flOf k.fC (decide (r = n)) k.fN k.fV k.fH }).ended u c px (fmtR3 0x68 d a b))))

/-- R339, R340, R342, R343: multiply and divide. -/
def Obligations.MultiplyAndDivide : Prop :=
  (∀ (s u : State) (c : Nat) (px : List Pfx) (a b : Byte),
    let k := u.core c
    let w := if osz px then 32 else 64
    let x := (k.rg a.toNat).toNat % 2 ^ w
    let y := (k.rg b.toNat).toNat % 2 ^ w
    let x' := sint w x
    let y' := sint w y
    let lent (f : Desc) : Bool := (u.fetched c px f).lentTo c
    let started (m : MulOut) : Core :=
      { k with
        muldiv := some m, mst := k.mst ||| 1, borrowedMuls := k.borrowedMuls + (if m.borrowed then 1 else 0) }
    let cycles := if osz px then 34 else 66
    (Issues s u c px (fmtMul 0x50 a b false) → ∃ (m : MulOut) (n : Nat),
      m.hi ++ m.lo = BitVec.ofNat 128 (x * y) ∧ m.v = none ∧ m.mul = true ∧ m.borrowed = lent (fmtMul 0x50 a b false) ∧
      1 ≤ n ∧ y < 2 ^ n ∧ (n = 1 ∨ 2 ^ (n - 1) ≤ y) ∧ m.cyc = (if m.borrowed then 1 else 1 + (n + 3) / 4) ∧
      exec (.iMul c px a b) s = .next (u.after c px (fmtMul 0x50 a b false) (started m))) ∧
    (Issues s u c px (fmtMul 0x51 a b false) → ∃ (m : MulOut) (n : Nat),
      m.hi ++ m.lo = BitVec.ofInt 128 (x' * y') ∧ m.v = none ∧ m.mul = true ∧ m.borrowed = lent (fmtMul 0x51 a b false) ∧
      1 ≤ n ∧ -(2 ^ (n - 1) : Int) ≤ y' ∧ y' < (2 ^ (n - 1) : Int) ∧
      (n = 1 ∨ y' < -(2 ^ (n - 2) : Int) ∨ (2 ^ (n - 2) : Int) ≤ y') ∧
      m.cyc = (if m.borrowed then 1 else 1 + (n + 3) / 4) ∧
      exec (.iMuls c px a b) s = .next (u.after c px (fmtMul 0x51 a b false) (started m))) ∧
    (Issues s u c px (fmtMul 0x54 a b false) →
      (y = 0 → exec (.iDiv c px a b) s = .next (u.raised c px (fmtMul 0x54 a b false) 5 1)) ∧
      (y ≠ 0 → exec (.iDiv c px a b) s = .next (u.after c px (fmtMul 0x54 a b false) (started
        { lo := BitVec.ofNat 64 (x / y), hi := BitVec.ofNat 64 (x % y), v := none, cyc := cycles, borrowed := false
          mul := false })))) ∧
    (Issues s u c px (fmtMul 0x55 a b true) →
      (y = 0 → exec (.iDivs c px a b) s = .next (u.raised c px (fmtMul 0x55 a b true) 5 2)) ∧
      (y ≠ 0 → ∃ q r : Int, x' = q * y' + r ∧ r.natAbs < y'.natAbs ∧ 0 ≤ r * x' ∧
        let tooBig : Bool := decide (q = (2 ^ (w - 1) : Int))
        exec (.iDivs c px a b) s = .next (u.after c px (fmtMul 0x55 a b true) (started
          { lo := BitVec.ofInt 64 (if tooBig then x' else q), hi := BitVec.ofInt 64 r, v := some tooBig, cyc := cycles
            borrowed := false, mul := false }))))) ∧
  (∀ (s u : State) (c : Nat) (px : List Pfx) (r : Byte),
    let k := u.core c
    let row (op : Nat) : Desc := { op := op, len := 2, ok := [okG r], ml := true }
    (Issues s u c px (row 0x52) → exec (.iMflo c px r) s = .next (u.after c px (row 0x52) (k.wg r.toNat k.mlo))) ∧
    (Issues s u c px (row 0x53) → exec (.iMfhi c px r) s = .next (u.after c px (row 0x53) (k.wg r.toNat k.mhi))) ∧
    (Issues s u c px (row 0x56) →
      exec (.iMtlo c px r) s = .next (u.after c px (row 0x56) { k with mlo := k.rg r.toNat })) ∧
    (Issues s u c px (row 0x57) →
      exec (.iMthi c px r) s = .next (u.after c px (row 0x57) { k with mhi := k.rg r.toNat })) ∧
    (Issues s u c px (row 0x52) → k.muldiv = none)) ∧
  (∀ (s : State) (c : Nat), c < 96 → (s.core c).muldiv = none → exec (.muldivComplete c) s = .next (s.setCore c (s.core c))) ∧
  (∀ (s : State) (c : Nat) (m : MulOut), c < 96 → (s.core c).muldiv = some m →
    ∃ k : Core, exec (.muldivComplete c) s = .next (s.setCore c k) ∧
      k.mlo = m.lo ∧ k.mhi = m.hi ∧ k.muldiv = none ∧ k.mst.getLsbD 0 = false ∧
      k.mst.toNat / 256 = m.cyc % 256 ∧
      k.mst.getLsbD 1 = (if m.mul then m.borrowed else (s.core c).mst.getLsbD 1) ∧ (m.v = none → k.fl = (s.core c).fl) ∧
      (∀ v, m.v = some v → k.fl = flOf (s.core c).fC (s.core c).fZ (s.core c).fN v (s.core c).fH) ∧
      { k with
        mlo := (s.core c).mlo, mhi := (s.core c).mhi, muldiv := some m, mst := (s.core c).mst,
        fl := (s.core c).fl } = s.core c)

/-- R348, R349, R351, R353 to R355: floating-point arithmetic. The results come from `FFmt.add` and its kin, which
`FloatRoundingAndSpecials` states. The model's choices that it rests on: logs 10 and 94. -/
def Obligations.FloatArithmeticCompletes : Prop :=
  (∀ (s u : State) (c : Nat) (px : List Pfx) (d a b e : Byte) (r : Desc × (Bool → Instr) × FDest × Bool × FRes),
    let k := u.core c
    let f := ffmt (osz px)
    let rm := k.fcsr.toNat / 2 ^ 16 % 4
    let x := (k.rf a.toNat).toNat % 2 ^ f.width
    let y := (k.rf b.toNat).toNat % 2 ^ f.width
    let z := (k.rf e.toNat).toNat % 2 ^ f.width
    let vx := f.unpack x
    let vy := f.unpack y
    let tri : List Bool := [okF d, okF a, okF b]
    let subs : Bool := f.isSub x || f.isSub y
    let rows : List (Desc × (Bool → Instr) × FDest × Bool × FRes) :=
      [(fmtF 0x70 4 tri, .iFadd c px d a b, .f d.toNat, subs, f.add rm vx vy),
        (fmtF 0x71 4 tri, .iFsub c px d a b, .f d.toNat, subs, f.add rm vx vy.flip),
        (fmtF 0x72 4 tri, .iFmul c px d a b, .f d.toNat, subs, f.mul rm vx vy),
        (fmtF 0x73 4 tri, .iFdiv c px d a b, .f d.toNat, subs, f.div rm vx vy),
        (fmtF 0x74 3 [okF d, okF a], .iFsqrt c px d a, .f d.toNat, f.isSub x, f.sqrt rm vx),
        (fmtF 0x75 5 (tri ++ [okF e]), .iFmadd c px d a b e, .f d.toNat, subs || f.isSub z, f.fma rm vx vy (f.unpack z)),
        ({ fmtF 0x76 3 [okF a, okF b] with fl := true }, .iFcmp c px a b, .flags, subs,
          { bits := match fcompare vx vy with
              | .lt => 5
              | .eq => 2
              | .gt => 0
              | .un => 9
            flags := if vx = .nan true ∨ vy = .nan true then 1 else 0 }),
        (fmtF 0x77 4 tri, .iFmin c px d a b, .f d.toNat, subs, f.minmax false x y),
        (fmtF 0x78 4 tri, .iFmax c px d a b, .f d.toNat, subs, f.minmax true x y)]
    r ∈ rows → Issues s u c px r.1 →
      exec (r.2.1 false) s = .next (u.after c px r.1 (k.settled k.pc r.2.2.1 r.2.2.2.1 r.2.2.2.2)) ∧
      ∃ o : FloatOut, exec (r.2.1 true) s = .next (u.after c px r.1 { k with floats := k.floats ++ [o] }) ∧
        ∀ k' : Core, k'.fcsr.toNat / 2 ^ 18 % 2 = k.fcsr.toNat / 2 ^ 18 % 2 →
          k'.fcsr.toNat / 2 ^ 8 % 32 = k.fcsr.toNat / 2 ^ 8 % 32 →
          k'.finishFloat o = k'.settled k.pc r.2.2.1 r.2.2.2.1 r.2.2.2.2) ∧
  (∀ (s u : State) (c : Nat) (px : List Pfx) (sub d a : Byte) (late : Bool),
    let k := u.core c
    let f := fmtF 0x79 4 (fcvtOk sub d a)
    let x32 := (k.rf a.toNat).toNat % 2 ^ 32
    let x64 := (k.rf a.toNat).toNat
    let x := (k.rf a.toNat).toNat % 2 ^ (ffmt (osz px)).width
    let g := k.rg a.toNat
    let rm := k.fcsr.toNat / 2 ^ 16 % 4
    let conv (src dst : FFmt) (bits : Nat) : FRes := match src.unpack bits with
      | .nan sg => { bits := dst.qnan, flags := if sg then 1 else 0 }
      | .inf n => { bits := dst.infBits n }
      | .fin n m e => dst.round rm n m e false
    let out (dest : FDest) (isSub : Bool) (r : FRes) : Core :=
      if late then { k with floats := k.floats ++ [floatOut k dest isSub r] } else k.settled k.pc dest isSub r
    Issues s u c px f →
      exec (.iFcvt c px sub d a late) s = .next (u.after c px f (
        if sub.toNat = 0 then out (.f d.toNat) (f32.isSub x32) (conv f32 f64 x32)
        else if sub.toNat = 1 then out (.f d.toNat) (f64.isSub x64) (conv f64 f32 x64)
        else if sub.toNat = 2 then out (.f d.toNat) false ((ffmt (osz px)).round rm g.msb g.toInt.natAbs 0 false)
        else if sub.toNat = 3 then out (.f d.toNat) false ((ffmt (osz px)).round rm false g.toNat 0 false)
        else out (.g d.toNat) ((ffmt (osz px)).isSub x)
          (toIntRes (if sub.toNat < 6 then rm else 1) (decide (sub.toNat % 2 = 0)) ((ffmt (osz px)).unpack x))))) ∧
  (∀ (s : State) (c : Nat), c < 96 →
    exec (.floatComplete c) s = .next (s.setCore c (match (s.core c).floats with
      | [] => s.core c
      | o :: rest => { s.core c with floats := rest }.finishFloat o)))

/-- R344 to R347: rounding and the special values. The model's choices that it rests on: log 94. -/
def Obligations.FloatRoundingAndSpecials : Prop :=
  (∀ (f : FFmt) (rm m : Nat) (neg : Bool) (e : Int), f ∈ [f64, f32] → rm < 4 → m ≠ 0 →
    let r := f.round rm neg m e false
    let top := 2 ^ (f.width - 1)
    (r.flags.testBit 2 = true → r.flags = 20 ∧ r.tiny = false ∧ r.bits =
      if rm = 0 ∨ (rm = 2 ∧ neg = false) ∨ (rm = 3 ∧ neg = true) then f.infBits neg else f.maxBits neg) ∧
    (r.tiny = true → r.flags = 24 ∧ r.bits = if neg then top else 0) ∧
    (r.flags.testBit 2 = false → r.tiny = false → ∃ (q : Nat) (x : Int), f.unpack r.bits = .fin neg q x ∧
      2 ^ (f.p - 1) ≤ q ∧ q < 2 ^ f.p ∧
      let lo := min e x
      let exact := m * 2 ^ (e - lo).toNat
      let got := q * 2 ^ (x - lo).toNat
      let ulp := 2 ^ (x - lo).toNat
      r.flags = (if got = exact then 0 else 16) ∧
      (rm = 0 → 2 * got ≤ 2 * exact + ulp ∧ 2 * exact ≤ 2 * got + ulp ∧
        (2 * got = 2 * exact + ulp ∨ 2 * exact = 2 * got + ulp → q % 2 = 0)) ∧
      (rm = 1 ∨ (rm = 2 ∧ neg = true) ∨ (rm = 3 ∧ neg = false) → got ≤ exact ∧ exact < got + ulp) ∧
      ((rm = 2 ∧ neg = false) ∨ (rm = 3 ∧ neg = true) → exact ≤ got ∧ got < exact + ulp))) ∧
  (∀ (f : FFmt) (rm : Nat) (x y z : FVal), f ∈ [f64, f32] →
    let quiet (l : List FVal) : Prop := FVal.nan true ∉ l ∧ FVal.nan false ∈ l
    (∀ sg, FVal.nan sg ∈ [x, y] →
      ∀ g ∈ [f.add rm, f.mul rm, f.div rm], (g x y).bits = f.qnan ∧ ((g x y).flags = 1 ↔ FVal.nan true ∈ [x, y]) ∧
        (quiet [x, y] → (g x y).flags = 0)) ∧
    (∀ sg, x = .nan sg → (f.sqrt rm x).bits = f.qnan ∧ (f.sqrt rm x).flags = if sg then 1 else 0) ∧
    (∀ n, f.add rm (.inf n) (.inf !n) = { bits := f.qnan, flags := 1 } ∧ f.add rm (.inf n) (.inf n) = { bits := f.infBits n }) ∧
    (∀ n n' e, f.mul rm (.fin n 0 e) (.inf n') = { bits := f.qnan, flags := 1 } ∧
      f.mul rm (.inf n') (.fin n 0 e) = { bits := f.qnan, flags := 1 } ∧
      f.fma rm (.fin n 0 e) (.inf n') z = { bits := f.qnan, flags := 1 } ∧
      f.fma rm (.inf n') (.fin n 0 e) z = { bits := f.qnan, flags := 1 }) ∧
    (∀ n n' e e' m, f.div rm (.fin n 0 e) (.fin n' 0 e') = { bits := f.qnan, flags := 1 } ∧
      f.div rm (.inf n) (.inf n') = { bits := f.qnan, flags := 1 } ∧
      (m ≠ 0 → f.div rm (.fin n m e) (.fin n' 0 e') = { bits := f.infBits (n != n'), flags := 2 })) ∧
    (∀ m e, f.sqrt rm (.fin true 0 e) = { bits := 2 ^ (f.width - 1) } ∧
      (m ≠ 0 → f.sqrt rm (.fin true m e) = { bits := f.qnan, flags := 1 }) ∧
      f.sqrt rm (.inf true) = { bits := f.qnan, flags := 1 }))

/-- R352, R356: FMOV, FSGN, FBAR. -/
def Obligations.FloatMovesAndFbar : Prop :=
  ∀ (s u : State) (c : Nat) (px : List Pfx) (sub d a b : Byte),
    let k := u.core c
    let low (v : W) : W := if osz px then v &&& 0xFFFFFFFF else v
    let top := if osz px then 31 else 63
    let fmov := fmtF 0x7A 4 [decide (sub.toNat ≤ 2), if sub = 2 then okG d else okF d, if sub = 1 then okG a else okF a]
    let fsgn := fmtF 0x7D 5 [decide (sub.toNat ≤ 2), okF d, okF a, okF b]
    let fbar : Desc := { fmtFC 2 [] 0 px with delivers := true }
    (Issues s u c px fmov →
      (sub = 0 → exec (.iFmov c px sub d a) s = .next (u.after c px fmov (k.wf d.toNat (low (k.rf a.toNat))))) ∧
      (sub = 1 → exec (.iFmov c px sub d a) s = .next (u.after c px fmov (k.wf d.toNat (low (k.rg a.toNat))))) ∧
      (sub = 2 → exec (.iFmov c px sub d a) s = .next (u.after c px fmov (k.wg d.toNat (low (k.rf a.toNat)))))) ∧
    (Issues s u c px fsgn → ∃ v : W,
      (∀ j, j < top → v.getLsbD j = (k.rf a.toNat).getLsbD j) ∧ (∀ j, top < j → v.getLsbD j = false) ∧
      v.getLsbD top = (if sub = 0 then (k.rf b.toNat).getLsbD top else if sub = 1 then !(k.rf b.toNat).getLsbD top
        else (k.rf a.toNat).getLsbD top ^^ (k.rf b.toNat).getLsbD top) ∧
      exec (.iFsgn c px sub d a b) s = .next (u.after c px fsgn (k.wf d.toNat v))) ∧
    (Issues s u c px fbar → k.floats = [] ∧ exec (.iFbar c px) s = .next (u.after c px fbar k)) ∧
    (∀ cause at_, c < 96 → s.coreRuns c = true → s.beforeIssue c fbar = (u, true) → k.trap = some (cause, at_) →
      exec (.iFbar c px) s =
        .next ((u.setCore c { k with trap := none, fpia := at_.setWidth 64 }).takeEntry c 9 cause (at_.setWidth 64)
          k.pc.toNat k.pc.toNat))

/-- R358, R359, R363, R364, R366 to R369, R373: decimal arithmetic between registers. The model's choices that it rests on: logs 10 and 94. -/
def Obligations.DecimalArithmetic : Prop :=
  ∀ (s u : State) (c : Nat) (px : List Pfx) (d a b sc m : Byte),
    let k := u.core c
    let va := k.rd a.toNat
    let vb := k.rd b.toNat
    let len := (pxDlen px).getD 31
    let tri (op : Nat) : Desc := { op := op, len := 4, ok := [okF d, okF a, okF b], fl := true }
    let mono (op : Nat) : Desc := { op := op, len := 3, ok := [okF d, okF a], fl := true }
    let scl : Desc :=
      { op := 0x86, len := 5, ok := [okF d, okF a, decide (sc.toInt.natAbs ≤ 31), decide (m.toNat ≤ 2)], fl := true }
    let gtod : Desc := { op := 0x8B, len := 3, ok := [okF d, okG a], fl := true }
    let dtog : Desc := { op := 0x8C, len := 3, ok := [okG d, okF a], fl := true }
    let cmp : Desc := { op := 0x84, len := 3, ok := [okF a, okF b], fl := true }
    let div : Desc := { op := 0x83, len := 4, ok := [okF d && decide (d.toNat % 2 = 0), okF a, okF b], fl := true }
    let writes (f : Desc) (i : Bool → Instr) (minus : Bool) (mag : Nat) : Prop :=
      Issues s u c px f →
        (10 ^ len ≤ mag → k.doe = true → exec (i false) s = .next (u.raised c px f 7 1)) ∧
        (mag < 10 ^ len ∨ k.doe = false →
          ∃ k', DecResult k k' d.toNat len minus mag false ∧ exec (i false) s = .next (u.after c px f k')) ∧
        ∃ o : DecOut, exec (i true) s = .next ((u.fetched c px f).setCore c { k with dec := some o })
    let refuses (f : Desc) (i : Instr) : Prop :=
      Issues s u c px f → ∃ cause, cause ∈ [1, 2] ∧ exec i s = .next (u.raised c px f 6 cause)
    (validDr va → validDr vb →
      writes (tri 0x80) (.iDadd c px d a b) (decide (drValue va + drValue vb < 0)) (drValue va + drValue vb).natAbs ∧
      writes (tri 0x81) (.iDsub c px d a b) (decide (drValue va - drValue vb < 0)) (drValue va - drValue vb).natAbs ∧
      writes (tri 0x82) (.iDmul c px d a b) (decide (drValue va * drValue vb < 0)) (drValue va * drValue vb).natAbs ∧
      (Issues s u c px div →
        (drValue vb = 0 → exec (.iDdiv c px d a b false) s = .next (u.raised c px div 8 1)) ∧
        (drValue vb ≠ 0 →
          let q := (drValue va).natAbs / (drValue vb).natAbs
          let r := (drValue va).natAbs % (drValue vb).natAbs
          let minus : Bool := drMinus va != drMinus vb
          (10 ^ len ≤ q → k.doe = true → exec (.iDdiv c px d a b false) s = .next (u.raised c px div 7 1)) ∧
          (q < 10 ^ len ∨ k.doe = false → ∃ k' v, DecResult k k' d.toNat len minus q (decide (r ≠ 0)) ∧
            holdsDr v (drMinus va) r ∧ exec (.iDdiv c px d a b false) s = .next (u.after c px div (k'.wd (d.toNat + 1) v))))) ∧
      (Issues s u c px cmp → exec (.iDcmp c px a b false) s = .next (u.after c px cmp
        { k with
          fl := flOf (decide (drValue va < drValue vb)) (decide (drValue va = drValue vb))
            (decide (drValue va < drValue vb)) false k.fH }))) ∧
    (validDr va →
      writes (mono 0x85) (.iDnrm c px d a) (decide (drValue va < 0)) (drValue va).natAbs ∧
      (0 ≤ sc.toInt →
        writes scl (.iDscl c px d a sc m) (decide (drValue va < 0)) ((drValue va).natAbs * 10 ^ sc.toInt.toNat)) ∧
      (sc.toInt < 0 → m.toNat ≤ 2 →
        let p := 10 ^ (-sc.toInt).toNat
        let v := (drValue va).natAbs
        ∃ q, (m = 0 → q * p ≤ v ∧ v < (q + 1) * p) ∧ (m = 1 → 2 * q * p ≤ 2 * v + p ∧ 2 * v + p < 2 * (q + 1) * p) ∧
          (m = 2 → 2 * q * p ≤ 2 * v + p ∧ 2 * v ≤ 2 * q * p + p ∧
            (2 * q * p = 2 * v + p ∨ 2 * v = 2 * q * p + p → q % 2 = 0)) ∧
          writes scl (.iDscl c px d a sc m) (drMinus va) q) ∧
      (Issues s u c px dtog →
        let v := drValue va
        let fits : Prop := -(2 ^ 63 : Int) ≤ v ∧ v < (2 ^ 63 : Int)
        (¬fits → k.doe = true → exec (.iDtog c px d a false) s = .next (u.raised c px dtog 7 2)) ∧
        (fits ∨ k.doe = false → exec (.iDtog c px d a false) s = .next (u.after c px dtog
          { k.wg d.toNat (BitVec.ofInt 64 v) with
            fl := flOf false (decide (BitVec.ofInt 64 v = 0)) (BitVec.ofInt 64 v).msb
              (decide (v < -(2 ^ 63 : Int) ∨ (2 ^ 63 : Int) ≤ v)) k.fH })))) ∧
    writes gtod (.iGtod c px d a) (decide ((k.rg a.toNat).toInt < 0)) (k.rg a.toNat).toInt.natAbs ∧
    (¬validDr va →
      refuses (tri 0x80) (.iDadd c px d a b false) ∧ refuses (tri 0x81) (.iDsub c px d a b false) ∧
      refuses (tri 0x82) (.iDmul c px d a b false) ∧ refuses div (.iDdiv c px d a b false) ∧
      refuses cmp (.iDcmp c px a b false) ∧ refuses (mono 0x85) (.iDnrm c px d a false) ∧
      refuses scl (.iDscl c px d a sc m false) ∧ refuses dtog (.iDtog c px d a false))

/-- R360, R361, R365, R370 to R372: decimal fields in memory. -/
def Obligations.DecimalFieldsInMemory : Prop :=
  ∀ (s u : State) (c : Nat) (px : List Pfx) (m : MemSpec) (a : W) (unit : Option Nat),
    let k := u.core c
    let len := (pxDlen px).getD 31
    let d := m.data.toNat
    let au (op : Nat) : Desc := fmtDM op (hasPx px 5) m
    let plain (op : Nat) : Desc := fmtDM op false m
    let packed (f : Desc) (i : Nat) : Nat := ((u.fetched c px f).readByte c ((a.toNat + i) % 2 ^ 64)).toNat
    let last := len / 2
    -- the digit of a packed field at position `p` from the right
    let pdig (f : Desc) (p : Nat) : Nat := packed f (last - (p + 1) / 2) / 16 ^ ((p + 1) % 2) % 16
    let zdig (f : Desc) (p : Nat) : Nat := packed f (len - 1 - p) % 16
    let val (g : Nat → Nat) : Nat := ((List.range len).map (fun p => g p * 10 ^ p)).sum
    let pValid : Prop := (∀ p, p < len → pdig (au 0x87) p ≤ 9) ∧ 10 ≤ packed (au 0x87) last % 16 ∧
      (len % 2 = 0 → packed (au 0x87) 0 / 16 = 0)
    let zValid : Prop := (∀ p, p < len → zdig (plain 0x89) p ≤ 9) ∧
      (∀ p, 0 < p → p < len → packed (plain 0x89) (len - 1 - p) / 16 ∈ [3, 15]) ∧
      packed (plain 0x89) (len - 1) / 16 ∈ [3, 10, 11, 12, 13, 14, 15]
    1 ≤ len → len ≤ 31 →
    (Issues s u c px (au 0x87) → memEa k px m (u.nextOf c px (au 0x87)) = .ok (a, unit) →
      (u.fetched c px (au 0x87)).checkBytes (whoOf c k px) a.toNat (len / 2 + 1) false = none →
      (pValid → ∃ k', DecResult k k' d len (decide (packed (au 0x87) last % 16 ∈ [11, 13])) (val (pdig (au 0x87))) false ∧
        exec (.iDld c px m false) s = .next ((((u.fetched c px (au 0x87)).touchRead a.toNat (len / 2 + 1)).setCore c
          (k'.advanceAu unit)).ended u c px (au 0x87))) ∧
      (¬pValid → ∃ cause i, cause ∈ [1, 2, 4] ∧ i ≤ len / 2 ∧
        exec (.iDld c px m false) s = .next (u.raised c px (au 0x87) 6 cause (a + BitVec.ofNat 64 i)))) ∧
    (Issues s u c px (plain 0x89) → memEa k px m (u.nextOf c px (plain 0x89)) = .ok (a, unit) →
      (u.fetched c px (plain 0x89)).checkBytes (whoOf c k px) a.toNat len false = none →
      (zValid → ∃ k', DecResult k k' d len (decide (packed (plain 0x89) (len - 1) / 16 ∈ [11, 13]))
          (val (zdig (plain 0x89))) false ∧
        exec (.iZtod c px m false) s = .next ((((u.fetched c px (plain 0x89)).touchRead a.toNat len).setCore c
          k').ended u c px (plain 0x89))) ∧
      (¬zValid → ∃ cause i, cause ∈ [1, 3] ∧ i < len ∧
        exec (.iZtod c px m false) s = .next (u.raised c px (plain 0x89) 6 cause (a + BitVec.ofNat 64 i)))) ∧
    (∀ zoned : Bool,
      let f := if zoned then plain 0x8A else au 0x88
      let i : Instr := if zoned then .iDtoz c px m else .iDst c px m
      let n := if zoned then len else len / 2 + 1
      let v := k.rd d
      let mag := (drValue v).natAbs
      let low := mag % 10 ^ len
      let minus : Bool := drMinus v && decide (low ≠ 0)
      Issues s u c px f → memEa k px m (u.nextOf c px f) = .ok (a, unit) →
      (u.fetched c px f).checkBytes (whoOf c k px) a.toNat n true = none → validDr v →
      (10 ^ len ≤ mag → k.doe = true → exec i s = .next (u.raised c px f 7 1)) ∧
      (mag < 10 ^ len ∨ k.doe = false → ∃ bs : Bytes, bs.length = n ∧
        (zoned = false → beVal bs % 16 = (if minus then 13 else 12) ∧ beVal bs / 16 ^ (len + 1) = 0 ∧
          ∀ p, p < len → beVal bs / 16 ^ (p + 1) % 16 = low / 10 ^ p % 10) ∧
        (zoned = true → ∀ p, p < len → byteAt bs (len - 1 - p) % 16 = low / 10 ^ p % 10 ∧
          byteAt bs (len - 1 - p) / 16 = if k.fC = false then 3 else if p ≠ 0 then 15 else if minus then 13 else 12) ∧
        exec i s = .next ((((u.fetched c px f).storeLong c a.toNat bs).modCore c (fun k' =>
          { k' with
            fl := flOf (zoned && k'.fC) (decide (low = 0)) minus (decide (10 ^ len ≤ mag)) k'.fH }.advanceAu
              (if zoned then none else unit))).ended u c px f)))

/-- R374, R375 (with R366, R376 and R377): the remaining decimal instructions and DECIMAL_COMPLETE. -/
def Obligations.DecimalAdjustLuhnMoveComplete : Prop :=
  (∀ (s u : State) (c : Nat) (px : List Pfx) (d a b : Byte),
    let k := u.core c
    let dadj : Desc := { op := 0x8D, len := 3, ok := [okG d, okG a], fl := true }
    let dmov : Desc := { op := 0x8F, len := 3, ok := [okF d, okF a] }
    let luhn := fmtR3 0x8E d a b
    let n := (k.rg b.toNat).toNat
    let x (i : Nat) : Nat := ((u.fetched c px luhn).readByte c (((k.rg a.toNat).toNat + (n - 1 - i)) % 2 ^ 64)).toNat - 0x30
    let dbl (y : Nat) : Nat := if y < 5 then 2 * y else 2 * y - 9
    let s1 := ((List.range n).map (fun i => if i % 2 = 0 then dbl (x i) else x i)).sum
    let s2 := ((List.range n).map (fun i => if i % 2 = 0 then x i else dbl (x i))).sum
    (Issues s u c px dadj →
      let t0 := (k.rg a.toNat).toNat % 512
      let t1 := if k.fH = true ∨ 9 < t0 % 16 then t0 + 6 else t0
      let cy : Bool := decide (256 ≤ t0 ∨ 9 < t1 / 16 % 32)
      let r := (if cy then t1 + 0x60 else t1) % 256
      exec (.iDadj c px d a) s = .next (u.after c px dadj
        { k.wg d.toNat (BitVec.ofNat 64 r) with fl := flOf cy (decide (r = 0)) false false false })) ∧
    (Issues s u c px dmov → exec (.iDmov c px d a) s = .next (u.after c px dmov (k.wd d.toNat (k.rd a.toNat)))) ∧
    (Issues s u c px luhn →
      (n = 0 ∨ 64 < n → exec (.iLuhn c px d a b) s = .next (u.raised c px luhn 1 5)) ∧
      (1 ≤ n → n ≤ 64 → (u.fetched c px luhn).checkBytes (whoOf c k px) (k.rg a.toNat).toNat n false = none →
        let byte (i : Nat) : Nat := ((u.fetched c px luhn).readByte c (((k.rg a.toNat).toNat + i) % 2 ^ 64)).toNat
        ((∀ i, i < n → 0x30 ≤ byte i ∧ byte i ≤ 0x39) →
          exec (.iLuhn c px d a b) s = .next ((((u.fetched c px luhn).touchRead (k.rg a.toNat).toNat n).setCore c
            { k.wg d.toNat (BitVec.ofNat 64 ((10 - s1 % 10) % 10)) with
              fl := flOf k.fC (decide (s2 % 10 = 0)) k.fN k.fV k.fH }).ended u c px luhn)) ∧
        (∀ i, i < n → (byte i < 0x30 ∨ 0x39 < byte i) → (∀ j, j < i → 0x30 ≤ byte j ∧ byte j ≤ 0x39) →
          exec (.iLuhn c px d a b) s = .next (u.raised c px luhn 6 1 (k.rg a.toNat + BitVec.ofNat 64 i)))))) ∧
  (∀ (s : State) (c mismatches : Nat) (o : DecOut), c < 96 → s.coreRuns c = true → (s.core c).dec = some o →
    let n := if o.op = .cmp ∨ o.op = .ld ∨ o.op = .ztod then 0 else mismatches
    let s' := if n = 0 then s else
      (s.setCore c { s.core c with residue := (s.core c).residue + n }).logCorrected (benchOf c) 1 c
    let k := s'.core c
    let t := s'.setCore c { k with dec := none }
    (3 ≤ n → exec (.decimalComplete c mismatches) s = .next (s.checkStop c)) ∧
    (n < 3 → k.dec = some o →
      (∀ t', decBody c o t (k.pc.toNat + o.len) = .next t' → exec (.decimalComplete c mismatches) s =
        .next (t'.setCore c ((t'.core c).ended k.pc.toNat (k.pc.toNat + o.len)))) ∧
      (∀ e, decBody c o t (k.pc.toNat + o.len) = .exc e → exec (.decimalComplete c mismatches) s =
        .next (t.takeEntry c e.vec e.cause e.g2 k.pc.toNat k.pc.toNat))))

/-- R379 to R383: the string instructions other than SEDT. The model's choices that it rests on: log 23. -/
def Obligations.StringInstructions : Prop :=
  (∀ (s u : State) (c : Nat) (px : List Pfx) (d a b e : Byte) (intr : Option Nat)
    (r : Desc × (Option Nat → Instr) × StrOp × (State → Bool → Core → Core)),
    let k := u.core c
    let w := whoOf c k px
    let scan : Desc :=
      { op := 0xA3, len := 5, fl := true
        ok := [okG d, okG a && d != a, okG b && d != b && a != b, okG e && e != d && e != a && e != b] }
    let rows : List (Desc × (Option Nat → Instr) × StrOp × (State → Bool → Core → Core)) :=
      [({ fmtStr 0xA0 d a b with fl := false }, .iSmov c px d a b, smovOp c px w d a b, fun _ _ k => k),
        (fmtStr 0xA1 d a b, .iScmp c px d a b, scmpOp c px w d a b, fun t hit k =>
          let less : Bool := hit && decide ((t.readByte c (k.rg d.toNat).toNat).toNat < (t.readByte c (k.rg a.toNat).toNat).toNat)
          { k with fl := flOf less (!hit) less false k.fH }),
        ({ fmtStr 0xA2 d a b with fl := false }, .iSxlt c px d a b, sxltOp c px w d a b, fun _ _ k => k),
        (scan, .iSscn c px d a b e, sscnOp c px w d a b e, fun _ hit k => { k with fl := flOf k.fC (!hit) k.fN k.fV k.fH }),
        (fmtStr 0xA4 d a b, .iSfnd c px d a b, sfndOp c px w d a b, fun _ hit k =>
          { k with fl := flOf k.fC (!hit) k.fN k.fV k.fH })]
    let f := r.1
    let o := r.2.2.1
    let t := u.fetched c px f
    let n := (k.rg b.toNat).toNat
    let m := min (64 - (k.rg d.toNat).toNat % 64) n
    let ends (x : State) : State :=
      (x.modCore c (fun k' => { r.2.2.2 x (decide (k'.rg b.toNat ≠ 0)) k' with ssr := 0 })).ended u c px f
    let active (x : State) : State := x.modCore c (fun k' =>
      { k' with ssr := (k'.ssr &&& 0xFFFFFFFFFFFF0000) ||| BitVec.ofNat 64 (1 + 256 * f.op) })
    r ∈ rows → Issues s u c px f → (f.op = 0xA2 ∨ f.op = 0xA3 → tableCheck c px a b t = none) →
    (f.op = 0xA4 → (k.rg a.toNat).toNat < 256) →
    (n = 0 → exec (r.2.1 intr) s = .next (ends t)) ∧
    (0 < n → (∀ i j, i ≤ j → j < n → j < i + 64 → (o.bytes i t).2 = false → o.check (o.bytes i t).1 (j - i) = none) →
      exec (r.2.1 none) s = .next (ends (o.bytes n t).1)) ∧
    (∀ j x, j < m → (∀ i, i < j → o.check t i = none) → o.check t j = some x → (o.bytes j t).2 = false →
      exec (r.2.1 intr) s = .next ((active (o.bytes j t).1).takeEntry c x.vec x.cause x.g2 (u.pcOf c) (u.pcOf c))) ∧
    (m < n → (∀ i, i < m → o.check t i = none) → (o.bytes m t).2 = false →
      exec (r.2.1 (some 1)) s = .next (active (o.bytes m t).1))) ∧
  (∀ (t : State) (c : Nat) (px : List Pfx) (w : Who) (d a b e : Byte),
    let k := t.core c
    let x := t.readByte c (k.rg d.toNat).toNat
    let at_ : W := k.rg a.toNat + x.setWidth 64
    let both (s : State) : State := s.modCore c (fun k =>
      ((k.wg d.toNat (k.rg d.toNat + 1)).wg a.toNat ((k.wg d.toNat (k.rg d.toNat + 1)).rg a.toNat + 1)).wg b.toNat
        (((k.wg d.toNat (k.rg d.toNat + 1)).wg a.toNat ((k.wg d.toNat (k.rg d.toNat + 1)).rg a.toNat + 1)).rg b.toNat - 1))
    let one (s : State) : State := s.modCore c (fun k =>
      (k.wg d.toNat (k.rg d.toNat + 1)).wg b.toNat ((k.wg d.toNat (k.rg d.toNat + 1)).rg b.toNat - 1))
    let seen := t.afterRead (k.rg d.toNat).toNat 1
    (smovOp c px w d a b).step t =
      (both ((t.afterRead (k.rg a.toNat).toNat 1).storeBytes c (k.rg d.toNat).toNat [t.readByte c (k.rg a.toNat).toNat]),
        false) ∧
    (seen.readByte c (k.rg a.toNat).toNat = x → (scmpOp c px w d a b).step t =
      (both (seen.afterRead (k.rg a.toNat).toNat 1), false)) ∧
    (seen.readByte c (k.rg a.toNat).toNat ≠ x → (scmpOp c px w d a b).step t =
      (seen.afterRead (k.rg a.toNat).toNat 1, true)) ∧
    (sxltOp c px w d a b).step t =
      (one ((seen.afterRead at_.toNat 1).storeBytes c (k.rg d.toNat).toNat [seen.readByte c at_.toNat]), false) ∧
    (seen.readByte c at_.toNat = 0 → (sscnOp c px w d a b e).step t = (one (seen.afterRead at_.toNat 1), false)) ∧
    (seen.readByte c at_.toNat ≠ 0 → (sscnOp c px w d a b e).step t =
      ((seen.afterRead at_.toNat 1).modCore c (fun k => k.wg e.toNat ((seen.readByte c at_.toNat).setWidth 64)), true)) ∧
    (sfndOp c px w d a b).step t = (if x.toNat = (k.rg a.toNat).toNat then (seen, true) else (one seen, false)))

/-- R382, R386 to R390: SEDT. The model's choices that it rests on: log 23. -/
def Obligations.EditInstruction : Prop :=
  (∀ (s u : State) (c : Nat) (px : List Pfx) (d a b : Byte) (intr : Option Nat),
    let f : Desc := { op := 0xA5, len := 4, ok := [okG d, okG a && d != a, okF b], fl := true }
    let k := u.core c
    let w := whoOf c k px
    let t := u.fetched c px f
    let src := k.rd b.toNat
    let pa := k.rg a.toNat
    let n := (t.readByte c pa.toNat).toNat
    let ovf : Bool := decide (10 ^ n ≤ (drValue src).natAbs)
    let e : Edit :=
      { left := n, sig := false, floatSet := false, floatDone := false, ovf := ovf, fill := 0x20, floatC := 0, count := 1 }
    let begun := (t.touchRead pa.toNat 1).setCore c { k.wg a.toNat (pa + 1) with ssr := e.ssr }
    Issues s u c px f → validDr src → (k.ssr.getLsbD 0 = false ∨ k.ssr.toNat / 256 % 256 ≠ 0xA5) →
    t.checkBytes w pa.toNat 1 false = none →
    (n = 0 ∨ 31 < n → exec (.iSedt c px d a b intr) s = .next (u.raised c px f 6 5 pa)) ∧
    (1 ≤ n → n ≤ 31 → ovf = true → k.doe = true → exec (.iSedt c px d a b intr) s = .next (u.raised c px f 7 1)) ∧
    (1 ≤ n → n ≤ 31 → (ovf = false ∨ k.doe = false) →
      (∀ t' e', editRun c w d.toNat a.toNat src 1025 intr begun e = (.done t', e') →
        exec (.iSedt c px d a b intr) s = .next (t'.ended u c px f)) ∧
      (∀ t' e', editRun c w d.toNat a.toNat src 1025 intr begun e = (.more t', e') →
        exec (.iSedt c px d a b intr) s = .next (t'.modCore c (fun k => { k with ssr := e'.ssr }))) ∧
      (∀ t' x e', editRun c w d.toNat a.toNat src 1025 intr begun e = (.stop t' x, e') →
        exec (.iSedt c px d a b intr) s = .next ((t'.modCore c (fun k => { k with ssr := e'.ssr })).takeEntry c x.vec x.cause
          x.g2 (u.pcOf c) (u.pcOf c))))) ∧
  (∀ (t t' : State) (c d a : Nat) (w : Who) (src : BitVec 128) (e e' : Edit),
    editUnit c w d a src t e = (.done t', e') →
    e.left = 0 ∧ t.readByte c ((t.core c).rg a).toNat = 0 ∧
    (t'.core c).rg a = (if a < 32 then (t.core c).rg a + 1 else 0) ∧ (t'.core c).ssr = 0 ∧
    (t'.core c).fl = flOf false (decide (drMag src = 0)) (decide (drValue src < 0)) e.ovf (t.core c).fH) ∧
  (∀ (t : State) (c d a : Nat) (w : Who) (src : BitVec 128) (e e' : Edit) (x : Exn) (fc dig : Byte),
    let pa := (t.core c).rg a
    let at_ := (t.core c).rg d
    let code := (t.readByte c pa.toNat).toNat
    t.checkBytes w pa.toNat 1 false = none → code = 1 ∨ code = 2 → e.count < 1024 →
    editAct src e code (t.readByte c (pa + 1).toNat) (t.readByte c (pa + 2).toNat) = .emit [fc, dig] e' →
    t.checkBytes w at_.toNat 1 true = none → t.checkBytes w (at_ + 1).toNat 1 true = some x →
    editUnit c w d a src t e = (.stop (((t.touchRead pa.toNat 1).storeBytes c at_.toNat [fc]).modCore c
      (fun k => k.wg d (at_ + 1))) x, { e with floatDone := true })) ∧
  (∀ (src : BitVec 128) (e : Edit) (code : Nat) (p1 p2 : Byte), code < 256 →
    let x := src.toNat / 16 ^ e.left % 16
    let shown (sig : Bool) : EditAct :=
      let sig := sig || decide (x ≠ 0)
      let e := { e with left := e.left - 1, sig := sig }
      if sig = false then .emit [e.fill] e
      else if e.floatSet = true ∧ e.floatDone = false then .emit [e.floatC, BitVec.ofNat 8 (0x30 + x)] { e with floatDone := true }
      else .emit [BitVec.ofNat 8 (0x30 + x)] e
    (code = 0 → editAct src e code p1 p2 = if e.left = 0 then .finish else .invalid) ∧
    (code = 1 → editAct src e code p1 p2 = if e.left = 0 then .invalid else shown e.sig) ∧
    (code = 2 → editAct src e code p1 p2 = if e.left = 0 then .invalid else shown true) ∧
    (code = 3 → editAct src e code p1 p2 = .emit [] { e with fill := p1 }) ∧
    (code = 4 → editAct src e code p1 p2 = .emit [if drValue src < 0 then p2 else p1] e) ∧
    (code = 5 → editAct src e code p1 p2 = .emit [] { e with floatC := p1, floatSet := true, floatDone := false }) ∧
    (code = 6 → editAct src e code p1 p2 = .emit [p1] e) ∧
    (7 ≤ code → code < 0x20 → editAct src e code p1 p2 = .invalid) ∧
    (0x20 ≤ code → editAct src e code p1 p2 = .emit [if e.sig then BitVec.ofNat 8 code else e.fill] e))

/-- R286, R288, R289, R292, R298, R310, R314: system registers, storage keys, fences. The model's choices that it rests on: logs 10, 16 and 18. -/
def Obligations.SystemRegistersKeysAndFences : Prop :=
  (∀ (s u : State) (c : Nat) (px : List Pfx) (d n : Byte),
    let f := fmtSys [okG d, sysNamed n.toNat] n.toNat px
    let k := u.core c
    let i := n.toNat
    let l := k.lvl ((i - 0x10) / 4)
    let au := k.au ((i - 0x20) / 8)
    let named : List (Nat × W) :=
      [(0, k.fl), (1, k.fcsr.setWidth 64), (2, k.mlo), (3, k.mhi), (4, k.mst), (5, k.ssr), (6, k.fpia), (7, k.baseb),
        (8, k.mode), (9, k.tsbp), (10, k.vtb),
        (11, BitVec.ofNat 64 (c + 256 * (c / 24) + 65536 * (k.position.getD (c % 24))))]
    Issues s u c px f →
      ((i = 9 ∨ i = 10) → k.mode.toNat % 4 = 0 → exec (.iMfsr c px d n) s = .next (u.raised c px f 10 3)) ∧
      (¬((i = 9 ∨ i = 10) ∧ k.mode.toNat % 4 = 0) →
        (∀ v, (i, v) ∈ named → exec (.iMfsr c px d n) s = .next (u.after c px f (k.wg d.toNat v))) ∧
        (0x10 ≤ i → i < 0x20 → exec (.iMfsr c px d n) s = .next (u.after c px f (k.wg d.toNat
          (if i % 4 = 0 then l.ls else if i % 4 = 1 then l.le else if i % 4 = 2 then l.lc.setWidth 64
            else l.lf.setWidth 64)))) ∧
        (0x20 ≤ i → exec (.iMfsr c px d n) s = .next (u.after c px f (k.wg d.toNat
          (if i % 8 = 0 then au.base else if i % 8 = 1 then au.length else if i % 8 = 2 then au.index
            else if i % 8 = 3 then au.step.setWidth 64 else au.mode.setWidth 64)))) ∧
        (i = 12 → ∃ more : Nat, more < 2 ^ 56 ∧ exec (.iMfsr c px d n) s =
          .next ((((u.fetched c px f).nextFree).setCore c
            { k.wg d.toNat (BitVec.ofNat 64 (k.retired - k.cycFrom + k.cycMore + more)) with
              cycMore := k.cycMore + more }).ended u c px f)) ∧
        (i = 13 → ∃ v : Nat, k.lastLt ≤ v ∧ (v ≤ u.time.ns ∨ v = k.lastLt) ∧ u.time.ns ≤ v + 20 ∧
          exec (.iMfsr c px d n) s = .next ((((u.fetched c px f).nextFree).setCore c
            { k.wg d.toNat (BitVec.ofNat 64 v) with lastLt := v % 2 ^ 64 }).ended u c px f)))) ∧
  (∀ (s u : State) (c : Nat) (px : List Pfx) (a n : Byte),
    let f := fmtSys [okG a, sysWritable n.toNat] n.toNat px
    let k := u.core c
    let i := n.toNat
    let v := k.rg a.toNat
    let level := k.mode.toNat % 4
    let allDirty : W := 0xF0000
    let low : Bool := decide ((i = 8 ∨ i = 9) ∧ level = 0 ∨ i = 10 ∧ level < 2)
    let bad : Bool :=
      match i with
      | 0 => decide (32 ≤ v.toNat)
      | 1 => v &&& 0xFFFFFFFFFFF8E0E0 != 0
      | 5 => decide (v.toNat / 2 % 128 ≠ 0)
      | 7 => decide (2 ^ 48 ≤ v.toNat)
      | 8 => v &&& 0xFFFFFFFFF0F00C0C != 0 || decide (v.toNat % 4 = 3)
      | 9 => decide (2 ^ 48 ≤ v.toNat ∨ v.toNat % 1024 ≠ 0)
      | 10 => decide (2 ^ 48 ≤ v.toNat ∨ v.toNat % 512 ≠ 0)
      | _ => decide (0x10 ≤ i ∧ i < 0x20 ∧ (i % 4 = 2 ∧ 2 ^ 32 ≤ v.toNat ∨ i % 4 = 3 ∧ 2 ≤ v.toNat))
    let toMachine : Bool := decide (i = 8 ∧ level < 2 ∧ v.toNat % 4 = 2)
    let L := (i - 0x10) / 4
    let l := k.lvl L
    let U := (i - 0x20) / 8
    let au := k.au U
    let written : Core :=
      match i with
      | 0 => { k with fl := v }
      | 1 => { k with fcsr := v.setWidth 32 }
      | 2 => { k with mlo := v }
      | 3 => { k with mhi := v }
      | 5 => { k with ssr := v }
      | 7 => { k with baseb := v }
      | 8 => { k with mode := (v &&& ~~~allDirty) ||| (k.mode &&& allDirty) }
      | 9 => { k with tsbp := v, mode := k.mode ||| allDirty }
      | 10 => { k with vtb := v }
      | _ =>
        if i < 0x20 then
          k.wl L (if i % 4 = 0 then { l with ls := v } else if i % 4 = 1 then { l with le := v }
            else if i % 4 = 2 then { l with lc := v.setWidth 32 } else { l with lf := v.setWidth 32 })
        else
          k.wau U (if i % 8 = 0 then { au with base := v } else if i % 8 = 1 then { au with length := v }
            else if i % 8 = 2 then { au with index := v } else if i % 8 = 3 then { au with step := v.setWidth 32 }
            else { au with mode := v.setWidth 32 })
    Issues s u c px f →
      (low = true → exec (.iMtsr c px a n) s = .next (u.raised c px f 10 3)) ∧
      (low = false → bad = true → exec (.iMtsr c px a n) s = .next (u.raised c px f 1 5)) ∧
      (low = false → bad = false → toMachine = true → exec (.iMtsr c px a n) s = .next (u.raised c px f 10 6)) ∧
      (low = false → bad = false → toMachine = false →
        exec (.iMtsr c px a n) s = .next (if i = 8
          then (((u.fetched c px f).setCore c written).evalEvc (c / 24)).ended u c px f
          else u.after c px f written))) ∧
  (∀ (s u : State) (c : Nat) (px : List Pfx) (a b : Byte),
    let kset := fmtFC 4 [okG a, okG b] 1 px
    let k := u.core c
    let addr := k.rg a.toNat
    let v := k.rg b.toNat
    let place := regionOf addr.toNat
    let old := u.frameWord (addr.toNat / 4096)
    let new : FrameWord :=
      { key := if v.getLsbD 24 then v.setWidth 4 else old.key
        guard_ := if v.getLsbD 25 then v.getLsbD 8 else old.guard_
        accessed := if v.getLsbD 26 then v.getLsbD 16 else old.accessed
        written := if v.getLsbD 27 then v.getLsbD 17 else old.written }
    Issues s u c px kset →
      (v &&& 0xFFFFFFFFF0FCFEF0 ≠ 0 → exec (.iKset c px a b) s = .next (u.raised c px kset 1 5)) ∧
      (v &&& 0xFFFFFFFFF0FCFEF0 = 0 →
        (2 ^ 48 ≤ addr.toNat → exec (.iKset c px a b) s = .next (u.raised c px kset 3 2 addr)) ∧
        (addr.toNat < 2 ^ 48 → place ∉ [Region.ext, Region.fw, Region.pool] →
          exec (.iKset c px a b) s = .next (u.raised c px kset 3 1 addr)) ∧
        (place = .fw → k.mode.toNat % 4 < 2 → exec (.iKset c px a b) s = .next (u.raised c px kset 4 5 addr)) ∧
        (place ∈ [Region.ext, Region.pool] ∨ (place = .fw ∧ 2 ≤ k.mode.toNat % 4) →
          (∀ i, addr.toNat / 4096 ≠ i → ∀ w, ((u.fetched c px kset).setFrame (addr.toNat / 4096) w).frameWord i =
            (u.fetched c px kset).frameWord i) ∧
          (v.toNat / 2 ^ 24 % 16 = 0 → exec (.iKset c px a b) s = .next (u.after c px kset k)) ∧
          ((u.fetched c px kset).frameWord (addr.toNat / 4096) = old → v.toNat / 2 ^ 24 % 16 ≠ 0 →
            exec (.iKset c px a b) s =
              .next (((u.fetched c px kset).setFrame (addr.toNat / 4096) new).ended u c px kset))))) ∧
  (∀ (s u : State) (c : Nat) (px : List Pfx) (d a ty : Byte),
    let kget := fmtFC 4 [okG d, okG a] 1 px
    let k := u.core c
    let addr := k.rg a.toNat
    let w := (u.fetched c px kget).frameWord (addr.toNat / 4096)
    (Issues s u c px kget →
      (addr.toNat < 2 ^ 48 → regionOf addr.toNat ∉ [Region.ext, Region.fw, Region.pool] →
        exec (.iKget c px d a) s = .next (u.raised c px kget 3 1 addr)) ∧
      (2 ^ 48 ≤ addr.toNat → exec (.iKget c px d a) s = .next (u.raised c px kget 3 2 addr)) ∧
      (addr.toNat < 2 ^ 48 → regionOf addr.toNat ∈ [Region.ext, Region.fw, Region.pool] →
        exec (.iKget c px d a) s = .next (u.after c px kget (k.wg d.toNat (BitVec.ofNat 64
          (w.key.toNat + 256 * w.guard_.toNat + 65536 * w.accessed.toNat + 131072 * w.written.toNat)))))) ∧
    (Issues s u c px (fmtFC 3 [decide (ty.toNat ≤ 4)] 0 px) →
      exec (.iFence c px ty) s = .next (u.after c px (fmtFC 3 [decide (ty.toNat ≤ 4)] 0 px) k)) ∧
    (Issues s u c px (fmtFC 2 [] 0 px) → exec (.iIsync c px) s = .next (u.after c px (fmtFC 2 [] 0 px) k)))

/-- R290, R291, R392, R394 to R398: entry. The model's choices that it rests on: logs 12, 24 and 25. -/
def Obligations.ExceptionEntry : Prop :=
  ∀ (s : State) (c vec cause hl pc at_ : Nat) (g2 : W) (t : Bytes),
    let k := s.core c
    let r := s.takeEntry c vec cause g2 pc at_
    let k' := r.core c
    let tsb := k.tsbp.toNat
    let kept : W := 0xFFFFFFFFF0F0FFFF
    1 ≤ vec → vec ≤ 31 → cause < 256 → pc < 2 ^ 64 → Quiet s c → EntryReady s c vec hl t →
    tsbField (r.rawRead c tsb 0x3A0) 0x360 8 = pc ∧
    tsbField (r.rawRead c tsb 0x3A0) 0x368 8 = k.fl.toNat % 32 + 256 * (k.mst.toNat % 65536) + 2 ^ 32 * k.fcsr.toNat ∧
    tsbField (r.rawRead c tsb 0x3A0) 0x370 8 = k.mode.toNat ∧
    tsbField (r.rawRead c tsb 0x3A0) 0x378 8 = k.mlo.toNat ∧
    tsbField (r.rawRead c tsb 0x3A0) 0x380 8 = k.mhi.toNat ∧
    tsbField (r.rawRead c tsb 0x3A0) 0x388 8 = k.ssr.toNat ∧
    tsbField (r.rawRead c tsb 0x3A0) 0x390 8 = k.fpia.toNat ∧
    tsbField (r.rawRead c tsb 0x3A0) 0x398 8 = k.baseb.toNat ∧
    (∀ i, i < 32 → tsbField (r.rawRead c tsb 0x3A0) (8 * i) 8 = (k.rg i).toNat) ∧
    k'.pc.toNat = tsbField t 0x360 8 ∧
    k'.mode &&& kept = (BitVec.ofNat 64 (tsbField t 0x370 8) &&& kept) ∧
    k'.mode.toNat / 2 ^ 24 % 16 = hl ∧ k'.mode.toNat / 2 ^ 16 % 16 = 15 ∧
    k'.fl.toNat = tsbField t 0x368 8 % 32 ∧
    k'.mlo.toNat = tsbField t 0x378 8 ∧ k'.mhi.toNat = tsbField t 0x380 8 ∧
    k'.tsbp.toNat = 0x002000004000 + 0x400 * hl ∧ k'.vtb = k.vtb ∧
    (k'.rg 0).toNat = vec + 256 * cause + 65536 * (k.mode.toNat % 4) + 2 ^ 20 * (k.mode.toNat / 2 ^ 24 % 16) +
      (if k.ssr.getLsbD 0 then 2 ^ 26 else 0) ∧
    (k'.rg 1).toNat = tsb ∧ k'.rg 2 = g2 ∧ k'.rg 3 = 0 ∧
    (∀ i, 4 ≤ i → i < 32 → (k'.rg i).toNat = tsbField t (8 * i) 8) ∧
    (∀ c', c' ≠ c → r.core c' = s.core c') ∧
    r = { s with mem := r.mem, keys := r.keys, cores := r.cores }

/-- R393, R401, R402, R404: TRAP, RETT and EVENT_ENTRY. The model's choices that it rests on: logs 15 and 17. -/
def Obligations.TrapReturnAndEventEntry : Prop :=
  (∀ (s u : State) (c : Nat) (px : List Pfx) (n : Byte),
    let f := fmtFC 3 [decide (n.toNat ≤ 15)] 0 px
    let k := u.core c
    let start := u.pcOf c
    let stepped := (u.fetched c px f).setCore c (k.endCheck 5 start (u.nextOf c px f))
    Issues s u c px f → k.trap = none → k.floats = [] → k.muldiv = none →
    exec (.iTrap c px n) s = .next ((stepped.takeEntry c (16 + n.toNat) 0 0 (stepped.core c).pc.toNat start).modCore c
      (fun k => { k with retired := k.retired + 1, uwait := none }))) ∧
  (∀ (s u : State) (c : Nat) (px : List Pfx),
    let f := fmtRett px
    let t := u.fetched c px f
    let k := u.core c
    let a := k.tsbp.toNat
    let b := t.rawRead c a 0x3A0
    let mode := tsbField b 0x370 8
    let pc := tsbField b 0x360 8
    let level := k.mode.toNat % 4
    let reserved : Bool := BitVec.ofNat 64 mode &&& 0xFFFFFFFFF0F00C0C != 0 || decide (mode % 4 = 3)
    let quarters := [0, 0x100, 0x200, 0x300]
    Issues s u c px f → a < 2 ^ 48 →
      (∀ o ∈ quarters, (∀ p ∈ quarters, p < o → t.checkAt c 0 level (a + p) false = none) → ∀ vec cause,
        t.checkAt c 0 level (a + o) false = some (vec, cause) →
        exec (.iRett c px) s = .next (u.raised c px f vec (if vec = 3 then 1 else 2) (BitVec.ofNat 64 (a + o)))) ∧
      ((∀ o ∈ quarters, t.checkAt c 0 level (a + o) false = none) → t.poisoned = [] →
        (reserved = true → exec (.iRett c px) s = .next (u.raised c px f 1 5)) ∧
        (reserved = false → level < mode % 4 → exec (.iRett c px) s = .next (u.raised c px f 10 5)) ∧
        (reserved = false → mode % 4 ≤ level → 2 ^ 48 ≤ pc →
          exec (.iRett c px) s = .next (u.raised c px f 3 3 (BitVec.ofNat 64 pc))) ∧
        (reserved = false → mode % 4 ≤ level → pc < 2 ^ 48 → k.queue = [] → (u.evc (c / 24)).order = [] →
          ∃ (k' : Core) (keys : Tbl FrameWord), exec (.iRett c px) s = .next ({ t with keys := keys }.setCore c k') ∧
            k'.pc.toNat = pc ∧
            k'.mode = (BitVec.ofNat 64 mode &&& 0xFFFFFFFFFFF0FFFF) ∧ k'.fl.toNat = tsbField b 0x368 8 % 32 ∧
            k'.fcsr = (BitVec.ofNat 32 (tsbField b 0x36C 4) &&& 0x00071F1F) ∧
            k'.mlo.toNat = tsbField b 0x378 8 ∧ k'.mhi.toNat = tsbField b 0x380 8 ∧
            k'.fpia.toNat = tsbField b 0x390 6 ∧ k'.baseb.toNat = tsbField b 0x398 6 ∧
            k'.ssr = (BitVec.ofNat 64 (tsbField b 0x388 8) &&& 0xFFFFFFFFFFFFFF01) ∧
            (∀ i, i < 32 → (k'.rg i).toNat = tsbField b (8 * i) 8) ∧
            (∀ i, i < 16 → (k'.rd i).toNat = if mode / 2 ^ 12 % 2 = 1 then tsbField b (0x100 + 16 * i) 16 else 0) ∧
            (∀ i, i < 16 → (k'.rf i).toNat = if mode / 2 ^ 13 % 2 = 1 then tsbField b (0x200 + 8 * i) 8 else 0) ∧
            (∀ i, i < 4 → (k'.lvl i).lc.toNat = if mode / 2 ^ 14 % 2 = 1 then tsbField b (0x290 + 24 * i) 4 else 0) ∧
            (∀ i, i < 4 → (k'.au i).index.toNat = if mode / 2 ^ 15 % 2 = 1 then tsbField b (0x2F0 + 32 * i) 8 else 0) ∧
            k'.esc = false ∧ k'.tsbp = k.tsbp ∧ k'.vtb = k.vtb ∧ k'.mst = k.mst ∧
            (slotOfTsb a = none → k'.slots = k.slots) ∧
            (∀ i, slotOfTsb a = some i → (k.slot i).item.isSome = true → (k.slot i).st ≠ .ended →
              k'.slot i = { k.slot i with st := .running, wait := 0 }) ∧
            k'.loc = k.loc ∧ k'.retired = k.retired + 1))) ∧
  (∀ (s : State) (c : Nat), c < 96 →
    let r := s.completeLate c
    let k := r.1.core c
    (s.coreRuns c = false → exec (.eventEntry c) s = .next s) ∧
    (s.coreRuns c = true → r.2 = false → exec (.eventEntry c) s = .next r.1) ∧
    (s.coreRuns c = true → r.2 = true → k.eventDue = true → k.staged = false →
      exec (.eventEntry c) s = .next (r.1.takeEntry c 32 0 0 k.pc.toNat k.pc.toNat)) ∧
    (s.coreRuns c = true → r.2 = true → k.eventDue = false ∨ k.staged = true → exec (.eventEntry c) s = .next s) ∧
    ((s.core c).load = none → (s.core c).dec = none → r = (s, true)))

/-- R216, R219, R221, R223, R224, R226 to R228: TAKE, POST, EMIT. The model's choices that it rests on: logs 47, 56 and 57. -/
def Obligations.TakePostEmit : Prop :=
  (∀ (s u : State) (c : Nat) (px : List Pfx),
    let f := fmtWorkAt 1 px
    let t := u.fetched c px f
    let k := u.core c
    let n := (k.rg 1).toNat
    let b := c / 24
    let base := 0x002000008000 + 0x3000 * n
    Issues s u c px f →
      (7 < n ∨ (k.slot n).st ≠ .free → exec (.iTake c px) s = .next (u.raised c px f 1 5)) ∧
      (n ≤ 7 → (k.slot n).st = .free →
        ((∀ i ∈ u.items, (i.ready && i.bench == b) = false) ∨ k.parkFrom ≠ none →
          exec (.iTake c px) s = .next (u.after c px f
            { k.wg 0 0 with fl := flOf k.fC true k.fN k.fV k.fH })) ∧
        (∀ (i : Item) (g : Gen), k.parkFrom = none → i ∈ u.items → i.ready = true → i.bench = b →
          (∀ x ∈ u.items, x.ready = true → x.bench = b → x = i ∨ i.deadline < x.deadline ∨ (i.deadline = x.deadline ∧ i.jsn < x.jsn)) →
          u.itemGen i = some g →
          ∃ (t1 : State) (rec tsb : Bytes), exec (.iTake c px) s = .next ((t1.modCore c (fun k' =>
              { k'.wg 0 1 with fl := flOf k'.fC false k'.fN k'.fV k'.fH })).ended u c px f) ∧
            t1 = ((((((if i.kind = .expiry then ((t.rawWrite c base tsb).rawWrite c (base + 0x400) rec).rawWrite c (base + 0x480)
                (W512.bytes i.context) else (t.rawWrite c base tsb).rawWrite c (base + 0x400) rec).modCore c (fun k' =>
                  k'.wslot n { tags := (k'.slot n).tags, st := .ready, item := some (i.stream, i.jsn), turnLimit := g.turn * 1000 })).modItem i.stream i.jsn
                (fun x => { x with state := .running, ready := false })).modBench b (fun x => { x with taken := x.taken + 1 }))).workReady b) ∧
            rec.length = 128 ∧ tsbField rec 0 8 = i.jsn % 2 ^ 64 ∧ tsbField rec 8 8 = i.stamp % 2 ^ 64 ∧
            tsbField rec 16 8 = i.deadline % 2 ^ 64 ∧ tsbField rec 24 8 = i.orderKey.toNat ∧
            tsbField rec 32 8 = i.progArg.toNat ∧ tsbField rec 40 8 = i.userTag.toNat ∧ tsbField rec 48 4 = i.date.toNat ∧
            tsbField rec 52 2 = i.channel % 2 ^ 16 ∧ tsbField rec 54 2 = i.run % 2 ^ 16 ∧
            tsbField rec 56 1 = (if i.kind = .message then 1 else 2) ∧ tsbField rec 58 1 = n ∧ tsbField rec 60 4 = i.len % 2 ^ 32 ∧
            tsbField rec 76 4 = g.gen % 2 ^ 32 ∧
            tsb.length = 0x400 ∧ tsbField tsb 0x360 8 = (g.codeAt + g.entry) % 2 ^ 64 ∧
            tsbField tsb 0x370 8 = (g.key * 16 + 0xF000) % 2 ^ 64 ∧ tsbField tsb 8 8 = base + 0x400 ∧
            tsbField tsb 0xF8 8 = base + 0x3000))) ∧
  (∀ (s u : State) (c : Nat) (px : List Pfx) (i : Item),
    let f := fmtWork s c px
    let t := u.fetched c px f
    let k := u.core c
    Issues s u c px f → t.openSlot = t → t.runningItem c = some i → i.state ≠ .ended →
    (k.runningSlot.any (fun n => (k.slot n).tags != 0) = true →
      exec (.iPost c px) s = .next (t.modCore c (fun k' => { k' with wait := .engines }))) ∧
    (k.runningSlot.any (fun n => (k.slot n).tags != 0) = false → t.appendOk i.stream 64 true = false →
      exec (.iPost c px) s = .next (t.modCore c (fun k' => { k' with wait := .append }))) ∧
    (k.runningSlot.any (fun n => (k.slot n).tags != 0) = false → t.appendOk i.stream 64 true = true →
      let status := if t.failing then 0x0303 else 0
      exec (.iPost c px) s = .next ((((((t.endItem i.stream i.jsn status ((k.rg 1).toNat % 2 ^ 32)).modCore c (fun k' =>
        match k'.runningSlot with
        | none => k'
        | some j => k'.wslot j { k'.slot j with st := .ended })).settle)).modCore c (fun k' =>
          { k'.wg 0 (BitVec.ofNat 64 status) with fl := flOf k'.fC (status == 0) k'.fN k'.fV k'.fH })).ended u c px f))) ∧
  (∀ (s u : State) (c win : Nat) (px : List Pfx) (i : Item),
    let f := fmtWork s c px
    let k := u.core c
    let dest := (k.rg 1).toNat
    let a := (k.rg 2).toNat
    let n := (k.rg 3).toNat
    let t := (u.fetched c px f).touchRead a n
    let body := (u.fetched c px f).readBytes c a n
    let g := (n + 255) / 256
    let e : Emit := { idx := i.emits.length, ch := dest, jsn := t.nextJsn i.stream, len := n, win := win, granules := g }
    Issues s u c px f → t.openSlot = t → t.runningItem c = some i → i.state ≠ .ended →
    1 ≤ n → n ≤ 262144 → dest ≤ 4095 → i.emits.length < 256 →
    (u.fetched c px f).checkBytes { core := c, key := k.key, level := k.level } a n false = none →
    ((∀ x, t.chan dest = some x → t.holds x.stream = false) ∨ t.closing dest = true → exec (.iEmit c px win) s =
      .next (((t.dropWaits c).modCore c (fun k' =>
        { k'.wg 0 0x0104 with fl := flOf k'.fC false k'.fN k'.fV k'.fH })).ended u c px f)) ∧
    ((∃ x, t.chan dest = some x ∧ t.holds x.stream = true) → t.closing dest = false → t.poolWait = [] → k.grant = some g →
      t.windowFits win g 0 = true → t.appendOk i.stream (64 + 64 * ((n + 63) / 64)) false = true →
      ∃ tf : BitVec 224, tf.toNat % 2 ^ 48 = i.channel % 2 ^ 16 + 2 ^ 16 * (i.run % 2 ^ 16) + 2 ^ 32 * (i.emits.length % 2 ^ 16) ∧
        exec (.iEmit c px win) s = .next ((((((((((t.setCore c { k with grant := some g }).appendRaw i.stream 2 dest i.jsn tf body).assignWindow win g 0 i.channel).writeMem win body).modCore c (fun k' => { k' with grant := none })).modItem i.stream i.jsn (fun x => { x with emits := x.emits ++ [e] })).settle)).modCore c
            (fun k' => { k'.wg 0 0 with fl := flOf k'.fC true k'.fN k'.fV k'.fH })).ended u c px f))) ∧
  (∀ (s : State) (c : Nat),
    let k := s.core c
    let free (n : Nat) : Prop := n < 8 ∧ (k.slot n).st = .free ∧ ∀ m, m < n → (k.slot m).st ≠ .free
    let offers (p : Pick) (i : Item) : Prop := match p with
      | .slot n => n < 8 ∧ (k.slot n).st = .ready ∧ ∃ st j, (k.slot n).item = some (st, j) ∧ s.item st j = some i
      | .take n => free n ∧ s.headReady (c / 24) = some i
    let last (p : Pick) : Nat := match p with
      | .slot _ => 0
      | .take _ => 1
    (s.dispatchPick c = none ↔ ∀ p i, ¬offers p i) ∧
    (∀ p, s.dispatchPick c = some p → ∃ i, offers p i ∧ ∀ q j, offers q j →
      i.deadline < j.deadline ∨ (i.deadline = j.deadline ∧ (last p < last q ∨ (last p = last q ∧ i.jsn ≤ j.jsn)))))

/-- R142 to R147, R229 to R231: OPEN, MATCH, CLOSE. The model's choices that it rests on: log 58. -/
def Obligations.OpenMatchClose : Prop :=
  ∀ (s u : State) (c : Nat) (px : List Pfx) (i : Item),
    let f := fmtWork s c px
    let k := u.core c
    let a := (k.rg 1).toNat
    let w : Who := { core := c, key := k.key, level := k.level }
    let status (t : State) (v : Nat) : State :=
      (t.modCore c (fun k' => { k'.wg 0 (BitVec.ofNat 64 v) with fl := flOf k'.fC (v == 0) k'.fN k'.fV k'.fH })).ended u c px f
    let handle (t : State) (v h : Nat) : State :=
      (t.modCore c (fun k' => { (k'.wg 1 (BitVec.ofNat 64 h)).wg 0 (BitVec.ofNat 64 v) with
        fl := flOf k'.fC (v == 0) k'.fN k'.fV k'.fH })).ended u c px f
    Issues s u c px f → (u.fetched c px f).openSlot = u.fetched c px f → (u.fetched c px f).runningItem c = some i →
    i.state ≠ .ended →
    -- OPEN
    (let t := (u.fetched c px f).touchRead a 64
    let ctx := W512.ofBytes ((u.fetched c px f).readBytes c a 64)
    let budget := W512.fld ctx 24 4
    let peer := W512.fld ctx 28 2
    t.openSlot = t → (u.fetched c px f).outsideOpen c a = none → (u.fetched c px f).checkBytes w a 64 false = none →
    (budget = 0 ∨ 1000 ≤ budget) → peer < 4096 → i.opens.length < 16 →
    (t.failing = true → exec (.iOpen c px) s = .next (handle (t.dropWaits c) 0x0303 0)) ∧
    (t.failing = false → (∀ x, t.chan peer = some x → t.holds x.stream = false) →
      exec (.iOpen c px) s = .next (handle (t.dropWaits c) 0x0104 0)) ∧
    (t.failing = false → (∃ x, t.chan peer = some x ∧ t.holds x.stream = true) → t.freeContext = none →
      exec (.iOpen c px) s = .next (if c ∈ t.openWait then t else
        ({ t with openWait := t.openWait ++ [c] }.modBench (c / 24) (fun b => { b with tableFullWaits := b.tableFullWaits + 1 })).raise
          (c / 24) 3 i.channel)) ∧
    (∀ idx, t.failing = false → (∃ x, t.chan peer = some x ∧ t.holds x.stream = true) → t.freeContext = some idx →
      t.appendOk i.stream 128 false = false →
      exec (.iOpen c px) s = .next (t.modCore c (fun k' => { k' with wait := .append }))) ∧
    (∀ idx, t.failing = false → (∃ x, t.chan peer = some x ∧ t.holds x.stream = true) → t.freeContext = some idx →
      t.appendOk i.stream 128 false = true →
      idx < 2 ^ 20 ∧ (∀ d ∈ t.dialogues, d.adopted = false → d.handle.toNat % 2 ^ 20 ≠ idx) ∧
      ∃ (inc h : Nat) (ctx' : W512) (tf : BitVec 224) (d : Dialogue),
        1 ≤ inc ∧ inc ≤ 2047 ∧ ((tget t.incarn idx).getD 0 < 2047 → inc = (tget t.incarn idx).getD 0 + 1) ∧
        h = idx + inc * 2 ^ 21 ∧ tf.toNat % 2 ^ 32 = h ∧
        W512.fld ctx' 0 24 = W512.fld ctx 0 24 ∧ W512.fld ctx' 24 4 = (if budget = 0 then 5000000 else budget) ∧
        W512.fld ctx' 28 2 = peer ∧ W512.fld ctx' 30 2 = i.channel % 2 ^ 16 ∧ W512.fld ctx' 32 8 = i.orderKey.toNat ∧
        W512.fld ctx' 40 24 = W512.fld ctx 40 24 ∧
        d.handle.toNat = h ∧ d.stream = i.stream ∧ d.opener = i.jsn ∧ d.openJsn = t.nextJsn i.stream ∧ d.context = ctx' ∧
        d.expiry = W512.fld ctx 16 8 ∧ d.channel = peer ∧ d.key.toNat = W512.fld ctx 0 16 ∧ d.state = .pending ∧
        d.adopted = false ∧
        exec (.iOpen c px) s = .next (handle ((({ t.appendRaw i.stream 4 i.channel i.jsn tf (W512.bytes ctx') with
          dialogues := t.dialogues ++ [d], incarn := tset t.incarn idx inc
          openWait := t.openWait.filter (fun x => x != c) }).modItem i.stream i.jsn
            (fun x => { x with opens := BitVec.ofNat 32 h :: x.opens })).settle) 0 h))) ∧
    -- MATCH
    (let t := (u.fetched c px f).touchRead a 16
    let dst := (k.rg 2).toNat
    let key := BitVec.ofNat 128 (leVal ((u.fetched c px f).readBytes c a 16))
    let fresh (d : Dialogue) : Prop := d ∈ t.dialogues ∧ d.state = .open_ ∧ d.channel = i.channel ∧ d.key = key ∧ i.stamp < d.expiry
    t.openSlot = t → (u.fetched c px f).checkBytes w a 16 false = none → (u.fetched c px f).checkBytes w dst 64 true = none →
    (∀ d, fresh d → (∀ x, fresh x → x = d ∨ d.openJsn < x.openJsn) → i.claims.length < 16 →
      let claim (x : Dialogue) : Dialogue :=
        if x.handle = d.handle ∧ x.stream = d.stream then { x with state := .claimed i.stream i.jsn } else x
      exec (.iMatch c px) s = .next (handle ((({ t with dialogues := t.dialogues.map claim }).modItem i.stream i.jsn
        (fun x => { x with claims := d.handle :: x.claims })).storeLong c dst (W512.bytes d.context)) 0 d.handle.toNat)) ∧
    ((∀ d, ¬fresh d) → (∀ d ∈ t.dialogues, ¬(d.state = .open_ ∧ d.channel = i.channel ∧ d.key = key)) →
      (∀ r ∈ t.remnants, ¬(r.channel = i.channel ∧ r.key = key)) → exec (.iMatch c px) s = .next (handle t 0 0)) ∧
    ((∀ d, ¬fresh d) → ∀ r, r ∈ t.expiredFor i key → (∀ x ∈ t.expiredFor i key, x = r ∨ x.2.2 < r.2.2) →
      exec (.iMatch c px) s = .next (handle (t.storeLong c dst (W512.bytes r.2.1)) 0x0302 r.1.toNat))) ∧
    -- CLOSE
    (let t := u.fetched c px f
    let h := k.rg 1
    (2 ^ 32 ≤ h.toNat → exec (.iClose c px) s = .next (u.raised c px f 1 5)) ∧
    (∀ d, h.toNat < 2 ^ 32 → t.closable i (h.setWidth 32) = some d → t.appendOk i.stream 128 false = true →
      d ∈ t.dialogues ∧ d.handle = h.setWidth 32 ∧ (d.state = .claimed i.stream i.jsn ∨ d.state = .pending) ∧
      ∃ tf : BitVec 224, tf.toNat % 2 ^ 32 = h.toNat ∧
        exec (.iClose c px) s = .next (status (((t.appendRaw i.stream 5 i.channel i.jsn tf (W512.bytes d.context)).modItem
          i.stream i.jsn (fun x => { x with closed := h.setWidth 32 :: x.closed })).settle) 0)) ∧
    (∀ d, h.toNat < 2 ^ 32 → t.closable i (h.setWidth 32) = some d → t.appendOk i.stream 128 false = false →
      exec (.iClose c px) s = .next (t.modCore c (fun k' => { k' with wait := .append }))) ∧
    (h.toNat < 2 ^ 32 → t.closable i (h.setWidth 32) = none →
      exec (.iClose c px) s = .next (if t.closeExpired i (h.setWidth 32) then status t 0x0302 else u.raised c px f 1 5)))

/-- R218, R220, R225, R232, R233, R235, R262, R275, R422: SUBMIT, EWAIT, YIELD, the turn timer. The model's choices that it rests on: logs 10, 59, 60 and 95. -/
def Obligations.SubmitEwaitYieldTurn : Prop :=
  (∀ (s u : State) (c n : Nat) (px : List Pfx),
    let f := fmtWork s c px
    let t := u.fetched c px f
    let k := u.core c
    let a := (k.rg 1).toNat
    let tag := (k.rg 2).toNat
    let w : Who := { core := c, key := k.key, level := k.level }
    let blk := W512.ofBytes (t.readBytes c a 64)
    let sig : Bool := decide (W512.fld blk 0 1 = 0x10 ∨ W512.fld blk 0 1 = 0x11)
    let b := u.bench (c / 24)
    let queue (x : Bench) : List EngCmd := if sig then x.sigQ else x.cipherQ
    Issues s u c px f → k.runningSlot = some n →
    (15 < tag ∨ (k.slot n).tags.getLsbD tag = true → exec (.iSubmit c px) s = .next (u.raised c px f 1 5)) ∧
    (tag ≤ 15 → (k.slot n).tags.getLsbD tag = false → t.checkBytes w a 64 false = none →
      (blockLegal blk = false → exec (.iSubmit c px) s = .next (u.raised c px f 1 5)) ∧
      (∀ e, blockLegal blk = true → t.rangesBad w a blk = some e →
        exec (.iSubmit c px) s = .next (u.raised c px f e.vec e.cause e.g2)) ∧
      (blockLegal blk = true → t.rangesBad w a blk = none →
        (2048 ≤ (queue b).length → exec (.iSubmit c px) s = .next (if k.wait = .queue then t.touchRead a 64 else
          ((t.touchRead a 64).modCore c (fun k' => { k' with wait := .queue })).raise (c / 24) 4 (if sig then 1 else 0))) ∧
        ((queue b).length < 2048 → ∃ (q : EngCmd) (b' : Bench) (before after : List EngCmd),
          q.core = c ∧ q.slot = n ∧ q.tag = tag ∧ q.block = a ∧ q.blk = blk ∧
          (∀ i, t.runningItem c = some i → q.deadline = i.deadline ∧ q.channel = i.channel) ∧
          queue b = before ++ after ∧ queue b' = before ++ q :: after ∧
          (∀ x ∈ after.head?, q.deadline < x.deadline) ∧ (∀ x ∈ before, x.deadline ≤ q.deadline) ∧
          { b' with sigQ := b.sigQ, cipherQ := b.cipherQ } = b ∧
          (if sig then b'.cipherQ = b.cipherQ else b'.sigQ = b.sigQ) ∧
          exec (.iSubmit c px) s = .next ((((t.touchRead a 64).setBench (c / 24) b').setCore c (
            let bit : BitVec 16 := BitVec.ofNat 16 (2 ^ tag)
            let sl := k.slot n
            let k' := k.wslot n { sl with
              tags := sl.tags ||| bit, doneTags := sl.doneTags &&& ~~~bit, poisonTags := sl.poisonTags &&& ~~~bit
              poisonAt := terase sl.poisonAt tag }
            { k'.wg 0 0 with fl := flOf k.fC true k.fN k.fV k.fH })).ended u c px f))))) ∧
  (∀ (s u : State) (c : Nat) (px : List Pfx),
    let f := fmtWorkAt 0 px
    let t := u.fetched c px f
    let k := u.core c
    let task : Bool := decide (k.mode.toNat % 4 = 0)
    let mask := (k.rg 1).toNat
    let limit := (k.rg 2).toNat
    let met := t.ewaitMet c mask
    let bad : Option Nat := k.tagPoison mask
    let returns (t : State) : State := ((t.endEwait c).modCore c (fun k =>
      { k.wg 0 (BitVec.ofNat 64 met) with fl := flOf k.fC (decide (met = 0)) k.fN k.fV k.fH })).ended u c px f
    let since := k.ewaitFrom.getD u.time.ns
    Issues s u c px f →
      (task = true → mask / 2 ^ 16 % 2 ^ 9 ≠ 0 → exec (.iEwait c px) s = .next (u.raised c px f 10 4)) ∧
      ((mask / 2 ^ 25 ≠ 0 ∨ (task = false ∧ mask % 2 ^ 16 ≠ 0)) → ¬(task = true ∧ mask / 2 ^ 16 % 2 ^ 9 ≠ 0) →
        exec (.iEwait c px) s = .next (u.raised c px f 1 5)) ∧
      (mask / 2 ^ 25 = 0 → ¬(task = false ∧ mask % 2 ^ 16 ≠ 0) → ¬(task = true ∧ mask / 2 ^ 16 % 2 ^ 9 ≠ 0) →
        (∀ at_, task = true → bad = some at_ → exec (.iEwait c px) s = .next (u.raised c px f 14 1 (BitVec.ofNat 64 at_))) ∧
        ((task = false ∨ bad = none) → (met ≠ 0 ∨ limit = 0 ∨ (limit ≠ 2 ^ 64 - 1 ∧ since + limit ≤ u.time.ns)) →
          exec (.iEwait c px) s = .next (returns t) ∧
          (∀ s0 : State, s0.coreRuns c = true → (s0.core c).ewaitFrom = some since → u.time.ns = since + limit →
            limit ≠ 2 ^ 64 - 1 → (s0.core c).rg 2 = k.rg 2 → s = s0.advanceTo (since + limit) → px = [] →
            exec (.ewaitTimeout c) s0 = .next (returns t))) ∧
        ((task = false ∨ bad = none) → met = 0 → limit ≠ 0 → (limit = 2 ^ 64 - 1 ∨ u.time.ns < since + limit) →
          exec (.iEwait c px) s = .next (t.setCore c { k with ewaitFrom := some since })))) ∧
  (∀ (s : State) (c : Nat), ((s.core c).ewaitFrom = none → s.endEwait c = s) ∧
    (∀ x, (s.core c).ewaitFrom = some x → s.endEwait c =
      (if (s.core c).awaitsWork then (s.setCore c { s.core c with ewaitFrom := none }).workReady (c / 24)
      else s.setCore c { s.core c with ewaitFrom := none }))) ∧
  (∀ (s : State) (c : Nat), c < 96 → ((s.core c).ewaitFrom = none ∨ ((s.core c).rg 2).toNat = 2 ^ 64 - 1) →
    exec (.ewaitTimeout c) s = .next s) ∧
  (∀ (s : State) (c since : Nat), c < 96 → (s.core c).ewaitFrom = some since → ((s.core c).rg 2).toNat ≠ 2 ^ 64 - 1 →
    exec (.ewaitTimeout c) s = exec (.iEwait c []) (s.advanceTo (since + ((s.core c).rg 2).toNat)) ∧
    since + ((s.core c).rg 2).toNat ≤ (s.advanceTo (since + ((s.core c).rg 2).toNat)).time.ns) ∧
  (∀ (s u : State) (c : Nat) (px : List Pfx),
    let f := fmtWork s c px
    let t := u.fetched c px f
    let k := u.core c
    let reason := (k.rg 1).toNat
    let mask : BitVec 16 := ((k.rg 2).setWidth 16)
    Issues s u c px f →
      (2 < reason → exec (.iYield c px) s = .next (u.raised c px f 1 5)) ∧
      (∀ n, reason ≤ 2 → k.runningSlot = some n → k.floats = [] → k.trap = none → k.muldiv = none →
        (reason = 1 → (k.slot n).poisonTags &&& mask = 0) →
        (reason = 0 → ∀ p, (k.slot n).item = some p → ∀ i, t.item p.1 p.2 = some i → i.state = .ended) →
        let noted := t.rawWrite c (0x00200000846C + 0x3000 * n) (leBytes 4 reason)
        let past : Bool := (k.slot n).item.any (fun p => (t.item p.1 p.2).all (fun i => i.state == .ended))
        let slot := if reason = 0 then { tags := (k.slot n).tags } else if past then { k.slot n with st := .ended } else if reason = 1 ∧ (k.slot n).tags &&& mask ≠ 0
          then { k.slot n with st := .waiting, wait := mask } else { k.slot n with st := .ready }
        (reason = 0 → (k.slot n).item ≠ none → ∃ p i, (k.slot n).item = some p ∧ (noted.enterAfter c 16 1 (u.nextOf c px f)).item p.1 p.2 = some i ∧ i.state = .ended) →
        exec (.iYield c px) s = .next (((noted.enterAfter c 16 1 (u.nextOf c px f)).modCore c (fun k' => k'.wslot n slot)).modCore c
          (fun k' => { k' with retired := k'.retired + 1, uwait := none })))) ∧
  (∀ (s : State) (c n : Nat), c < 96 →
    ((s.core c).runningSlot = none → exec (.turnTimer c) s = .next s) ∧
    ((s.core c).runningSlot = some n → (s.core c).mode.toNat % 4 ≠ 0 ∨ (s.core c).turnRaised = true ∨ ((s.core c).slot n).turnLimit = 0 →
      exec (.turnTimer c) s = .next s) ∧
    ((s.core c).runningSlot = some n → (s.core c).mode.toNat % 4 = 0 → (s.core c).turnRaised = false →
      ((s.core c).slot n).turnLimit ≠ 0 → s.coreRuns c = true →
      let r := (s.setCore c { s.core c with turnRaised := true }).raise (c / 24) (80 + c % 24) n
      (r.core c).turnRaised = true ∧ exec (.turnTimer c) s = .next (r.boundary c)) ∧
    (s.coreRuns c = false → exec (.turnTimer c) s = .next s))

/-- R437, R438, R441 to R446, R450, R452: customer opcodes and their routines. The model's choices that it rests on: log 14. -/
def Obligations.CustomerMicrocode : Prop :=
  (∀ (s u : State) (c op : Nat) (px : List Pfx) (o : CustOps) (intr : Option Nat) (b : UBind),
    let f := fmtCustomer s c px op o
    let t := u.fetched c px f
    let k := u.core c
    let tag := u.ucode.id % 256
    let i : UInst := { c := c, px := px, b := b, tag := tag, ops := custRegs b.format o, imm := custImm b.format o, next := u.nextOf c px f }
    let u0 : UState := { op := op, pc := k.pc, addr := b.entry, fl := k.fl, ea := 0, au := none }
    let run := uRun i t uFuel intr (uStep i t u0)
    op < 4096 → (∀ x ∈ s.ident.fusedOps, x.op ≠ op) → Issues s u c px f → u.ubind op = some b →
      (ssrNames k op = true → k.ssr.toNat / 2 ^ 24 % 2 ^ 8 ≠ tag → exec (.iCustomer c px op o intr) s = .next (u.raised c px f 1 3)) ∧
      (¬(ssrNames k op = true ∧ k.ssr.toNat / 2 ^ 24 % 2 ^ 8 ≠ tag) → k.uwait = none → custMem b.format = false →
        (∀ t', run = .done t' → exec (.iCustomer c px op o intr) s = .next (t'.ended u c px f)) ∧
        (∀ t' e, run = .stop t' e → exec (.iCustomer c px op o intr) s =
          .next (t'.takeEntry c e.vec e.cause e.g2 (u.pcOf c) (u.pcOf c))) ∧
        (∀ t', run = .pause t' → exec (.iCustomer c px op o intr) s = .next (t'.modCore c (fun k => { k with uwait := none }))) ∧
        (∀ t' x, run = .wait t' x → exec (.iCustomer c px op o intr) s = .next (t'.modCore c (fun k => { k with uwait := some x }))) ∧
        (let w := u.uWord b.entry
         let r := uAluRes (uAlu w) (u0.src i k 0 (uConst w) (uA w)) (u0.src i k 0 (uConst w) (uB w))
         let u1 := u0.put i (uDest w) r.1
         let u2 := if w.toNat.testBit 51 then u1.setFlags r else u1
         tget (u.bench (c / 24)).wordErr b.entry = none → uSeq w = 7 → uMem w = 0 → uCnt w = 0 → uWait w = 0 → uA w ≠ 0x12 → uB w ≠ 0x12 → uA w ≠ 0x17 → uB w ≠ 0x17 →
         ∃ t' : State, exec (.iCustomer c px op o intr) s = .next (t'.ended u c px f) ∧ t'.mem = u.mem ∧ t'.time = u.time ∧
           t'.core c = { (u1.regs.foldl (fun x p => x.wg p.1 p.2) k) with fl := uFl u2 w k, ssr := 0 }))) ∧
  (∀ (s : State) (c op : Nat) (px : List Pfx) (o : CustOps) (intr : Option Nat), c < 96 → op < 4096 →
    (∃ x ∈ s.ident.fusedOps, x.op = op) → exec (.iCustomer c px op o intr) s = .refused .fusedOpcode) ∧
  (∀ (i : UInst) (w : BitVec 144) (s : State) (u : UState), i.c < 96 → u.writes = [] →
    let k := u.regs.reverse.foldl (fun x p => x.wg p.1 p.2) (s.core i.c)
    let long (ssr : W) : Core := { k with
      fl := uFl u w k, ssr := ssr, atomicLong := k.atomicLong + (if i.b.resumable = false ∧ 160 < u.cyc then 1 else 0)
      unitLong := k.unitLong + (if i.b.resumable = true ∧ 256 < u.cyc then 1 else 0) }
    (uEnd i w s u).core i.c = Core.advanceAu (long 0) u.au ∧
    (uEnd i w s u).mem = s.mem ∧
    ∃ v : W, (uUnit i w s u).core i.c = long v ∧ v.toNat % 2 ^ 8 = 1 ∧
      (i.b.op < 4096 → i.tag < 256 → v.toNat / 2 ^ 8 % 2 ^ 8 = 0xE0 + i.b.op / 256 ∧ v.toNat / 2 ^ 16 % 2 ^ 8 = i.b.op % 256 ∧
        v.toNat / 2 ^ 24 % 2 ^ 8 = i.tag ∧
        v.toNat / 2 ^ 32 = match u.ssrp with | some x => x.toNat | none => (s.core i.c).ssr.toNat / 2 ^ 32)) ∧
  (∀ (i : UInst) (w : BitVec 144) (r v : W) (start : Nat) (s : State) (u : UState),
    let n := if uSize w = 4 then 64 else 2 ^ uSize w
    uMem w = 2 → s.checkBytes (whoOf i.c (s.core i.c) i.px) (u.addrOf (uMaddr w) r).toNat n true = none →
    (8 ≤ u.writes.length ∨ 64 < u.stagedBytes + n → ∃ e, uMemOp i w r v start s u = .error e ∧ e.vec = 13 ∧
      e.cause = (if i.b.resumable then 3 else 1) ∧ e.g2 = BitVec.ofNat 64 i.b.op) ∧
    (u.writes.length < 8 → u.stagedBytes + n ≤ 64 → ∃ u', uMemOp i w r v start s u = .ok (s, u') ∧
      u'.writes = u.writes ++ [(u.addrOf (uMaddr w) r, leBytes n v.toNat)] ∧ u'.stagedBytes = u.stagedBytes + n)) ∧
  (∀ (s : State) (c : Nat), c < 96 →
    ((s.core c).uwait = none → exec (.waitTimeout c) s = .next s) ∧
    (∀ u b, (s.core c).uwait = some u → s.coreRuns c = true → s.ubind u.op = some b →
      (u.cyc + 16 * u.wtime ≤ b.limit →
        exec (.waitTimeout c) s = .next (s.takeEntry c 13 2 (BitVec.ofNat 64 b.op) u.pc.toNat u.pc.toNat)) ∧
      (b.limit < u.cyc + 16 * u.wtime → exec (.waitTimeout c) s =
        .next (s.takeEntry c 13 (if b.resumable then 3 else 1) (BitVec.ofNat 64 b.op) u.pc.toNat u.pc.toNat))))

/-- R428, R482: ECC errors of microwords. The model's choices that it rests on: log 103. -/
def Obligations.MicrowordErrors : Prop :=
  (∀ (i : UInst) (s : State) (u : UState), i.c < 96 →
    let b := i.c / 24
    let err := tget (s.bench b).wordErr u.addr
    (err = none → uStep i s u = uWordStep i s u) ∧
    (err = some .single → ∃ t : State, uStep i s u = uWordStep i t u ∧ tget (t.bench b).wordErr u.addr = none ∧
      (t.bench b).corrected = (s.bench b).corrected + 1 ∧ t.mem = s.mem ∧ t.items = s.items ∧
      (∀ a, a ≠ u.addr → tget (t.bench b).wordErr a = tget (s.bench b).wordErr a)) ∧
    (∀ left failed, err = some (.double (left + 1) failed) → uStep i s u = .redo u.addr) ∧
    (∀ failed, err = some (.double 0 failed) → ∃ t : State, uStep i s u = uWordStep i t u ∧
      tget (t.bench b).wordErr u.addr = none ∧ { t with benches := s.benches } = s)) ∧
  (∀ (i : UInst) (ck : State) (n a : Nat) (left : Option Nat), i.c < 96 →
    let b := i.c / 24
    let t := ck.wordFailed b a
    uRun i ck n left (.redo a) = .redo t left ∧
    (∀ more failed, tget (ck.bench b).wordErr a = some (.double more failed) →
      tget (t.bench b).wordErr a = some (.double (more - 1) (failed + 1)) ∧
      (failed < 2 → { t with benches := ck.benches } = ck) ∧ (2 ≤ failed → t.su.fault = true))) ∧
  (∀ (i : UInst) (o : CustOps) (pc : BitVec 48) (n : Nat) (s : State) (left : Option Nat),
    let t := s.modCore i.c (fun k => { k with uwait := none })
    (t.su.fault = true → customerEff i o pc (n + 1) (.redo s left) = .wait t) ∧
    (∀ r, t.su.fault = false → customerStart i o left t = .ok r →
      customerEff i o pc (n + 1) (.redo s left) = customerEff i o pc n r)) ∧
  (∀ (s u : State) (c op : Nat) (px : List Pfx) (o : CustOps) (intr : Option Nat) (b : UBind) (left failed : Nat) (r : URes),
    let f := fmtCustomer s c px op o
    let t := u.fetched c px f
    let k := u.core c
    let tag := u.ucode.id % 256
    let i : UInst := { c := c, px := px, b := b, tag := tag, ops := custRegs b.format o, imm := custImm b.format o, next := u.nextOf c px f }
    op < 4096 → (∀ x ∈ s.ident.fusedOps, x.op ≠ op) → Issues s u c px f → u.ubind op = some b → custMem b.format = false →
    ssrNames k op = false → k.uwait = none → u.su.fault = false →
    tget (u.bench (c / 24)).wordErr b.entry = some (.double (left + 1) failed) → failed < 2 →
    customerStart i o intr ((t.wordFailed (c / 24) b.entry).modCore c (fun k => { k with uwait := none })) = .ok r →
    exec (.iCustomer c px op o intr) s =
      .next (t.resolve c (u.pcOf c) (u.nextOf c px f) (customerEff i o k.pc 65535 r)))

/-- R412, R414, R419, R422 to R424: the event controller's registers as commands write them. The model's choices that it rests on: logs 10, 28 and 120. -/
def Obligations.EventRegisters : Prop :=
  let refuse (s : State) (b off reason : Nat) : State :=
    s.setEvc b { s.evc b with refused := true, reason := reason, offset := off }
  (∀ (s : State) (b : Nat) (v : W), b < 4 →
    (v.toNat / 2 ^ 8 % 2 ^ 32 ≠ 0 → exec (.evcRaiseWrite b v) s = .next (refuse s b 0xB00 1)) ∧
    (v.toNat / 2 ^ 8 % 2 ^ 32 = 0 → (v.toNat % 256 < 128 ∨ 159 < v.toNat % 256) →
      exec (.evcRaiseWrite b v) s = .next (refuse s b 0xB00 2)) ∧
    (v.toNat / 2 ^ 8 % 2 ^ 32 = 0 → 128 ≤ v.toNat % 256 → v.toNat % 256 ≤ 159 →
      exec (.evcRaiseWrite b v) s = .next (s.raise b (v.toNat % 256) (v.toNat / 2 ^ 40)))) ∧
  (∀ (s : State) (b n p : Nat), b < 4 →
    let x := (s.evc b).src n
    x.level = 0 → ((s.raise b n p).evc b).src n = (if x.pending then { x with raises := min 65535 (x.raises + 1) }
      else { x with pending := true, raises := 0, time := s.time.ns, payload := p % 2 ^ 24 })) ∧
  (∀ (s : State) (b n : Nat) (v : W), b < 4 → n < 256 →
    let x := (s.evc b).src n
    (srcNamed n = false → exec (.evcPendingWithdraw b n v) s = .next (refuse s b (8 * n) 8)) ∧
    (srcNamed n = true → v.toNat / 2 ^ 4 % 2 ^ 4 = 0 → v.toNat / 2 ^ 34 % 2 ^ 14 = 0 → ∃ t : State,
      exec (.evcPendingWithdraw b n v) s = .next (t.evalEvc b) ∧ (t.evc b).src n = { x with
        level := v.toNat % 16, pending := false, blocked := false, raises := 0,
        affinity := if 80 ≤ n ∧ n ≤ 103 then x.affinity else BitVec.ofNat 24 (v.toNat / 2 ^ 8 % 2 ^ 24) } ∧
      (∀ m, m ≠ n → (t.evc b).src m = (s.evc b).src m) ∧ t.cores = s.cores ∧
      ((∀ m, m ≠ n → ((s.evc b).src m).pending = false) → exec (.evcPendingWithdraw b n v) s = .next t))) ∧
  (∀ (s : State) (b i : Nat) (v : W), b < 4 → i < 24 →
    (v.toNat / 2 ^ 56 % 2 ^ 7 = 0 →
      exec (.evcTurnRestart b i v) s = .next (s.modCore (24 * b + i) (fun k => { k with turnRaised := false }))) ∧
    (v.toNat / 2 ^ 56 % 2 ^ 7 ≠ 0 → exec (.evcTurnRestart b i v) s = .next (refuse s b (0xA00 + 8 * i) 1))) ∧
  (∀ (s : State) (b off size : Nat) (v : W), b < 4 →
    (∀ g, g < 16 → off = 0x800 + 8 * g → size = 8 → v.toNat / 2 ^ 16 % 2 ^ 16 = 0 → v.toNat / 2 ^ 48 = 0 → ∃ t : State,
      exec (.evcRegisterWrite b off size v) s = .next (t.evalEvc b) ∧
      (t.evc b).group g = { (s.evc b).group g with
        holdoff := v.toNat % 2 ^ 16
        until_ := if v.toNat % 2 ^ 16 = 0 then min ((s.evc b).group g).until_ s.time.ns else ((s.evc b).group g).until_ } ∧ (t.evc b).srcs = (s.evc b).srcs ∧ t.cores = s.cores) ∧
    (∀ i, i < 24 → off = 0x900 + 8 * i → size = 8 → v.toNat / 2 ^ 4 % 2 ^ 4 = 0 → v.toNat / 2 ^ 14 % 2 ^ 2 = 0 →
      v.toNat / 2 ^ 25 % 2 ^ 7 = 0 → v.toNat / 2 ^ 40 % 2 ^ 8 = 0 → exec (.evcRegisterWrite b off size v) s =
        .next ((s.setCore (24 * b + i) { s.core (24 * b + i) with
          threshold := v.toNat % 16
          overflow := if v.toNat / 2 ^ 48 = 0 then (s.core (24 * b + i)).overflow else 0 }).evalEvc b)) ∧
    (off = 0xB08 → size = 8 → v.toNat / 2 % 2 ^ 7 = 0 → v.toNat / 2 ^ 32 = 0 → exec (.evcRegisterWrite b off size v) s =
      .next (if v.toNat % 2 = 1 then s.setEvc b { s.evc b with refused := false } else s)) ∧
    (0x880 ≤ off → off < 0x900 ∨ 0x9C0 ≤ off ∧ off < 0xA00 ∨ 0xAC0 ≤ off ∧ off < 0xB00 ∨ 0xB10 ≤ off →
      exec (.evcRegisterWrite b off size v) s = .next (refuse s b off 8)) ∧
    (0x800 ≤ off → off < 0x880 → size ≠ 8 ∨ off % 8 ≠ 0 → exec (.evcRegisterWrite b off size v) s = .next (refuse s b off 4))) ∧
  (∀ (s : State) (b g : Nat), b < 4 →
    exec (.groupHoldoffEnd b g) s = .next ((s.advanceTo ((s.evc b).group g).until_).evalEvc b)) ∧
  (∀ (s : State) (b n size : Nat) (v : W), 4 ≤ b → exec (.evcRegisterWrite b n size v) s = .fault .noSuchUnit ∧
    exec (.evcRaiseWrite b v) s = .fault .noSuchUnit ∧ exec (.evcPendingWithdraw b n v) s = .fault .noSuchUnit ∧
    exec (.evcTurnRestart b n v) s = .fault .noSuchUnit ∧ exec (.groupHoldoffEnd b n) s = .fault .noSuchUnit)

/-- R413, R414, R416, R417: presentation of one source. The model's choices that it rests on: log 27. -/
def Obligations.EventPresentation : Prop :=
  ∀ (s : State) (b n : Nat) (ended : Bool), b < 4 →
    let x := (s.evc b).src n
    let core (i : Nat) : Core := s.core (24 * b + i)
    let E (i : Nat) : Prop := i < 24 ∧ x.affinity.getLsbD i = true ∧ (core i).run = .active ∧ (core i).esc = false ∧
      (core i).threshold < x.level ∧ (core i).elevel < x.level
    let F (i : Nat) : Prop := E i ∧ ∀ q ∈ (core i).queue, q.slot ≠ (core i).tail
    let first (T : Nat → Prop) (w : Nat) : Prop := T w ∧
      ((x.last < w ∧ ∀ i, T i → x.last < i → w ≤ i) ∨ ((∀ i, T i → i ≤ x.last) ∧ ∀ i, T i → w ≤ i))
    let may : Prop := x.pending = true ∧ x.level ≠ 0 ∧ x.affinity ≠ 0 ∧
      (ended = true ∨ ((s.evc b).group (n / 16)).until_ ≤ s.time.ns)
    let t := s.present b n ended
    (¬may → t = s) ∧
    ((∀ i, ¬E i) → t = s) ∧
    (may → (∃ i, E i) → (∀ i, ¬F i) →
      (t.evc b).src n = { x with blocked := true } ∧ (∀ m, m ≠ n → (t.evc b).src m = (s.evc b).src m) ∧
      (x.blocked = true → ∀ c, t.core c = s.core c) ∧
      (x.blocked = false → ∃ w, first E w ∧ t.core (24 * b + w) =
          { core w with overflow := min 65535 ((core w).overflow + 1), deferred := (core w).deferred + 1 } ∧
        ∀ c, c ≠ 24 * b + w → t.core c = s.core c)) ∧
    (may → (∃ i, F i) → ∃ w, first (fun i => F i ∧ ∀ j, F j → (core i).elevel ≤ (core j).elevel) w ∧
      t.core (24 * b + w) = (core w).enqueue ⟨0, x.level, b, n, 1, x.time, x.payload⟩
        (eventBytes x.time n b x.level 1 x.payload (min 255 x.raises)) ∧
      (t.core (24 * b + w)).tail = ((core w).tail + 1) % 256 ∧
      (∀ c, c ≠ 24 * b + w → t.core c = s.core c) ∧
      (t.evc b).src n = { x with pending := false, blocked := false, raises := 0, last := w } ∧
      (∀ m, m ≠ n → (t.evc b).src m = (s.evc b).src m) ∧
      ((t.evc b).group (n / 16)).until_ = (if ((s.evc b).group (n / 16)).holdoff = 0 then ((s.evc b).group (n / 16)).until_
        else s.time.ns + 64 * ((s.evc b).group (n / 16)).holdoff) ∧
      t.mem = s.mem ∧ t.time = s.time)

/-- R235, R250, R251, R263, R264, R266, R267, R269, R271, R273 to R276: the engine commands. The model's choices that it rests on: logs 11, 60 and 61. -/
def Obligations.EngineCommands : Prop :=
  (∀ (s : State) (b op : Nat) (row : Instr) (work : State → EngCmd → EngRes),
    (row, op, work) ∈ ([(.macGen b, 1, State.doMacGen), (.macVerify b, 2, State.doMacVerify), (.pinTranslate b, 3, State.doPin),
      (.hashCmd b, 4, State.doHash), (.keyExport b, 5, State.doExport), (.randomCmd b, 6, State.doRandom),
      (.attenuate b, 7, State.doAttenuate), (.signCmd b, 0x10, State.doSign),
      (.verifyCmd b, 0x11, State.doVerify)] : List (Instr × Nat × (State → EngCmd → EngRes))) →
    let queue := if isSig op then (s.bench b).sigQ else (s.bench b).cipherQ
    (4 ≤ b → exec row s = .fault .noSuchUnit) ∧
    (b < 4 → queue = [] → exec row s = .next s) ∧
    (∀ (q : EngCmd) (rest : List EngCmd), b < 4 → queue = q :: rest →
      (bkOp q.blk ≠ op ∨ s.engineRuns b (isSig op) = false → exec row s = .next s) ∧
      (bkOp q.blk = op → s.engineRuns b (isSig op) = true →
        let t := (s.takeCmd q).countDone q
        let r := (t.touchAreas (tokenAreas q.blk)).checkTokens q
        let v := (r.1.touchAreas (dataAreas q.blk)).noteSource q
        (∀ a, t.readsPoison q = some a → exec row s = .next (t.completeTag q (some a))) ∧
        (∀ st n, t.readsPoison q = none → r.2 = some (st, n) →
          exec row s = .next ((r.1.countFail q).putResult q { status := st, verdict := 0, failed := n, out := [], drbg := none })) ∧
        (t.readsPoison q = none → r.2 = none → (work v q).failed = 0 → exec row s = .next (v.putResult q (work v q))) ∧
        (t.readsPoison q = none → r.2 = none → (work v q).failed ≠ 0 →
          exec row s = .next ((v.countFail q).putResult q (work v q)))))) ∧
  (∀ (s : State) (q : EngCmd) (r : EngRes),
    let put (t : State) : State := (((t.storeLong q.core (q.block + 2) (leBytes 2 r.status)).storeLong q.core (q.block + 4)
      (leBytes 1 r.verdict)).storeLong q.core (q.block + 6) (leBytes 1 r.failed)).storeLong q.core (q.block + 36)
        (leBytes 4 r.out.length)
    (r.out = [] → r.drbg = none → s.putResult q r = (put s).completeTag q) ∧
    (r.out ≠ [] → r.drbg = none → s.putResult q r = (put (s.storeLong q.core (bkOut q.blk) r.out)).completeTag q) ∧
    (∀ d, r.out ≠ [] → r.drbg = some d → s.putResult q r =
      ((put (s.storeLong q.core (bkOut q.blk) r.out)).modBench (q.core / 24) (fun x => { x with drbg := d })).completeTag q)) ∧
  (∀ (s : State) (q : EngCmd) (p : Option Nat), q.core < 96 → q.slot < 8 → q.tag < 16 →
    let old := (s.core q.core).slot q.slot
    let new := ((s.completeTag q p).core q.core).slot q.slot
    (∀ i, i < 16 → new.tags.getLsbD i = (old.tags.getLsbD i && decide (i ≠ q.tag)) ∧
      new.doneTags.getLsbD i = (old.doneTags.getLsbD i || decide (i = q.tag)) ∧
      new.poisonTags.getLsbD i = (old.poisonTags.getLsbD i || (p.isSome && decide (i = q.tag)))) ∧
    (∀ a, p = some a → tget new.poisonAt q.tag = some a) ∧
    new.st = (if old.st = .waiting ∧ old.wait.getLsbD q.tag = true then .ready else old.st) ∧
    new.item = old.item ∧ (s.completeTag q p).mem = s.mem ∧
    ∀ c, c ≠ q.core → (s.completeTag q p).core c = s.core c) ∧
  (∀ (s : State) (q : EngCmd),
    (s.ksnGood q = true → (s.doMacGen q).out = s.macOf q (if bkParam q.blk = 0 then macMax (bkAlg q.blk) else bkParam q.blk) ∧
      (s.doMacGen q).verdict = 1 ∧ (s.doMacGen q).status = 0 ∧ (s.doMacGen q).drbg = none) ∧
    (∀ n, (s.macOf q n).length = n) ∧
    (∀ m n, m ≤ n → s.macOf q m = (s.macOf q n).take m) ∧
    ((s.doMacVerify q).verdict = 1 ↔ s.ksnGood q = true ∧ s.macOf q (bkAuxLen q.blk) = s.engAux q) ∧
    (s.doMacVerify q).out = [] ∧ (s.doVerify q).out = [] ∧ (s.doVerify q).failed = 0 ∧
    ((s.doVerify q).verdict = 1 → bkAuxLen q.blk = signLen (bkAlg q.blk) (s.keyOf (s.tokenAt q (bkA q.blk)))) ∧
    (s.doSign q).out.length = signLen (bkAlg q.blk) (s.keyOf (s.tokenAt q (bkA q.blk))) ∧
    (s.doHash q).out.length = digestLen (bkAlg q.blk) ∧ (s.doRandom q).out.length = bkOutLen q.blk ∧
    ((s.doPin q).verdict = 1 → (∀ c ∈ s.engAux q, 0x30 ≤ c.toNat ∧ c.toNat ≤ 0x39) ∧
      (s.doPin q).out.length = (if pinTo q.blk = 4 then 16 else 8)) ∧
    ((s.doPin q).verdict ≠ 1 → (s.doPin q).out = [] ∧ (s.doPin q).verdict = 2 ∧ (s.doPin q).drbg = none) ∧
    ((s.doRandom q).drbg = some (Config.drbgNext (s.bench (q.core / 24)).drbg)) ∧
    ((s.doAttenuate q).verdict = 1 → weaker (s.tokenAt q (bkA q.blk)) (s.engAux q) = true ∧
      (s.doAttenuate q).out = s.sealToken (s.engAux q)) ∧
    ((s.doAttenuate q).verdict ≠ 1 → (s.doAttenuate q).out = [] ∧ (s.doAttenuate q).failed = 1 ∧
      ((s.doAttenuate q).status = 0x0201 ∨ (s.doAttenuate q).status = 0x0204 ∨ (s.doAttenuate q).status = 0x0202))) ∧
  (∀ (src t : Bytes), weaker src t = true → tkFormat t = tkFormat src ∧ tkGen t = tkGen src ∧ tkSealId t = tkSealId src ∧
    (∀ i, (tkRights t).testBit i = true → (tkRights src).testBit i = true) ∧
    (tkFlags src % 2 = 1 → tkFlags t % 2 = 1 ∧ tkChannel t = tkChannel src) ∧
    tkFrom src ≤ tkFrom t ∧ tkFrom t < tkUntil t ∧ tkUntil t ≤ tkUntil src ∧
    (tkFormat src = 1 → tkSlot t = tkSlot src) ∧
    (tkFormat src = 2 → tkSlot src ≤ tkSlot t ∧ tkSlot t + 2 ^ tkSpan t ≤ tkSlot src + 2 ^ tkSpan src))

/-- R39, R248, R250, R267, R268, R276: tokens, engine faults, entropy and tamper. The model's choices that it rests on: logs 11 and 44. -/
def Obligations.TokensFaultsTamper : Prop :=
  (∀ (s : State) (t : Bytes) (u : TokenUse) (cached : Bool) (fits : VSlot → Bool),
    let key : Prop := tkFormat t = 1
    let v := s.vslot (tkSlot t)
    let c1 : Prop := cached = true ∨ s.sealOk t = true
    let c2 : Prop := tkFormat t = u.format ∧ tkRights t &&& u.rights = u.rights
    let c3 : Prop := (tkFlags t % 2 = 1 → u.channel = some (tkChannel t)) ∧
      (tkFormat t = 2 → tkSlot t ≤ u.lo ∧ u.lo + u.count ≤ tkSlot t + 2 ^ tkSpan t)
    let c4 : Prop := u.restore = true ∨ (tkFrom t ≤ s.time.ns ∧ s.time.ns < tkUntil t)
    let c5 : Prop := u.restore = true ∨ tkGen t = (if tkFormat t = 2 then s.vault.provGen else v.gen)
    let c6 : Prop := key → v.st = .loaded
    let c7 : Prop := key → fits v = true
    let r := s.tokenBad t u cached fits
    (¬c1 → r = some 0x0201) ∧ (c1 → ¬c2 → r = some 0x0202) ∧ (c1 → c2 → ¬c3 → r = some 0x0202) ∧
    (c1 → c2 → c3 → ¬c4 → r = some 0x0203) ∧ (c1 → c2 → c3 → c4 → ¬c5 → r = some 0x0204) ∧
    (c1 → c2 → c3 → c4 → c5 → ¬c6 → r = some 0x0205) ∧ (c1 → c2 → c3 → c4 → c5 → c6 → ¬c7 → r = some 0x0202) ∧
    (c1 → c2 → c3 → c4 → c5 → c6 → c7 → r = none)) ∧
  (∀ (s : State) (b : Nat) (unit : EngineRef),
    ((4 ≤ b ∨ (∃ n, (unit = .signature n ∧ 32 ≤ n) ∨ (unit = .cipher n ∧ 4 ≤ n))) → exec (.engineFault b unit) s = .fault .noSuchUnit) ∧
    (∀ n, b < 4 → n < 4 → unit = .cipher n → s.timeRuns = true →
      ((∃ d ∈ s.ident.deconf, d.1 = PartRef.cipher b n) → exec (.engineFault b unit) s = .next s) ∧
      ((∀ d ∈ s.ident.deconf, d.1 ≠ PartRef.cipher b n) → ∃ t : State, exec (.engineFault b unit) s = .next (t.deviceConfig 4) ∧
        t.ident.deconf = s.ident.deconf ++ [(PartRef.cipher b n, s.elogNext)] ∧ t.elogNext = s.elogNext + 1 ∧
        (t.bench b).cipherQ = retryFirst (s.bench b).cipherQ ∧ (t.bench b).sigQ = (s.bench b).sigQ ∧
        t.mem = s.mem ∧ t.time = s.time)) ∧
    (∀ n, b < 4 → n < 32 → unit = .signature n → s.timeRuns = true → (∃ d ∈ s.ident.deconf, d.1 = PartRef.signature b n) →
      s.deadSigs b ≠ 1 → exec (.engineFault b unit) s = .next s) ∧
    (b < 4 → EngineRef.ok unit = true → s.timeRuns = false → exec (.engineFault b unit) s = .next s) ∧
    (∀ n, b < 4 → n < 32 → unit = .signature n → s.timeRuns = true →
      ((∀ d ∈ s.ident.deconf, d.1 ≠ PartRef.signature b n) ∨ s.deadSigs b = 1) →
      ∃ t : State, exec (.engineFault b unit) s = .next (t.deviceConfig 4) ∧
        t.ident.deconf = s.ident.deconf ++ [(PartRef.signature b n, s.elogNext)] ∧ t.elogNext = s.elogNext + 1 ∧
        (t.bench b).sigQ = retryFirst (s.bench b).sigQ ∧ (t.bench b).cipherQ = (s.bench b).cipherQ ∧
        t.mem = s.mem ∧ t.time = s.time)) ∧
  (∀ (s : State) (test : Nat), (2 ≤ test → exec (.entropyHealthFail test) s = .fault .noSuchUnit) ∧
    (test < 2 → s.timeRuns = true → exec (.entropyHealthFail test) s = .next ((s.logErr 2 0x0B 0xFFFF 0).raiseAll 50 test)) ∧
    (test < 2 → s.timeRuns = false → exec (.entropyHealthFail test) s = .next s)) ∧
  (∀ (s : State), s.timeRuns = false → exec .reseedTimeout s = .next s) ∧
  (∀ (s : State), s.timeRuns = true →
    ((∀ b, b < 4 → (s.bench b).reseedDue = 0) → exec .reseedTimeout s = .next s) ∧
    (∀ b, b < 4 → (s.bench b).reseedDue ≠ 0 → (∀ j, j < 4 → (s.bench j).reseedDue ≠ 0 → (s.bench b).reseedDue ≤ (s.bench j).reseedDue) →
      exec .reseedTimeout s = .next (s.advanceTo ((s.bench b).reseedDue + 60000000000)).deviceFault)) ∧
  (∀ (s : State), ∃ t : State, exec .tamper s = .next ((((t.logErr 4 0x0E 0xFFFF 0).raiseAlert 8).raiseAll 51 0).deviceFault) ∧
    t.vault.pkgKey = 0 ∧ t.vault.sealKeys = [] ∧ t.vault.working = false ∧ t.su.vaultMade = false ∧
    ∀ b, b < 4 → (t.bench b).cipherQ = [] ∧ (t.bench b).sigQ = [] ∧ (t.bench b).keyCache = [] ∧ (t.bench b).tokCache = [] ∧
      (t.bench b).drbg = 0 ∧ (t.bench b).kek = 0) ∧
  (∀ (s : State) (b : Nat), b < 4 → let x := (s.cancelBench b).bench b
    x.cipherQ = [] ∧ x.sigQ = [] ∧ x.keyCache = [] ∧ x.tokCache = [] ∧ x.drbg = 0 ∧ x.kek = 0) ∧
  (∀ (s : State), s.su.fault = false → s.deviceFault.su.fault = true ∧ s.deviceFault.mem = s.mem)

/-- R12, R15, R55 to R59, R62 to R64, R85: BAR0, commit and kicks. The model's choices that it rests on: logs 30, 31 and 107. -/
def Obligations.SetupRegistersAndKicks : Prop :=
  (∀ (s : State) (p off reason : Nat), p < 2 →
    let x := s.port p
    let y := (s.refuse p off reason).port p
    y.refused = true ∧ y.reason = reason ∧ y.refOffset = off ∧ y.refuseCount = min 65535 (x.refuseCount + 1) ∧
    y.committed = x.committed ∧ y.sqBase = x.sqBase ∧ y.ringSize = x.ringSize ∧ (s.refuse p off reason).mem = s.mem ∧
    (x.refused = true → s.refuse p off reason = s.setPort p { x with
      reason := reason, refOffset := off, refuseCount := min 65535 (x.refuseCount + 1) })) ∧
  (∀ (s : State) (p off size : Nat) (v : W), p < 2 → s.reaches (s.port p) = true →
    let x := s.port p
    let run := exec (.setupRegisterWrite p off size v) s
    let refused (r : Nat) : Prop := run = .next (s.refuse p off r)
    (((0x58 ≤ off ∧ off < 0x1000) ∨ (0x1008 ≤ off ∧ off < 0x10000) ∨ (0x12100 ≤ off ∧ off < 0x18000) ∨
      (0x18048 ≤ off ∧ off < 0x1000000)) → refused 8) ∧
    (off < 8 → run = .next s) ∧
    (0x8 ≤ off → off < 0x58 → off % 8 ≠ 0 ∨ size ≠ 8 → refused 4) ∧
    (0x1000 ≤ off → off < 0x1008 → off ≠ 0x1000 ∨ (size ≠ 8 ∧ size ≠ 4) → refused 4) ∧
    (((off = 0x8 ∨ off = 0x10) ∧ size = 8) ∨ (off = 0x1000 ∧ (size = 8 ∨ size = 4)) → run = .next s) ∧
    (∀ mask : W, (off, mask) ∈ ([(0x18, 0x3F), (0x20, 0x1F), (0x28, 0xFFFFFFFFFFFFF0F0), (0x30, 0x7), (0x38, 0x7), (0x40, 0xFFF),
        (0x48, 0xFFF), (0x50, 0xFFFFFFFF0000F000)] : List (Nat × W)) → size = 8 →
      (v &&& mask ≠ 0 → refused 1) ∧
      (v &&& mask = 0 → off ≠ 0x50 → x.committed = true → refused 3) ∧
      (v &&& mask = 0 → off = 0x50 → v.toNat % 2 ^ 12 = 0 → refused 2) ∧
      (v &&& mask = 0 → off = 0x28 → x.committed = false → ¬(4 ≤ v.toNat % 16 ∧ v.toNat % 16 ≤ 12 ∧
        4 ≤ v.toNat / 256 % 16 ∧ v.toNat / 256 % 16 ≤ 12) → refused 2) ∧
      (v &&& mask = 0 → off = 0x50 → v.toNat % 2 ^ 12 ≠ 0 →
        run = .next { s with pollPeriod := v.toNat % 2 ^ 12, armAfter := v.toNat / 2 ^ 16 % 2 ^ 16 }) ∧
      (v &&& mask = 0 → off = 0x28 → x.committed = false → (4 ≤ v.toNat % 16 ∧ v.toNat % 16 ≤ 12 ∧
        4 ≤ v.toNat / 256 % 16 ∧ v.toNat / 256 % 16 ≤ 12) → run = .next (s.setPort p { x with ringSize := v })) ∧
      (v &&& mask = 0 → x.committed = false →
        (off = 0x18 → run = .next (s.setPort p { x with sqBase := v })) ∧
        (off = 0x20 → run = .next (s.setPort p { x with cqBase := v })) ∧
        (off = 0x30 → run = .next (s.setPort p { x with sqTailAddr := v })) ∧
        (off = 0x38 → run = .next (s.setPort p { x with cqHeadAddr := v })) ∧
        (off = 0x40 → run = .next (s.setPort p { x with doorbellBase := v })) ∧
        (off = 0x48 → run = .next (s.setPort p { x with armBase := v }))))) ∧
  (∀ (s : State) (p size : Nat) (v : W), p < 2 → s.reaches (s.port p) = true →
    let x := s.port p
    (size ≠ 8 → exec (.setupStatusClear p size v) s = .next (s.refuse p 0x10 4)) ∧
    (size = 8 → v &&& 0x0000F000000000F0 ≠ 0 → exec (.setupStatusClear p size v) s = .next (s.refuse p 0x10 1)) ∧
    (size = 8 → v &&& 0x0000F000000000F0 = 0 → exec (.setupStatusClear p size v) s = .next (s.setPort p { x with
      refused := x.refused && !v.getLsbD 2, refuseCount := if v.toNat / 2 ^ 48 = 0 then x.refuseCount else 0 }))) ∧
  (∀ (s : State) (p size : Nat) (v : W) (heads : List (Nat × Option W)), p < 2 → s.reaches (s.port p) = true →
    let x := s.port p
    let o := s.port (1 - p)
    let ok : Prop := x.sqBase ≠ 0 ∧ x.cqBase ≠ 0 ∧ x.sqTailAddr ≠ 0 ∧ x.cqHeadAddr ≠ 0 ∧ x.doorbellBase ≠ 0 ∧ x.armBase ≠ 0 ∧
      (4 ≤ x.ringSize.toNat % 16 ∧ x.ringSize.toNat % 16 ≤ 12 ∧ 4 ≤ x.ringSize.toNat / 256 % 16 ∧ x.ringSize.toNat / 256 % 16 ≤ 12) ∧
      (o.committed = true → o.doorbellBase = x.doorbellBase ∧ o.armBase = x.armBase)
    let done : Port := { x with
      committed := true, asqHead := 0, asqTail := 0, acqTail := 0, acqHead := 0, acur := none, aheld := none, adone := none }
    let run := exec (.setupCommit p size v heads) s
    (size ≠ 8 → run = .next (s.refuse p 8 4)) ∧
    (size = 8 → 2 ≤ v.toNat → run = .next (s.refuse p 8 1)) ∧
    (size = 8 → v.toNat = 1 → x.committed = false →
      (s.su.ready = false → run = .next (s.refuse p 8 7)) ∧
      (s.su.ready = true → ¬ok → run = .next (s.refuse p 8 5)) ∧
      (s.su.ready = true → ok → run = .next (s.commit p heads).settle ∧
        (s.chans = [] → s.rings = [] → s.commit p heads =
          if o.committed = true then s.setPort p done else (s.setPort p done).allLive p)))) ∧
  (∀ (s : State) (p g : Nat), g < 64 →
    (s.allLive p).group g = { s.group g with live := true, armed := false, lastChange := s.time.ns } ∧ (s.allLive p).mem = s.mem) ∧
  (∀ (s : State) (p size : Nat) (v : W) (rd : GroupRead) (tail : Option W) (entry : Option W512), p < 2 → s.reaches (s.port p) = true →
    let x := s.port p
    let k := if size = 4 then v.toNat % 2 ^ 32 else v.toNat
    let group := exec (.kickDoorbellGroup p size v rd) s
    let admin := exec (.kickAdminRing p size v tail entry) s
    let both (r : Nat) : Prop := group = .next (s.refuse p 0x1000 r) ∧ admin = .next (s.refuse p 0x1000 r)
    (size ≠ 8 → size ≠ 4 → both 4) ∧
    (size = 8 ∨ size = 4 → 2 ^ 16 ≤ k → both 1) ∧
    (size = 8 ∨ size = 4 → k < 2 ^ 16 → ¬(k < 64 ∨ k = 0x100) → both 2) ∧
    (size = 8 ∨ size = 4 → k < 64 ∨ k = 0x100 → x.committed = false → both 6) ∧
    (size = 8 ∨ size = 4 → x.committed = true →
      (k < 64 → s.polls = true → group = .next (s.kickGroup k rd)) ∧
      (k = 0x100 → x.masters = false → admin = .next s) ∧
      (k = 0x100 → x.masters = true →
        (tail = none → admin = .next (((s.setPort p { x with asqTail := x.asqHead }).readFails p).logErr 2 13 p 0)) ∧
        (∀ w, tail = some w → x.asqSize < (w.setWidth 32 - x.asqHead).toNat →
          admin = .next ((s.setPort p { x with asqTail := x.asqHead }).logErr 2 13 p 0)) ∧
        (∀ w e, tail = some w → (w.setWidth 32 - x.asqHead).toNat ≤ x.asqSize →
          x.acur = none → x.aheld = none → x.adone = none → (x.acqTail - x.acqHead).toNat < x.acqSize → x.asqHead ≠ w.setWidth 32 →
          (entry = none → admin = .next (((s.setPort p { x with asqTail := x.asqHead }).readFails p).logErr 2 13 p 0)) ∧
          (entry = some e → opcodeAssigned (W512.fld e 0 1) = true → admin =
            .next (s.setPort p { x with asqTail := w.setWidth 32, asqHead := x.asqHead + 1, acur := some e })) ∧
          (entry = some e → opcodeAssigned (W512.fld e 0 1) = false → admin =
            .next (s.setPort p { x with
              asqTail := w.setWidth 32, asqHead := x.asqHead + 1, adone := some ⟨W512.fld e 2 2, 0x0601, 0, 0⟩ })))))) ∧
  (∀ (s : State) (p off size : Nat) (v : W) (rd : GroupRead) (tail : Option W) (entry : Option W512) (heads : List (Nat × Option W)),
    (p < 2 → s.reaches (s.port p) = false → exec (.setupRegisterWrite p off size v) s = .next s ∧ exec (.setupStatusClear p size v) s = .next s ∧
      exec (.setupCommit p size v heads) s = .next s ∧ exec (.kickDoorbellGroup p size v rd) s = .next s ∧
      exec (.kickAdminRing p size v tail entry) s = .next s) ∧
    (2 ≤ p → exec (.setupRegisterWrite p off size v) s = .fault .noSuchUnit ∧ exec (.setupStatusClear p size v) s = .fault .noSuchUnit ∧
      exec (.setupCommit p size v heads) s = .fault .noSuchUnit ∧ exec (.kickDoorbellGroup p size v rd) s = .fault .noSuchUnit ∧
      exec (.kickAdminRing p size v tail entry) s = .fault .noSuchUnit))

/-- R42, R44, R51, R53, R60, R61, R111, R490, R492, R516: links, power states and resets of a port; R7, R12, R16, R43, R54, R55:
what the host reads there. The model's choices that it rests on: logs 7, 32, 98 and 102. -/
def Obligations.PortLinksAndResets : Prop :=
  (∀ (s : State) (p : Nat), p < 2 →
    let x := s.port p
    exec (.portLinkDown p) s = .next (s.setPort p { x with linkUp := false, trained := {} }) ∧
    (x.inReset = false → s.su.sysResetLow = false → s.su.halted = false → s.su.testEn = false → ∃ tr : LinkTrain,
      tr.lanes ∈ [16, 8, 4, 2, 1] ∧ (x.widthX8 = true → tr.lanes ≤ 8) ∧ tr.rate ∈ [640, 320, 160, 80, 50, 25] ∧
      (tr.rate = 640 → tr.flit = true) ∧
      exec (.portLinkUp p) s = .next (((s.nextFree.setPort p { x with linkUp := true, trained := tr }).writeLate p).sendPending p)) ∧
    (x.inReset = true ∨ s.su.sysResetLow = true ∨ s.su.halted = true ∨ s.su.testEn = true → exec (.portLinkUp p) s = .next s) ∧
    (∀ x8, x.inReset = true → exec (.perstDeassert p x8) s = .next (s.setPort p { x with inReset := false, widthX8 := x8 })) ∧
    (∀ x8, x.inReset = false → exec (.perstDeassert p x8) s = .next s) ∧
    (let waits (t : State) : Prop := (∀ r, t.ring r = (s.ring r).map (fun y =>
        if y.port = p then { y with recovering := some (y.recovering.getD 2) } else y)) ∧
        t.chans = s.chans ∧ t.mem = s.mem ∧ t.cores = s.cores ∧ t.items = s.items ∧ t.port (1 - p) = s.port (1 - p)
     (∃ t u v, exec (.perst p) s = .next t ∧ exec (.hotReset p) s = .next u ∧ exec (.flr p) s = .next v) ∧
     (s.link.joins ≠ some p → ∃ t, exec (.perst p) s = .next t ∧ waits t ∧ t.port p = { inReset := true, widthX8 := x.widthX8 }) ∧
     (s.link.joins ≠ some p → x.linkUp = true →
       ∃ t, exec (.hotReset p) s = .next t ∧ waits t ∧ t.port p = { inReset := false, widthX8 := x.widthX8 }) ∧
     (x.linkUp = false → exec (.hotReset p) s = .next s) ∧ (x.linkUp = false ∨ x.inReset = true → exec (.flr p) s = .next s) ∧
     (s.link.joins = some p → s.link.pair < 2 → ∃ t, exec (.perst p) s = .next t ∧ t.link.joins = none ∧ t.link.prop = none ∧
       t.link.pair = 0 ∧ t.chans = s.chans ∧ t.items = s.items ∧ t.mem = s.mem) ∧
     (s.link.joins ≠ some p → x.linkUp = true → x.inReset = false → ∃ t, exec (.flr p) s = .next t ∧ waits t ∧ (t.port p).committed = false ∧
       (t.port p).sqBase = 0 ∧ (t.port p).cqBase = 0 ∧ (t.port p).ringSize = 0 ∧ (t.port p).sqTailAddr = 0 ∧ (t.port p).cqHeadAddr = 0 ∧
       (t.port p).doorbellBase = 0 ∧ (t.port p).armBase = 0 ∧ (t.port p).refused = false ∧ (t.port p).refuseCount = 0 ∧
       (t.port p).acur = none ∧ (t.port p).aheld = none ∧ (t.port p).adone = none ∧ (t.port p).msixEnable = false ∧
       (t.port p).msixMask = false ∧ (t.port p).unmasked = [] ∧ (t.port p).pbits = [] ∧
       (t.port p).msixMsg = [] ∧ (t.port p).trained = x.trained ∧ (t.port p).bar0 = x.bar0 ∧ (t.port p).aerStatus = x.aerStatus ∧
       (t.port p).linkUp = true ∧ (t.port p).busMaster = x.busMaster ∧ (t.port p).mps = x.mps ∧ (t.port p).mrrs = x.mrrs ∧
       (t.port p).dstate = x.dstate))) ∧
  (∀ (s : State) (p : Nat), p < 2 →
    let x := s.port p
    (∀ w, x.linkUp = true → x.inReset = false → s.su.sysResetLow = false → s.su.halted = false →
      exec (.pcieConfigWrite p w) s = .next (((s.setPort p (match w with
        | .busMaster v => { x with busMaster := v }
        | .relaxedOrdering v => { x with relaxed := v }
        | .maxPayload v => { x with mps := v }
        | .maxReadRequest v => { x with mrrs := v }
        | .tag10 v => { x with tag10 := v }
        | .msixEnable v => { x with msixEnable := v }
        | .msixFunctionMask v => { x with msixMask := v }
        | .aspmL1 v => { x with aspmL1 := v }
        | .bar0 v => { x with bar0 := v &&& 0xFFFFFFFFFF000000 }
        | .aerMask v => { x with aerMask := v }
        | .aerSeverity v => { x with aerSeverity := v }
        | .aerStatusClear v => { x with aerStatus := x.aerStatus &&& ~~~v })).writeLate p).sendPending p)) ∧
    (∀ w, x.linkUp = false ∨ x.inReset = true → exec (.pcieConfigWrite p w) s = .next s) ∧
    (∀ vec masked, s.reaches x = true → vec < 528 → ∃ u : List Nat,
      (∀ v, v ∈ u ↔ (if v = vec then masked = false else v ∈ x.unmasked)) ∧
      exec (.msixTableWrite p vec (.mask masked)) s = .next ((s.setPort p { x with unmasked := u }).sendPending p)) ∧
    (∀ vec a d, s.reaches x = true → vec < 528 → ∃ y z,
      exec (.msixTableWrite p vec (.address a)) s = .next ((s.setPort p y).sendPending p) ∧
      exec (.msixTableWrite p vec (.data d)) s = .next ((s.setPort p z).sendPending p) ∧
      y.message p vec = Out.msix p vec a (((tget x.msixMsg vec).getD (0, 0)).2) ∧
      z.message p vec = Out.msix p vec (((tget x.msixMsg vec).getD (0, 0)).1) d ∧ y.unmasked = x.unmasked ∧ z.unmasked = x.unmasked) ∧
    (∀ vec w, s.reaches x = false ∨ 528 ≤ vec → exec (.msixTableWrite p vec w) s = .next s) ∧
    (x.msixEnable = true → x.msixMask = false → x.masters = true → s.sends = true → s.link.pair ≠ 5 →
      (s.sendPending p).port p = { x with pbits := x.pbits.filter (fun v => !x.unmasked.contains v) } ∧
      ∀ v, v ∈ x.pbits → v ∈ x.unmasked → x.message p v ∈ (s.sendPending p).out) ∧
    (s.link.pair = 5 → ∀ v, v ∈ x.pbits → v < 512 → v ∈ ((s.sendPending p).port p).pbits) ∧
    (x.msixEnable = false ∨ x.msixMask = true ∨ x.masters = false → s.sendPending p = s) ∧
    ((∀ c ∈ s.chans, c.2.late = false) → s.writeLate p = s) ∧
    (∀ d, (d ≠ .d0 ∨ x.dstate = .d0) → exec (.dStateChange p d) s = .next (s.setPort p { x with dstate := d })) ∧
    (x.dstate ≠ .d0 → exec (.dStateChange p .d0) s =
      .next (((((s.setPort p { x with dstate := .d0 }).writeLate p).postAll (fun r => r.port == p)).settle).sendPending p))) ∧
  (∀ (s : State) (p vec : Nat) (b : Bool) (m : MsixWrite) (w : CfgWrite) (d : DState), 2 ≤ p →
    exec (.portLinkDown p) s = .fault .noSuchUnit ∧ exec (.portLinkUp p) s = .fault .noSuchUnit ∧ exec (.perst p) s = .fault .noSuchUnit ∧
    exec (.hotReset p) s = .fault .noSuchUnit ∧ exec (.flr p) s = .fault .noSuchUnit ∧ exec (.perstDeassert p b) s = .fault .noSuchUnit ∧
    exec (.pcieConfigWrite p w) s = .fault .noSuchUnit ∧ exec (.msixTableWrite p vec m) s = .fault .noSuchUnit ∧
    exec (.dStateChange p d) s = .fault .noSuchUnit) ∧
(∀ (s : State) (p off n : Nat), s.reaches (s.port p) = false → s.barRead p off n = none) ∧
  (∀ (s : State) (p r i n : Nat), p < 2 → s.reaches (s.port p) = true → r % 8 = 0 → n ∈ [1, 2, 4, 8] → i % n = 0 → i + n ≤ 8 →
    let x := s.port p
    ∃ w : W, s.barRead p (r + i) n = some (((leBytes 8 w.toNat).drop i).take n) ∧
      (r = 0x00 → w.toNat = 0x9600 + 0xB0 * 2 ^ 16 + (if s.ident.gradeE = true then 0x45 else 0x43) * 2 ^ 24 + p * 2 ^ 32) ∧
      (r = 0x08 → w = if x.committed = true then 1 else 0) ∧
      (r = 0x10 → x.reason < 2 ^ 8 → x.refOffset < 2 ^ 24 → s.su.step < 2 ^ 4 → x.refuseCount < 2 ^ 16 →
        w.getLsbD 0 = s.su.ready ∧ w.getLsbD 1 = x.committed ∧ w.getLsbD 2 = x.refused ∧ w.getLsbD 3 = s.su.fault ∧
        w.toNat / 2 ^ 4 % 2 ^ 4 = 0 ∧ w.toNat / 2 ^ 8 % 2 ^ 8 = x.reason ∧ w.toNat / 2 ^ 16 % 2 ^ 24 = x.refOffset ∧
        w.toNat / 2 ^ 40 % 2 ^ 8 = s.su.step ∧ w.toNat / 2 ^ 48 = x.refuseCount) ∧
      (r = 0x18 → w = x.sqBase) ∧ (r = 0x20 → w = x.cqBase) ∧ (r = 0x28 → w = x.ringSize) ∧ (r = 0x30 → w = x.sqTailAddr) ∧
      (r = 0x38 → w = x.cqHeadAddr) ∧ (r = 0x40 → w = x.doorbellBase) ∧ (r = 0x48 → w = x.armBase) ∧
      (r = 0x50 → s.pollPeriod < 2 ^ 12 → s.armAfter < 2 ^ 16 → w.toNat = s.pollPeriod + s.armAfter * 2 ^ 16) ∧
      ((0x58 ≤ r ∧ r < 0x10000) ∨ (0x12100 ≤ r ∧ r < 0x18000) ∨ 0x18048 ≤ r → w = 0) ∧
      (∀ v, v < 528 → r = 0x10000 + 16 * v → w = ((tget x.msixMsg v).getD (0, 0)).1) ∧
      (∀ v, v < 528 → r = 0x10008 + 16 * v →
        w.setWidth 32 = ((tget x.msixMsg v).getD (0, 0)).2 ∧ w.toNat / 2 ^ 32 = if v ∈ x.unmasked then 0 else 1) ∧
      (∀ q b, q < 9 → b < 64 → r = 0x18000 + 8 * q → w.getLsbD b = x.pbits.contains (64 * q + b))) ∧
  (∀ (s : State) (p : Nat),
    s.configWord p 0x00 = some 0x96001F3D ∧ s.configWord p 0x08 = some 0x120000B0 ∧
    (∀ off, off ∈ [0x18, 0x1C, 0x20, 0x24] → s.configWord p off = some 0) ∧
    s.configWord p 0x2C = some (s.ident.subVendor.toNat + s.ident.subId.toNat * 2 ^ 16) ∧
    (∀ v : W, p < 2 → s.reaches (s.port p) = true → ∃ t lo hi, exec (.pcieConfigWrite p (.bar0 v)) s = .next t ∧
      t.configWord p 0x10 = some lo ∧ t.configWord p 0x14 = some hi ∧
      lo % 2 ^ 24 = 4 ∧ lo / 2 ^ 24 = v.toNat / 2 ^ 24 % 2 ^ 8 ∧ hi = v.toNat / 2 ^ 32 % 2 ^ 32))

/-- R46, R66, R68, R69, R73, R176, R179 to R181, R506, R509, R537: admin commands that read, and their completions. The model's choices that it rests on: logs 41, 42 and 43. -/
def Obligations.AdminReads : Prop :=
  (∀ (s : State) (p : Nat) (e : W512) (bytes : Bytes) (res : W) (relaxed : Bool), p < 2 →
    (∀ wr, wr = false ∨ (s.port p).masters = false → s.finishRead p e bytes res relaxed wr = s.setPort p { s.port p with
      acur := none, aheld := none, adone := some ⟨cmdIdOf e, 0x0107, 0, 0⟩ }) ∧
    ((s.port p).masters = true → s.finishRead p e bytes res relaxed true =
      (s.emitOut (.hostWrite p (BitVec.ofNat 64 (W512.fld e 8 8)) bytes relaxed)).setPort p { s.port p with
        acur := none, aheld := none, adone := some ⟨cmdIdOf e, 0, 0, res⟩ }) ∧
    (∀ st, st ≠ 0x0107 → s.rejectCmd p e st = s.setPort p { s.port p with
      acur := none, aheld := none, adone := some ⟨cmdIdOf e, st, 0, 0⟩ }) ∧
    s.rejectCmd p e 0x0107 = (s.readFails p).setPort p { (s.readFails p).port p with
      acur := none, aheld := none, adone := some ⟨cmdIdOf e, 0x0107, 0, 0⟩ } ∧
    (∃ bit, bit ∈ [12, 14, 15, 20] ∧ s.readFails p = { s.reportAer p bit with free := s.free + 1 } ∧
      ((s.reportAer p bit).port p).aerStatus.getLsbD bit = true ∧ (s.reportAer p bit).mem = s.mem ∧
      ((s.port p).aerMask.getLsbD bit = true → (s.reportAer p bit).out = s.out) ∧
      ((s.port p).aerMask.getLsbD bit = false → Out.aer p bit ((s.port p).aerSeverity.getLsbD bit) ∈ (s.reportAer p bit).out))) ∧
  (∀ (s : State) (p : Nat) (e : W512) (wr : Bool) (op : Nat) (row : Instr),
    (op, row) ∈ ([(1, .identify p wr), (2, .getFeature p), (0x70, .journalRead p wr), (0x71, .channelState p wr),
      (0x72, .telemetryRead p wr), (0x73, .errorLogRead p wr)] : List (Nat × Instr)) →
    (2 ≤ p → exec row s = .fault .noSuchUnit) ∧
    (p < 2 → (s.port p).acur = none → exec row s = .next s) ∧
    (p < 2 → (s.port p).acur = some e → W512.fld e 0 1 ≠ op ∨ s.adminRuns p e = false → exec row s = .next s)) ∧
  (∀ (s : State) (p : Nat) (e : W512) (wr : Bool), p < 2 → (s.port p).acur = some e → s.adminRuns p e = true →
    (W512.fld e 0 1 = 1 →
      let ok : Prop := commonOk e = true ∧ W512.fld e 16 4 = 4096 ∧ W512.fld e 4 4 = 0 ∧ W512.fld e 26 30 = 0 ∧
        W512.fld e 24 2 < s.pageCount
      (ok → exec (.identify p wr) s = .next (s.finishRead p e (s.page (W512.fld e 24 2)) 4096 false wr)) ∧
      (¬ok → exec (.identify p wr) s = .next (s.rejectCmd p e 0x0602))) ∧
    (W512.fld e 0 1 = 2 →
      let ok : Prop := commonOk e = true ∧ W512.fld e 16 4 = 0 ∧ W512.fld e 4 4 = 0 ∧ W512.fld e 26 30 = 0
      let value : Option W := match W512.fld e 24 2 with
        | 1 => some s.feats.journalMode
        | 2 => some s.feats.journalSplit
        | 3 => some s.feats.sealAlg
        | 4 => some s.feats.benchSplit
        | 5 => some s.feats.coreClock
        | 6 => some s.feats.timeQuality
        | 7 => some s.feats.unsync
        | 8 => some s.feats.tdes
        | 9 => some s.feats.notices
        | 10 => some s.feats.moderation
        | _ => none
      (∀ v, ok → value = some v → exec (.getFeature p) s = .next (s.setPort p { s.port p with
        acur := none, aheld := none, adone := some ⟨cmdIdOf e, 0, 0, v⟩ })) ∧
      (¬ok ∨ value = none → exec (.getFeature p) s = .next (s.rejectCmd p e 0x0602))) ∧
    (W512.fld e 0 1 = 0x70 →
      (journalReadFields e = false → exec (.journalRead p wr) s = .next (s.rejectCmd p e 0x0602)) ∧
      (journalReadFields e = true → s.readStream (W512.fld e 32 8) = none → exec (.journalRead p wr) s = .next (s.rejectCmd p e 0x0603)) ∧
      (∀ st bytes next cursor, journalReadFields e = true → s.readStream (W512.fld e 32 8) = some st →
        s.readJournal e st = (bytes, next, cursor) →
        ((s.port p).masters = true → exec (.journalRead p true) s = .next
          ((s.modStream st.id (fun x => { x with cursor := cursor })).finishRead p e bytes (BitVec.ofNat 64 next) (s.port p).relaxed true)) ∧
        ((s.port p).masters = false → exec (.journalRead p true) s = .next (s.setPort p { s.port p with
          acur := none, aheld := none, adone := some ⟨cmdIdOf e, 0x0107, 0, 0⟩ })) ∧
        exec (.journalRead p false) s = .next (s.finishRead p e bytes (BitVec.ofNat 64 next) (s.port p).relaxed false))) ∧
    (W512.fld e 0 1 = 0x71 →
      let ok : Prop := commonOk e = true ∧ W512.fld e 16 4 = 128 ∧ W512.fld e 4 4 < 4096 ∧ W512.fld e 24 32 = 0
      (ok → exec (.channelState p wr) s = .next (s.finishRead p e (s.chanState (W512.fld e 4 4)) 0 false wr)) ∧
      (¬ok → exec (.channelState p wr) s = .next (s.rejectCmd p e 0x0602))) ∧
    (W512.fld e 0 1 = 0x72 →
      let g := W512.fld e 24 1
      let i := W512.fld e 28 4
      let ok : Prop := commonOk e = true ∧ W512.fld e 16 4 = 4096 ∧ W512.fld e 4 4 = 0 ∧ W512.fld e 25 3 = 0 ∧ W512.fld e 32 24 = 0 ∧
        i < groupIndices g
      (∀ l, ok → tget s.sample (g * 65536 + i) = some l → exec (.telemetryRead p wr) s = .next (s.finishRead p e
        (leBytes 8 s.sampleAt ++ l.flatMap (fun w => leBytes 8 w.toNat)) 0 false wr)) ∧
      (¬ok → exec (.telemetryRead p wr) s = .next (s.rejectCmd p e 0x0602))) ∧
    (W512.fld e 0 1 = 0x73 →
      let n := W512.fld e 16 4
      let ok : Prop := commonOk e = true ∧ n % 64 = 0 ∧ 64 ≤ n ∧ n ≤ 1048576 ∧ W512.fld e 4 4 = 0 ∧ W512.fld e 24 8 = 0 ∧ W512.fld e 40 16 = 0
      let l := ((s.elog.reverse).filter (fun x => decide (W512.fld e 32 8 ≤ x.seq))).take (n / 64)
      (∀ x, ok → l.getLast? = some x →
        exec (.errorLogRead p wr) s = .next (s.finishRead p e (l.flatMap LogEntry.bytes) (BitVec.ofNat 64 (x.seq + 1)) false wr)) ∧
      (ok → l = [] → ∃ v, exec (.errorLogRead p wr) s = .next ({ s.finishRead p e [] v false wr with free := s.free + 1 })) ∧
      (¬ok → exec (.errorLogRead p wr) s = .next (s.rejectCmd p e 0x0602)))) ∧
  (∀ (s : State) (e : W512) (st : Stream), W512.fld e 0 1 = 0x70 →
    let r := s.readJournal e st
    let head := if st.role = .mirror then st.rxStaged + 1 else st.nextJsn
    let first := W512.fld e 40 8
    let last := W512.fld e 48 8
    let advance : Prop := W512.fld e 25 1 % 2 = 1 ∧ W512.fld e 24 1 = 0
    leVal (r.1.take 8) = st.id % 2 ^ 64 ∧ leVal ((r.1.drop 8).take 8) = r.2.1 % 2 ^ 64 ∧ leVal ((r.1.drop 24).take 8) = head % 2 ^ 64 ∧
    leVal ((r.1.drop 40).take 8) = r.2.2 % 2 ^ 64 ∧
    (¬advance → r.2.2 = st.cursor) ∧ st.cursor ≤ r.2.2 ∧ (st.cursor ≤ head → r.2.2 ≤ head) ∧
    (advance → first ≤ st.cursor → r.2.1 = 0 → last = 0 → r.2.2 = max st.cursor head) ∧
    (advance → first ≤ st.cursor → r.2.1 = 0 → last ≠ 0 → r.2.2 = max st.cursor (min (last + 1) head)) ∧
    (advance → first ≤ st.cursor → r.2.1 ≠ 0 → r.2.2 = max st.cursor (min r.2.1 head))) ∧
  (∀ (s : State) (n : Nat), (s.page n).length = 4096 ∧ bfld (s.page 0) 16 1 = 0xB0 ∧ bfld (s.page 0) 17 1 = (if s.ident.gradeE then 0x45 else 0x43) ∧
    bfld (s.page 0) 24 8 = s.ident.serial.toNat ∧ bfld (s.page 0) 40 2 = s.pageCount % 65536 ∧ bfld (s.page 0) 52 1 = s.link.pair % 256 ∧
    (s.chanState n).length = 128 ∧
    (∀ st x, s.chan n = none → s.others.find? (fun y => (tget y.built.chans n).isSome) = some st → tget st.built.chans n = some x →
      bfld (s.chanState n) 0 1 = (if st.role = .mirror then 3 else 4) ∧ bfld (s.chanState n) 2 2 = x.cq % 2 ^ 16 ∧
      bfld (s.chanState n) 4 4 = st.adoption % 2 ^ 32 ∧ bfld (s.chanState n) 8 8 = st.id % 2 ^ 64 ∧
      bfld (s.chanState n) 16 4 = ((tget st.accepts n).getD (0, 0)).2.toNat ∧
      bfld (s.chanState n) 32 8 = ((tget st.accepts n).getD (0, 0)).1 % 2 ^ 64 ∧
      bfld (s.chanState n) 40 8 = (tget st.dones n).getD 0 % 2 ^ 64 ∧ bfld (s.chanState n) 48 8 = st.lastMirrored % 2 ^ 64) ∧
    (s.chan n = none → s.others.find? (fun y => (tget y.built.chans n).isSome) = none → bfld (s.chanState n) 0 1 = 0) ∧
    (∀ c : Config.ErrorCode, c.text.length ≤ 40 → (errorCodeEntry c).length = 48 ∧ bfld (errorCodeEntry c) 0 1 = c.unit % 2 ^ 8 ∧
      bfld (errorCodeEntry c) 1 1 = c.severity % 2 ^ 8 ∧ bfld (errorCodeEntry c) 2 2 = c.code % 2 ^ 16 ∧
      (errorCodeEntry c).drop 8 = c.text ++ List.replicate (40 - c.text.length) 0) ∧
    (∀ x, s.chan n = some x → bfld (s.chanState n) 0 1 = (if x.stopped then 2 else 1) ∧
      bfld (s.chanState n) 16 4 = x.consumed.toNat ∧ bfld (s.chanState n) 8 8 = x.stream % 2 ^ 64)) ∧
  (∀ (s : State) (p : Nat) (x : Port) (d : AdminDone) (next : Option W512), p < 2 → s.port p = x →
    s.su.ready = true → s.su.halted = false → s.su.flushing = false → s.su.sysResetLow = false →
    (x.adone = none → exec (.adminCompletionPost p next) s = .next (s.fetchAdmin p next)) ∧
    (x.adone = some d → (x.acqTail - x.acqHead).toNat < 2 ^ (x.ringSize.toNat / 256 % 16) → x.masters = true → x.committed = true →
      let size := 2 ^ (x.ringSize.toNat / 256 % 16)
      let at_ := x.cqBase + BitVec.ofNat 64 (32 * (x.acqTail.toNat % size))
      let done : Port := { x with adone := none, acqTail := x.acqTail + 1 }
      ∃ b : Bytes, b.length = 32 ∧ bfld b 0 2 = d.cmdId % 2 ^ 16 ∧ bfld b 2 2 = d.status % 2 ^ 16 ∧ bfld b 4 2 = x.asqHead.toNat % 2 ^ 16 ∧
        bfld b 6 1 = (if x.acqTail.toNat / size % 2 = 0 then 1 else 0) ∧ bfld b 8 8 = d.configJsn % 2 ^ 64 ∧ bfld b 16 8 = d.result.toNat ∧
        bfld b 24 8 = 0 ∧ exec (.adminCompletionPost p next) s =
          .next ((((s.emitOut (.hostWrite p at_ b false)).setPort p done).msix p 512).fetchAdmin p next))) ∧
  (∀ (s : State) (p : Nat) (w : W), p < 2 → (s.port p).masters = true → (s.port p).committed = true →
    exec (.adminHeadRead p none) s = .next ((s.readFails p).logErr 2 13 p 0) ∧
    ((w.setWidth 32 - (s.port p).acqHead).toNat ≤ ((s.port p).acqTail - (s.port p).acqHead).toNat →
      exec (.adminHeadRead p (some w)) s = .next (s.setPort p { s.port p with acqHead := w.setWidth 32 })) ∧
    (((s.port p).acqTail - (s.port p).acqHead).toNat < (w.setWidth 32 - (s.port p).acqHead).toNat →
      exec (.adminHeadRead p (some w)) s = .next (s.logErr 2 13 p 0)))

/-- R35, R37, R64, R65, R69, R156, R168, R178, R495, R535: commands that change state. The model's choices that it rests on: logs 34, 35, 36 and 37. -/
def Obligations.AdminChanges : Prop :=
  (∀ (s : State) (p : Nat) (e : W512) (data : Option Bytes) (word : Option W) (wr here : Bool) (row : Instr) (bad : Option Nat)
      (c : Change) (late : State → Bool) (eff : Effect),
    let op := W512.fld e 0 1
    let kind := W512.fld e 24 1
    let din := if (s.port p).masters = true then data else none
    let d := din.getD []
    (row, here, bad, c, late, eff) ∈ ([
      (.createCq p, op == 0x10, s.createCqBad e, { cmd := .createCq p, entry := e, epoch := s.homeActs }, noLate, effCreateCq),
      (.deleteCq p, op == 0x11, s.deleteCqBad e, { cmd := .deleteCq p, entry := e, stream := s.ringStream (targetOf e), epoch := s.ringActs (targetOf e) },
        noLate, effDeleteCq),
      (.openChannel p, op == 0x12, s.openChannelBad e,
        { cmd := .openChannel p, entry := e, channel := targetOf e, epoch := s.homeActs && s.ringActs (W512.fld e 42 2) }, noLate, effOpenChannel),
      (.closeChannel p word, op == 0x13, s.closeChannelBad e word,
        { cmd := .closeChannel p word, entry := e, stream := (s.chan (targetOf e)).map (fun x => x.stream), channel := targetOf e, epoch := s.chanActs (targetOf e) },
        noLate, effCloseChannel),
      (.bindPort p word, op == 0x14, s.bindPortBad e,
        { cmd := .bindPort p word, entry := e, stream := s.ringStream (targetOf e), epoch := s.ringActs (targetOf e), atOnce := true }, noLate, effBindPort word),
      (.activateProgram p, op == 0x21, (if activateFields e then (if s.activateState e then none else some 0x0603) else some 0x0602),
        { cmd := .activateProgram p, entry := e }, (fun t => t.laterThanMs (W512.fld e 32 8)), effActivateProgram),
      (.loadMicrocode p data, op == 0x22 && kind != 1, s.ucodeBad e din, { cmd := .loadMicrocode p din, entry := e, data := d }, noLate, effLoadMicrocode din),
      (.registerKey p data, op == 0x22 && kind == 1, s.registerBad e din, { cmd := .registerKey p din, entry := e, data := d }, noLate, effRegisterKey din),
      (.importKey p data, op == 0x30, s.importBad e din, { cmd := .importKey p din, entry := e, data := d, atOnce := true }, noLate, effImportKey din),
      (.issueToken p data wr, op == 0x31, s.issueBad e din, { cmd := .issueToken p din wr, entry := e, data := d }, noLate, effIssueToken p wr),
      (.revokeSlot p data wr, op == 0x32, s.revokeBad e din, { cmd := .revokeSlot p din wr, entry := e, data := d, atOnce := true }, noLate, effRevokeSlot p wr),
      (.setTime p, op == 0x40, s.setTimeBad e, { cmd := .setTime p, entry := e }, noLate, effSetTime),
      (.setCalendar p data, op == 0x41, s.calendarBad e din, { cmd := .setCalendar p din, entry := e, data := d, atOnce := true },
        (fun t => t.calendarLate (calEntries e din)), effSetCalendar din),
      (.setPower p, op == 0x50, s.powerBad e, { cmd := .setPower p, entry := e }, noLate, effSetPower),
      (.quiesce p, op == 0x51, quiesceBad e, { cmd := .quiesce p, entry := e }, noLate, effQuiesce),
      (.setBackground p data, op == 0x80, backgroundBad e din, { cmd := .setBackground p din, entry := e, data := d, atOnce := true }, noLate, effSetBackground din),
      (.fwUpdateStage p data, op == 0x90 && kind != 1, s.stageBad e din, { cmd := .fwUpdateStage p din, entry := e, data := d }, noLate, effStage din),
      (.fwUpdateActivate p, op == 0x90 && kind == 1, s.activateFwBad e, { cmd := .fwUpdateActivate p, entry := e }, noLate, effActivateFw p)] :
        List (Instr × Bool × Option Nat × Change × (State → Bool) × Effect)) →
    (2 ≤ p → exec row s = .fault .noSuchUnit) ∧
    (p < 2 → (s.port p).acur = none → exec row s = .next s) ∧
    (p < 2 → (s.port p).acur = some e → here = false ∨ s.adminRuns p e = false → exec row s = .next s) ∧
    (p < 2 → (s.port p).acur = some e → here = true → s.adminRuns p e = true →
      (s.su.fault = true → exec row s = .next (s.setPort p { s.port p with
        acur := none, aheld := none, adone := some ⟨cmdIdOf e, 0x0701, 0, 0⟩ })) ∧
      (s.su.fault = false → (∀ st, bad = some st → exec row s = .next (s.rejectCmd p e st)) ∧
        (bad = none → exec row s = .next (s.change p c late eff))))) ∧
  (∀ (s : State) (p : Nat) (e : W512), p < 2 → (s.port p).acur = some e → W512.fld e 0 1 = 3 → s.adminRuns p e = true → s.su.fault = false →
    (∀ st, s.featBad e = some st → exec (.setFeature p) s = .next (s.rejectCmd p e st).settleAll) ∧
    (s.featBad e = none → exec (.setFeature p) s = .next (s.change p
      { cmd := .setFeature p, entry := e, atOnce := true } noLate effSetFeature).settleAll)) ∧
  (∀ (s : State) (p : Nat) (e : W512) (data : Option Bytes) (codeAt dataAt : Nat), p < 2 → (s.port p).acur = some e →
    W512.fld e 0 1 = 0x20 → s.adminRuns p e = true → s.su.fault = false →
    let row : Instr := .loadProgram p data codeAt dataAt
    let din := if (s.port p).masters = true then data else none
    (∀ st, s.loadProgramBad e din = some st → exec row s = .next (s.rejectCmd p e st)) ∧
    (s.loadProgramBad e din = none → s.placeOk e codeAt dataAt = false → exec row s = .next s) ∧
    (s.loadProgramBad e din = none → s.placeOk e codeAt dataAt = true → exec row s = .next (s.change p
      { cmd := .loadProgram p din codeAt dataAt, entry := e, data := din.getD [] } noLate (effLoadProgram din codeAt dataAt)))) ∧
  (∀ (s : State) (p : Nat) (c : Change) (late : State → Bool) (eff : Effect),
    let e := c.entry
    let room : Prop := exemptCmd e = true ∨ 20 ≤ s.freeSpace 1000
    let ours : Prop := c.epoch = true ∧ (s.noStream = true ∨ c.stream ≠ none ∨ s.home ≠ none)
    let t := s.openSlot
    let size := 64 + 64 * ceilDiv (64 + (configData e c.data).2.length) 64
    (¬room → s.change p c late eff = s.rejectCmd p e 0x0401) ∧
    (room → ¬ours → s.change p c late eff = s.rejectCmd p e 0x0403) ∧
    (room → ours → late t = false → s.change p c late eff = t.rejectCmd p e 0x0603) ∧
    (∀ id, room → ours → late t = true → t.noStream = false → (c.stream.or t.home) = some id →
      let h : AdminHeld := ⟨c.cmd, e, id, t.nextJsn id⟩
      let r := t.appendCmd id p c.channel e c.data
      (t.appendOk id size (exemptCmd e) = false → s.change p c late eff = s) ∧
      (t.appendOk id size (exemptCmd e) = true → c.atOnce = true ∨ r.durable id h.jsn = true → s.change p c late eff = r.takeEffect p h eff) ∧
      (t.appendOk id size (exemptCmd e) = true → c.atOnce = false → r.durable id h.jsn = false →
        s.change p c late eff = r.modPort p (fun x => { x with acur := none, aheld := some h }))) ∧
    (∀ id, room → ours → late t = true → t.noStream = true → c.stream = none → t.createStream.home = some id →
      let h : AdminHeld := ⟨c.cmd, e, id, t.createStream.nextJsn id⟩
      let r := (t.createStream.appendCmd id p c.channel e c.data).sealNow id
      t.createStream.appendOk id size (exemptCmd e) = true → c.atOnce = true ∨ r.durable id h.jsn = true →
        s.change p c late eff = r.takeEffect p h eff)) ∧
  (∀ (s t : State) (p : Nat) (h : AdminHeld) (eff : Effect) (st : Nat) (res : W), eff s h = (t, st, res) →
    (t.durable h.stream h.jsn = true → isActivate h.entry = false →
      s.takeEffect p h eff = t.setPort p { t.port p with acur := none, aheld := none, adone := some ⟨cmdIdOf h.entry, st, h.jsn, res⟩ }) ∧
    (t.durable h.stream h.jsn = false ∨ isActivate h.entry = true →
      s.takeEffect p h eff = t.setPort p { t.port p with acur := none, aheld := some h })) ∧
  (∀ (s : State) (p : Nat), ((s.port p).aheld = none → s.settlePort p = s) ∧
    (∀ h, (s.port p).aheld = some h → s.durable h.stream h.jsn = false → s.settlePort p = s) ∧
    (∀ h, (s.port p).aheld = some h → s.durable h.stream h.jsn = true → isActivate h.entry = false →
      s.settlePort p = s.takeEffect p h (adminEffect h)) ∧
    (∀ (h : AdminHeld) (d : Option Bytes) (w : Option W),
      h.cmd ∈ [Instr.setFeature p, .bindPort p w, .importKey p d, .setCalendar p d, .setBackground p d] → adminEffect h s h = (s, 0, 0)))

/-- R49, R74, R76, R77, R79, R80, R82, R205, R207, R208, R210, R294: effects on rings, channels and programs. The model's choices that it rests on: logs 36, 38, 39 and 47. -/
def Obligations.RingChannelProgramEffects : Prop :=
  (∀ (s t : State) (h : AdminHeld) (st : Nat) (res : W), effCreateCq s h = (t, st, res) →
    let e := h.entry
    let dflt : Prop := W512.fld e 44 2 = 0 ∧ W512.fld e 46 2 = 0
    st = 0 ∧ res = 0 ∧ { t with rings := s.rings } = s ∧ (∀ n, n ≠ W512.fld e 4 4 → t.ring n = s.ring n) ∧
    ∃ r, t.ring (W512.fld e 4 4) = some r ∧ r.addr.toNat = W512.fld e 24 8 ∧ r.headAddr.toNat = W512.fld e 32 8 ∧ r.log2 = W512.fld e 40 1 ∧
      r.port = W512.fld e 41 1 ∧ r.irq = (W512.fld e 42 1 % 2 == 1) ∧ r.stream = h.stream ∧ r.posted = 0 ∧ r.head = 0 ∧
      r.entries = [] ∧ r.queue = [] ∧ r.recovering = none ∧
      (dflt → r.holdoff = s.feats.moderation.toNat % 2 ^ 16 ∧ r.count = s.feats.moderation.toNat / 2 ^ 16 % 2 ^ 16) ∧
      (¬dflt → r.holdoff = W512.fld e 44 2 ∧ r.count = W512.fld e 46 2)) ∧
  (∀ (s t : State) (h : AdminHeld) (st : Nat) (res : W), effDeleteCq s h = (t, st, res) → st = 0 ∧ res = 0 ∧
    { t with rings := s.rings } = s ∧ t.ring (W512.fld h.entry 4 4) = none ∧ ∀ n, n ≠ W512.fld h.entry 4 4 → t.ring n = s.ring n) ∧
  (∀ (s t : State) (h : AdminHeld) (st : Nat) (res : W), effOpenChannel s h = (t, st, res) →
    let e := h.entry
    let n := W512.fld e 4 4
    st = 0 ∧ res = 0 ∧ (∀ m, m ≠ n → t.chan m = s.chan m) ∧ t.rings = s.rings ∧ t.items = s.items ∧ t.mem = s.mem ∧
    (t.group (n / 64)).live = true ∧ (t.group (n / 64)).armed = false ∧
    ∃ c, t.chan n = some c ∧ c.sqAddr.toNat = W512.fld e 24 8 ∧ c.consumedAddr.toNat = W512.fld e 32 8 ∧ c.sqLog2 = W512.fld e 40 1 ∧
      c.orderMode = W512.fld e 41 1 ∧ c.cq = W512.fld e 42 2 ∧ c.program = W512.fld e 44 4 ∧
      c.poolMin = (if W512.fld e 48 4 = 0 then 16 else W512.fld e 48 4) ∧ c.poolMax = W512.fld e 52 3 ∧ c.notice = W512.fld e 55 1 ∧
      c.stream = h.stream ∧ c.doorbell = 0 ∧ c.consumed = 0 ∧ c.stopped = false ∧ c.charged = 0 ∧ c.bufs = [] ∧ c.outq = [] ∧ c.marks = []) ∧
  (∀ (s t : State) (h : AdminHeld) (st : Nat) (res : W), effCloseChannel s h = (t, st, res) → st = 0 ∧ res = 0 ∧
    t.chan (W512.fld h.entry 4 4) = none ∧ (∀ m, m ≠ W512.fld h.entry 4 4 → t.chan m = s.chan m) ∧ t.rings = s.rings ∧ t.mem = s.mem) ∧
  (∀ (s : State) (h : AdminHeld) (head : Option W) (r : Ring),
    let n := W512.fld h.entry 4 4
    let q := W512.fld h.entry 24 1
    let moved : State := s.modRing n (fun x => { x with port := q })
    s.ring n = some r →
      (r.port = q → effBindPort head s h = (s, 0, 0)) ∧
      (r.port ≠ q → (s.port r.port).committed = true → (s.port r.port).linkUp = true → effBindPort head s h = (moved.writeLate q, 0, 0)) ∧
      (r.port ≠ q → (s.port r.port).committed = false ∨ (s.port r.port).linkUp = false →
        effBindPort head s h = ((moved.recoverRing n 3 head).writeLate q, 0, 0)) ∧
      moved.ring n = some { r with port := q } ∧ (∀ m, m ≠ n → moved.ring m = s.ring m)) ∧
  (∀ (s t : State) (h : AdminHeld) (data : Option Bytes) (codeAt dataAt st : Nat) (res : W),
    effLoadProgram data codeAt dataAt s h = (t, st, res) →
    let e := h.entry
    let len := W512.fld e 16 4
    let image := padTo len (data.getD [])
    let n := W512.fld e 4 4
    let code := 4096 * ((len + 4095) / 4096)
    let area := s.newArea e
    st = 0 ∧ res = 0 ∧ t.chans = s.chans ∧ t.rings = s.rings ∧ (∀ m, m ≠ n → tget t.progs m = tget s.progs m) ∧
    (∃ q g, tget t.progs n = some q ∧ q.placed = true ∧ q.pages = W512.fld e 40 4 ∧ q.key = W512.fld e 24 1 ∧ g ∈ q.gens ∧
      g.gen = W512.fld e 28 4 ∧ g.gen ≤ q.highest ∧ g.key = W512.fld e 24 1 ∧ g.serial = (W512.fld e 25 1 % 2 == 1) ∧ g.entry = W512.fld e 32 4 ∧
      g.codeLen = W512.fld e 36 4 ∧ g.dataLen = len ∧ g.codeAt = codeAt ∧ g.absent = false ∧ g.sha = Config.sha256 image ∧
      g.turn = (if W512.fld e 44 2 = 0 then 2000 else W512.fld e 44 2) ∧
      (area ≠ 0 → q.dataAt = dataAt)) ∧
    (Memory.wf s.mem = true → (area = 0 ∨ dataAt + area ≤ codeAt ∨ codeAt + code ≤ dataAt) →
      (∀ i, i < len → Memory.read t.mem (codeAt + i) = image.getD i 0) ∧
      (∀ i, len ≤ i → i < code → Memory.read t.mem (codeAt + i) = 0) ∧
      (∀ i, i < area → Memory.read t.mem (dataAt + i) = 0) ∧
      (∀ a, (a < codeAt ∨ codeAt + code ≤ a) → (a < dataAt ∨ dataAt + area ≤ a) → Memory.read t.mem a = Memory.read s.mem a) ∧
      (codeAt % 4096 = 0 → dataAt % 4096 = 0 →
        (∀ j, j < (len + 4095) / 4096 → (t.frameWord (codeAt / 4096 + j)).key = 0 ∧ (t.frameWord (codeAt / 4096 + j)).guard_ = false) ∧
        (∀ j, 4096 * j < area → (t.frameWord (dataAt / 4096 + j)).key = BitVec.ofNat 4 (W512.fld e 24 1) ∧
          (t.frameWord (dataAt / 4096 + j)).guard_ = true)))) ∧
  (∀ (s t : State) (h : AdminHeld) (st : Nat) (res : W), effActivateProgram s h = (t, st, res) →
    let n := W512.fld h.entry 4 4
    let gen := W512.fld h.entry 28 4
    st = 0 ∧ res = 0 ∧ { t with progs := s.progs } = s ∧ (∀ m, m ≠ n → tget t.progs m = tget s.progs m) ∧
    ∀ q, tget s.progs n = some q → tget t.progs n = some { q with
      gens := q.gens.map (fun g => if g.gen = gen then { g with switch := some (W512.fld h.entry 32 8) } else g) }) ∧
  (∀ (s : State) (n gen : Nat) (g : Gen), s.genOf n gen = some g →
    (s.mayRetire n g = false → exec (.generationRetire n gen) s = .next s) ∧
    (s.mayRetire n g = true → ∃ t, exec (.generationRetire n gen) s = .next t ∧ t.mem = s.mem ∧ t.items = s.items ∧
      (∀ m, m ≠ n → tget t.progs m = tget s.progs m) ∧ (∀ q, tget s.progs n = some q →
        tget t.progs n = some { q with gens := q.gens.filter (fun x => x.gen != gen) }) ∧
      (g.absent = false → ∀ j, 4096 * j < g.dataLen → (t.frameWord (g.codeAt / 4096 + j)).key = 0 ∧
        (t.frameWord (g.codeAt / 4096 + j)).guard_ = true)))

/-- R73, R119, R128, R129, R159, R488, R496, R497, R499, R500, R503: settings. The model's choices that it rests on: logs 45, 63 and 119. -/
def Obligations.FeatureTimePowerEffects : Prop :=
  (∀ (s : State) (h : AdminHeld),
    let v : W := BitVec.ofNat 64 (W512.fld h.entry 32 8)
    let stored (f : Feats → Feats) : Prop := effSetFeature s h = ({ s with feats := f s.feats }, 0, 0)
    (W512.fld h.entry 24 2 = 2 → stored (fun x => { x with journalSplit := v })) ∧
    (W512.fld h.entry 24 2 = 3 → stored (fun x => { x with sealAlg := v })) ∧
    (W512.fld h.entry 24 2 = 4 → stored (fun x => { x with benchSplit := v })) ∧
    (W512.fld h.entry 24 2 = 5 → s.feats.coreClock = v → effSetFeature s h = (s, 0, 0)) ∧
    (W512.fld h.entry 24 2 = 5 → s.feats.coreClock ≠ v → effSetFeature s h =
      ({ s with feats := { s.feats with coreClock := v }, power := { s.power with clkChange := true } }, 0, 0)) ∧
    (W512.fld h.entry 24 2 = 6 → effSetFeature s h = (({ s with feats := { s.feats with timeQuality := v } } : State).judge.settle, 0, 0)) ∧
    (W512.fld h.entry 24 2 = 7 → effSetFeature s h = (({ s with feats := { s.feats with unsync := v } } : State).judge.settle, 0, 0)) ∧
    (W512.fld h.entry 24 2 = 8 → stored (fun x => { x with tdes := v })) ∧
    (W512.fld h.entry 24 2 = 9 → stored (fun x => { x with notices := v })) ∧
    (W512.fld h.entry 24 2 = 10 → stored (fun x => { x with moderation := v })) ∧
    (W512.fld h.entry 24 2 = 1 →
      let set : State := { s with feats := { s.feats with journalMode := v } }
      (v.toNat % 4 = 0 → s.link.pair = 0 → s.link.prop = none → effSetFeature s h = (set, 0, 0)) ∧
      (v.toNat % 4 = 0 → s.link.pair = 2 ∨ s.link.pair = 3 →
        effSetFeature s h = ((set.sendPair 4 0 set.ownNow set.link.twinSerial []).goSolo 2, 0, 0)) ∧
      (v.toNat % 4 = 1 → s.feats.journalMode.toNat % 4 = 2 → effSetFeature s h =
        (set.modPrimaries (fun x => { x with durableTo := min (x.nextJsn - 1) (h.jsn - 1) }), 0, 0)) ∧
      (v.toNat % 4 = 2 ∨ (v.toNat % 4 = 1 ∧ s.feats.journalMode.toNat % 4 ≠ 2) → effSetFeature s h = (set.settle, 0, 0)))) ∧
  (∀ (s : State) (h : AdminHeld),
    (W512.fld h.entry 24 1 = 0 → effSetTime s h = ({ s with
      free := s.free + 1, time := { s.time with armed := some (W512.fld h.entry 32 8, s.time.ns), await := false } }, 0, 0)) ∧
    (W512.fld h.entry 24 1 ≠ 0 → effSetTime s h = ({ s with
      free := s.free + 1, time := { s.time with armed := none, await := true } }, 0, 0))) ∧
  (∀ (s : State) (h : AdminHeld) (data : Option Bytes), effSetCalendar data s h =
    ({ s with cal := (calEntries h.entry data).foldl Calendar.write s.cal }, 0, 0)) ∧
  (∀ (c : Calendar) (e : Bytes),
    let k := bfld e 0 1
    let i := bfld e 2 2
    let clear : Prop := bfld e 1 1 = 1
    let d := c.write e
    (k = 1 → d.key = c.key ∧ d.win = c.win ∧ (∀ j, j ≠ i → tget d.cut j = tget c.cut j) ∧ (clear → tget d.cut i = none) ∧
      (¬clear → tget d.cut i = some ⟨BitVec.ofNat 32 (bfld e 4 4), bfld e 8 8, 0⟩)) ∧
    (k = 2 → d.cut = c.cut ∧ d.win = c.win ∧ (∀ j, j ≠ i → tget d.key j = tget c.key j) ∧ (clear → tget d.key i = none) ∧
      (¬clear → tget d.key i = some ⟨bfld e 4 4, bfld e 8 8, 0⟩)) ∧
    (k = 3 → d.cut = c.cut ∧ d.key = c.key ∧ (∀ j, j ≠ i → tget d.win j = tget c.win j) ∧ (clear → tget d.win i = none) ∧
      (¬clear → tget d.win i = some { duration := bfld e 4 4, instant := bfld e 8 8, period := bfld e 16 8 }))) ∧
  (∀ (s : State) (h : AdminHeld) (data : Option Bytes), effSetBackground data s h =
      ({ s.keepDue ((bgEntries h.entry data).map (fun x => bfld x 0 1)) with bg := (bgEntries h.entry data).foldl bgWrite s.bg }, 0, 0) ∧
    (∀ a r, s.unitDue a r ≤ s.time.ns → (∃ t, tget s.bgLast (64 * a + r) = some t) → r < 64 →
      (effSetBackground data s h).1.unitDue a r = s.unitDue a r ∧ (effSetBackground data s h).1.unitLatest a r = s.unitLatest a r)) ∧
  (∀ (t : Tbl BgAct) (e : Bytes),
    let a := bfld e 0 1
    (∀ j, j ≠ a → tget (bgWrite t e) j = tget t j) ∧ (bfld e 1 1 = 1 → tget (bgWrite t e) a = none) ∧
    (bfld e 1 1 ≠ 1 → tget (bgWrite t e) a = some {
      period := if bfld e 4 4 = 0 then (bgDefault a).period else bfld e 4 4 * 1000,
      latest := if bfld e 8 4 = 0 then (bgDefault a).latest else bfld e 8 4 * 1000, window := bfld e 2 1 })) ∧
  (∀ (s : State) (h : AdminHeld),
    let dst := W512.fld h.entry 24 1
    let mask : BitVec 96 := BitVec.ofNat 96 (W512.fld h.entry 28 12)
    let t : State := { s with power := { s.power with
      target := some dst, park := mask, quiesced := s.power.quiesced && decide (2 ≤ dst) } }
    (dst = 3 → effSetPower s h = (t.sealAll.settle, 0, 0)) ∧
    (dst = 2 → effSetPower s h = (t.settle, 0, 0)) ∧
    (dst ≤ 1 → 2 ≤ s.power.state → effSetPower s h = (t.settle, 0, 0)) ∧
    (dst ≤ 1 → s.power.state < 2 → effSetPower s h = (((List.range 96).foldl (fun u c => u.maskCore mask c) t).settle, 0, 0))) ∧
  (∀ (s : State) (mask : BitVec 96) (c : Nat),
    let k := s.core c
    (mask.getLsbD c = true → k.run = .active → k.occupied = true →
      s.maskCore mask c = s.setCore c { k with parkFrom := some s.time.ns }) ∧
    (mask.getLsbD c = true → k.run = .active → k.occupied = false →
      s.maskCore mask c = s.setCore c { k with run := .parked, parkFrom := none }) ∧
    (mask.getLsbD c = false → k.run = .parked →
      s.maskCore mask c = (s.setCore c { k with run := .active, parkFrom := none }).evalEvc (c / 24)) ∧
    (mask.getLsbD c = false → k.run ≠ .parked → s.maskCore mask c = s.setCore c { k with parkFrom := none })) ∧
  (∀ (s : State) (h : AdminHeld),
    let t := ((({ s with power := { s.power with quiesced := true } } : State).settle.postAll (fun _ => true)).sealAll)
    effQuiesce s h = (t, 0, BitVec.ofNat 64 (t.items.filter (fun i => !(i.state == .ended))).length)) ∧
  (∀ (s : State) (h : AdminHeld) (data : Option Bytes) (p : Nat),
    let v := Config.firmwareVersion (padTo (W512.fld h.entry 16 4) (data.getD []))
    let slot : FwSlot := ⟨v.1, v.2, true⟩
    effStage data s h = ({ s with ident := { s.ident with
      fwStaged := some slot, fwSlots := s.ident.fwSlots.set (1 - s.ident.fwRunning) slot } }, 0, 0) ∧
    effActivateFw p s h = ({ s with power := { s.power with fwSwitch := some p } }, 0, 0))

/-- R243, R249, R254 to R257, R277, R459 to R461: keys, tokens and microcode. The model's choices that it rests on: logs 11, 14 and 46. -/
def Obligations.KeyTokenMicrocodeEffects : Prop :=
  (∀ (s t : State) (h : AdminHeld) (data : Option Bytes) (st : Nat) (res : W), effImportKey data s h = (t, st, res) →
    let e := h.entry
    let d := padTo (W512.fld e 16 4) (data.getD [])
    let n := W512.fld e 4 4
    let v := s.vslot n
    let key := (s.importedKey e d).getD []
    st = 0 ∧ res = 0 ∧ t.mem = s.mem ∧ t.cores = s.cores ∧
    (W512.fld e 24 1 = 2 → t = { s with vault := { s.vault with sealKeys := s.vault.sealKeys ++ [(n, BitVec.ofNat 256 (beVal key))] } }) ∧
    (W512.fld e 24 1 ≠ 2 → (∀ m, m ≠ n → t.vslot m = s.vslot m) ∧ (∀ b, b < 4 → ∀ c ∈ (t.bench b).keyCache, c.1 ≠ n) ∧
      (∀ k, Config.keyBlockHeader (importBlock d) = some k → t.vslot n = {
        st := .loaded, alg := k.alg, size := Sys2Proof.Machine.sizeOf k, usage := k.usage, mode := k.mode, exp := k.exp, ver := k.ver,
        gen := if v.st = .empty ∨ W512.fld e 25 1 % 2 = 1 then v.gen else min 0xFFFFFFFF (v.gen + 1),
        hash := Config.sha256 d, key := key, epoch := s.vault.epoch
        copies := [0, 1, 2, 3].map (fun b => bytesOf (8 * ((key.length + 7) / 8) + 8) (Config.keyWrapByte (s.bench b).kek key)) }))) ∧
  (∀ k : Config.KeyHeader, headerOk k = true →
    (k.version = 0x44 ∨ k.version = 0x42) ∧ (∀ b ∈ k.blocks, b.1 ∈ [0x5042, 0x5453, 0x3042]) ∧
    ((k.alg = 0x45 ∨ k.alg = 0x51) ↔ (k.blocks.lookup 0x3042).isSome = true) ∧
    (k.alg = 0x52 → k.pubExp % 2 = 1 ∧ 3 ≤ k.pubExp ∧ k.pubExp < 2 ^ 32 ∧ (Sys2Proof.Machine.sizeOf k = 2048 ∨ Sys2Proof.Machine.sizeOf k = 3072 ∨ Sys2Proof.Machine.sizeOf k = 4096)) ∧
    (k.alg ≠ 0x45 → k.alg ≠ 0x51 → Sys2Proof.Machine.sizeOf k = k.bits)) ∧
  (∀ (s : State) (h : AdminHeld) (p : Nat) (wr : Bool),
    let e := h.entry
    let kind := W512.fld e 24 1
    let tok := if kind = 2 ∧ s.vault.rootOut = true then s.vault.root else s.newToken e
    let at_ : W := BitVec.ofNat 64 (W512.fld e 8 8 + 48)
    let write : Prop := wr = true ∧ (s.port p).masters = true
    (kind ≠ 2 → write → effIssueToken p wr s h = (s.emitOut (.hostWrite p at_ tok false), 0, 48)) ∧
    (kind ≠ 2 → ¬write → effIssueToken p wr s h = (s, 0x0107, 0)) ∧
    (kind = 2 → write → effIssueToken p wr s h = ({ s.emitOut (.hostWrite p at_ tok false) with
      vault := { s.vault with active := true, root := tok, rootOut := false } }, 0, 48)) ∧
    (kind = 2 → ¬write → effIssueToken p wr s h = ({ s with
      vault := { s.vault with active := true, root := tok, rootOut := true } }, 0x0107, 0))) ∧
  (∀ (s : State) (e : W512),
    let kind := W512.fld e 24 1
    let t := s.newToken e
    let gen := (s.vslot (W512.fld e 4 4)).gen + (if W512.fld e 25 1 / 2 % 2 = 1 then 1 else 0)
    tkFormat t = (if kind = 0 then 1 else 2) ∧ tkFlags t = W512.fld e 25 1 % 2 ∧ tkRights t = W512.fld e 26 2 ∧ tkSlot t = W512.fld e 4 4 ∧
    tkGen t = (if kind = 0 then gen else s.vault.provGen) % 2 ^ 32 ∧ tkChannel t = W512.fld e 28 2 ∧ tkSpan t = W512.fld e 31 1 ∧
    tkSealId t = W512.fld e 30 1 ∧ tkFrom t = W512.fld e 32 8 ∧ tkUntil t = W512.fld e 40 8 ∧ t.length = 48 ∧
    (∀ k, s.sealKey (W512.fld e 30 1) = some k → t.drop 32 = sealOf k (t.take 32))) ∧
  (∀ (s t : State) (h : AdminHeld) (p : Nat) (wr : Bool) (st : Nat) (res : W), effRevokeSlot p wr s h = (t, st, res) →
    let e := h.entry
    let n := W512.fld e 4 4
    let fl := W512.fld e 24 1
    let v := s.vslot n
    t.mem = s.mem ∧ t.cores = s.cores ∧ (∀ m, m ≠ n → t.vslot m = s.vslot m) ∧
    (fl = 0 → st = 0 ∧ res = 0 ∧ t.vslot n = { v with gen := min 0xFFFFFFFF (v.gen + 1) } ∧ t.vault.provGen = s.vault.provGen ∧ t.vault.sealKeys = s.vault.sealKeys ∧
      ∀ b, b < 4 → ∀ c ∈ (t.bench b).keyCache, c.1 ≠ n) ∧
    (fl = 1 → st = 0 ∧ res = 0 ∧ t.vslot n = { gen := min 0xFFFFFFFF (v.gen + 1) } ∧ t.vault.provGen = s.vault.provGen ∧ t.vault.sealKeys = s.vault.sealKeys ∧
      ∀ b, b < 4 → ∀ c ∈ (t.bench b).keyCache, c.1 ≠ n) ∧
    (fl = 4 → st = 0 ∧ res = 0 ∧ t.vslot n = v ∧ t.vault.provGen = s.vault.provGen ∧
      t.vault.sealKeys = s.vault.sealKeys.filter (fun k => k.1 != n) ∧ ∀ b, b < 4 → ∀ k ∈ (t.bench b).tokCache, tkSealId k ≠ n) ∧
    (fl = 2 → t.vslot n = v ∧ t.vault.provGen = s.vault.provGen + 1 ∧ t.vault.sealKeys = s.vault.sealKeys ∧
      ∃ root : Bytes, tkFormat root = 2 ∧ tkRights root = 0x0700 ∧ tkSlot root = 0 ∧ tkSpan root = 20 ∧ tkSealId root = 0 ∧
        tkGen root = (s.vault.provGen + 1) % 2 ^ 32 ∧ tkUntil root = 2 ^ 64 - 1 ∧ t.vault.root = root ∧
        (s.durable h.stream h.jsn = false → st = 0 ∧ res = 0 ∧ t.vault.rootOut = true ∧ t.out = s.out) ∧
        (s.durable h.stream h.jsn = true → wr = true → (s.port p).masters = true → st = 0 ∧ res = 48 ∧ t.vault.rootOut = false ∧
          t.out = .hostWrite p (BitVec.ofNat 64 (W512.fld e 8 8 + 48)) root false :: s.out) ∧
        (s.durable h.stream h.jsn = true → wr = false ∨ (s.port p).masters = false → st = 0x0107 ∧ t.vault.rootOut = true ∧ t.out = s.out))) ∧
  (∀ (s : State) (h : AdminHeld) (p : Nat) (wr : Bool),
    let write : Prop := wr = true ∧ (s.port p).masters = true
    (W512.fld h.entry 24 1 ≠ 2 → effDeliverRoot p wr s h = (s, 0, 0)) ∧
    (W512.fld h.entry 24 1 = 2 → write → effDeliverRoot p wr s h = ({ s.emitOut (.hostWrite p
      (BitVec.ofNat 64 (W512.fld h.entry 8 8 + 48)) s.vault.root false) with vault := { s.vault with rootOut := false } }, 0, 48)) ∧
    (W512.fld h.entry 24 1 = 2 → ¬write → effDeliverRoot p wr s h = ({ s with vault := { s.vault with rootOut := true } }, 0x0107, 0))) ∧
  (∀ (s : State) (h : AdminHeld) (data : Option Bytes) (m : UImage), imageOf (padTo (W512.fld h.entry 16 4) (data.getD [])) = some m →
    ∃ t, effLoadMicrocode data s h = (t, 0, 0) ∧ t.ucode.id = m.id ∧ t.ucode.binds = m.binds ∧ t.ucode.words = m.words ∧ t.ucode.loaded = true ∧
      t.ucode.absent = false ∧ t.ucode.highest = max s.ucode.highest m.id ∧ { t with ucode := s.ucode, cores := s.cores, benches := s.benches } = s ∧
      (∀ b a, b < 4 → 0x6000 ≤ a → tget (t.bench b).wordErr a = none) ∧ (∀ b, b < 4 → { t.bench b with wordErr := (s.bench b).wordErr } = s.bench b) ∧
      (∀ c, t.core c = { s.core c with uwait := none } ∨ t.core c = s.core c) ∧ ∀ c, (t.core c).g = (s.core c).g) ∧
  (∀ (s : State) (h : AdminHeld) (data : Option Bytes),
    let d := padTo (W512.fld h.entry 16 4) (data.getD [])
    effRegisterKey data s h = ({ s with ident := { s.ident with
      ucodeKey := some (Config.sha384 (BitVec.ofNat 8 (bfld d 48 1) :: d.drop 64)) } }, 0, 0))

/-- R157, R158, R192 to R194, R199, R201, R202: pairing and adoption. The model's choices that it rests on: logs 40, 54, 55, 67 and 68. -/
def Obligations.PairTwinAndAdoption : Prop :=
  (∀ (s : State) (p : Nat) (e : W512), p < 2 → (s.port p).acur = some e → W512.fld e 0 1 = 0x60 → s.adminRuns p e = true → s.su.fault = false →
    (∀ st, s.pairBad e = some st → exec (.pairTwin p) s = .next (s.rejectCmd p e st)) ∧
    (s.pairBad e = none → s.joining = false →
      exec (.pairTwin p) s = .next (s.change p { cmd := .pairTwin p, entry := e } noLate effPairTwin)) ∧
    (s.pairBad e = none → s.joining = true → exec (.pairTwin p) s = .next
      (({ s.setPort p { s.port p with acur := none, aheld := some ⟨.pairTwin p, e, 0, 0⟩ } with
        link := { s.link with joins := some p } } : State).startPairing (W512.fld e 24 1) (W512.fld e 32 8) (16 - s.link.twin.own)))) ∧
  (∀ (s : State) (h : AdminHeld), effPairTwin s h =
    (s.startPairing (W512.fld h.entry 24 1) (W512.fld h.entry 32 8) s.pairOwn, 0, 0)) ∧
  (∀ (s : State) (mode twin own : Nat), s.linkUp = false → ∃ t : State, s.startPairing mode twin own = t ∧ t.ownInForce = own ∧
    t.area1Used = true ∧ t.link.prop = some { mode := mode, twin := twin, own := own, at_ := s.time.ns } ∧ t.link.pair = s.link.pair ∧
    (∀ a x, t.area a = some x → s.area a = some x ∧ x.role ≠ .superseded)) ∧
  (∀ (s : State) (event : Nat), ∃ t : State, s.goSolo event = (t.deviceConfig event).settle ∧ t.link.pair = 0 ∧ t.link.prop = none ∧
    t.link.rxProp = none ∧ t.feats.journalMode.toNat % 4 = 0 ∧ (∀ a x, t.area a = some x → x.role ≠ .mirror ∧ ∃ y, s.area a = some y ∧ x.id = y.id) ∧
    t.mem = s.mem ∧ t.time = s.time ∧ t.items = s.items ∧ t.vault = s.vault) ∧
  (∀ (s : State) (e : W512),
    let id := W512.fld e 32 8
    let kind := W512.fld e 24 1
    let fields : Prop := commonOk e = true ∧ W512.fld e 16 4 = 0 ∧ W512.fld e 4 4 = 0 ∧ kind < 2 ∧ W512.fld e 25 7 = 0 ∧ W512.fld e 40 16 = 0
    let may : Prop := (∃ st, s.stream id = some st ∧ st.role = .mirror) ∧ 3 ≤ s.link.pair ∧ s.link.pair ≤ 5 ∧
      (kind = 0 → s.linkUp = false ∧ s.link.downAt + 100000 ≤ s.time.ns) ∧ (kind ≠ 0 → s.link.pair = 3)
    (¬fields → s.adoptBad e = some 0x0602) ∧ (fields → ¬may → s.adoptBad e = some 0x0603) ∧ (fields → may → s.adoptBad e = none)) ∧
  (∀ (s : State) (p : Nat) (e : W512) (heads : List (Nat × Option W)), p < 2 → (s.port p).acur = some e → W512.fld e 0 1 = 0x61 →
    s.adminRuns p e = true → s.su.fault = false →
    let id := W512.fld e 32 8
    (W512.fld e 24 1 ≠ 1 →
      (∀ st, s.adoptBad e = some st → exec (.adoptFailed p heads) s = .next (s.rejectCmd p e st).settleAll) ∧
      (∀ a st, s.adoptBad e = none → s.areaOf id = some a → s.stream id = some st →
        (st.logSz ≤ st.used + 3968 ∨ 0x800000 < st.stagedBytes + 3968 → exec (.adoptFailed p heads) s = .next s.settleAll) ∧
        (st.used + 3968 < st.logSz → st.stagedBytes + 3968 ≤ 0x800000 →
          let t := ((s.setArea a (some { st with role := .superseded })).goSolo 2).openSlot
          ∃ u j, t.adopt p e a st st.rxStaged (some heads) = (u, j) ∧ exec (.adoptFailed p heads) s = .next (u.setPort p { u.port p with
            acur := none, aheld := none, adone := some ⟨cmdIdOf e, 0, j, 0⟩ }).settleAll))) ∧
    (W512.fld e 24 1 = 1 →
      (∀ st, s.adoptBad e = some st → exec (.adoptPlanned p) s = .next (s.rejectCmd p e st)) ∧
      (s.adoptBad e = none → s.link.adopting ≠ none → exec (.adoptPlanned p) s = .next s) ∧
      (∀ st, s.adoptBad e = none → s.link.adopting = none → s.stream id = some st → exec (.adoptPlanned p) s = .next
        (({ s with link := { s.link with adopting := some (id, p) } } : State).sendFence 1 id st.adoption 0)))) ∧
  (∀ (s : State) (id jsn p a : Nat) (e : W512) (st : Stream), p < 2 → s.link.adopting = some (id, p) → s.areaOf id = some a →
    s.stream id = some st → (s.port p).acur = some e →
    (st.role ≠ .mirror ∨ st.logSz ≤ st.used + 3968 ∨ 0x800000 < st.stagedBytes + 3968 → s.adoptReleased id jsn = s) ∧
    (st.role = .mirror → st.used + 3968 < st.logSz → st.stagedBytes + 3968 ≤ 0x800000 →
      let r := (({ s with link := { s.link with adopting := none } } : State).openSlot).adopt p e a st jsn none
      let u := r.1.sendFence 3 id (st.adoption + 1) (jsn + 1)
      (u.durable id r.2 = true → s.adoptReleased id jsn = u.setPort p { u.port p with
        acur := none, aheld := none, adone := some ⟨cmdIdOf e, 0, r.2, 0⟩ }) ∧
      (u.durable id r.2 = false → s.adoptReleased id jsn = u.setPort p { u.port p with
        acur := none, aheld := some ⟨.adoptPlanned p, e, id, r.2⟩ }))) ∧
  (∀ (s : State) (p a l : Nat) (e : W512) (st : Stream) (heads : Option (List (Nat × Option W))), a < 2 →
    (∀ y, s.area (1 - a) = some y → y.id ≠ st.id) → (s.adopt p e a st l heads).2 = l + 2) ∧
  (∀ (s : State) (st : Stream) (l kind : Nat), let x := s.takeStream st l kind
    x.id = st.id ∧ x.role = .primary ∧ x.adoption = st.adoption + 1 ∧ x.nextJsn = l + 1 ∧ x.serial = s.ident.serial.toNat ∧
    (∀ r, r ∈ x.log ↔ r ∈ st.log ∧ r.record.jsn ≤ l) ∧ (∀ r, r ∈ x.cfg ↔ r ∈ st.cfg ∧ r.jsn ≤ l) ∧
    x.lastMirrored = (if kind = 0 then l else 0) ∧ x.released = none) ∧
  (∀ (s : State) (p : Nat) (heads : List (Nat × Option W)), 2 ≤ p → exec (.pairTwin p) s = .fault .noSuchUnit ∧
    exec (.adoptFailed p heads) s = .fault .noSuchUnit ∧ exec (.adoptPlanned p) s = .fault .noSuchUnit)

/-- R184: the bytes of a frame. -/
def Obligations.FrameBytes : Prop :=
  ∀ f : Frame, f.payload.length ≤ 4096 →
    f.bytes.length = 64 * ((32 + f.payload.length + 63) / 64) ∧
    bfld f.bytes 0 1 = f.ftype.toNat ∧ bfld f.bytes 1 1 = f.fflags.toNat ∧ bfld f.bytes 2 2 = f.payload.length ∧
    bfld f.bytes 4 4 = f.fseq.toNat ∧ bfld f.bytes 8 4 = f.ack.toNat ∧ bfld f.bytes 12 4 = f.credit.toNat ∧
    bfld f.bytes 16 12 = f.fspec.toNat ∧ bfld f.bytes 28 4 = f.fcrc.toNat ∧
    (f.bytes.drop 32).take f.payload.length = f.payload ∧ (∀ b ∈ f.bytes.drop (32 + f.payload.length), b = 0) ∧
    Frame.ofBytes f.bytes = { f with good := true } ∧
    f.sealed.fcrc = BitVec.ofNat 32 (crc32c (f.bytes.take 28 ++ f.payload)) ∧ Frame.ofBytes f.sealed.bytes = { f.sealed with good := true }

/-- R162, R184 to R188, R190, R191, R194, R202: frames received. The model's choices that it rests on: logs 66 and 70. -/
def Obligations.FramesReceived : Prop :=
  (∀ (s : State) (sl : Nat) (f : Frame) (row : Instr), row ∈ ([.recordFrame sl f, .tailFrame sl f, .stagedFrame sl f, .ackFrame sl f,
      .nakFrame sl f, .idleFrame sl f, .heartbeatFrame sl f, .timeFrame sl f, .pairPropose sl f, .pairAgree sl f, .pairCatchupDone sl f,
      .pairUnpair sl f, .pairRefuse sl f, .fenceRequestRelease sl f, .fenceReleased sl f, .fenceAdopted sl f] : List Instr) →
    (2 ≤ sl → exec row s = .fault .noSuchUnit) ∧
    (sl < 2 → s.linkRuns = false → exec row s = .next s) ∧
    (sl < 2 → s.linkRuns = true → exec row s = .next (s.rxFrame sl f))) ∧
  (∀ (s : State) (sl : Nat) (f : Frame),
    let x := s.link.sub sl
    let u : State := { s with link := s.link.setSub sl { x with lastGood := s.time.ns } }
    let op := bfld f.payload 0 1
    let sound : Prop := f.good = true ∧ f.fcrc = f.crc ∧ f.ftype.toNat ≤ 9 ∧ f.payload.length ≤ 4096 ∧ (f.ftype = 8 → 1 ≤ op ∧ op ≤ 5) ∧ (f.ftype = 9 → 1 ≤ op ∧ op ≤ 3)
    (x.up = false → s.rxFrame sl f = s) ∧
    (x.up = true → f.good = false → s.rxFrame sl f = { s with link := { s.link with discarded := s.link.discarded + 1 } }) ∧
    (x.up = true → f.good = true → ¬sound → s.rxFrame sl f = { u with link := { u.link with discarded := u.link.discarded + 1 } }) ∧
    (x.up = true → sound → (f.ftype = 1 ∨ f.ftype = 2 ∨ f.ftype = 8 ∨ f.ftype = 9) → s.rxFrame sl f = (u.onAck f).seqIn f) ∧
    (x.up = true → sound → f.ftype = 3 → s.rxFrame sl f = (u.onAck f).onStagedFrame f) ∧
    (x.up = true → sound → f.ftype = 5 → s.rxFrame sl f = (u.onAck f).resendFrom (f.fspec.setWidth 32)) ∧
    (x.up = true → sound → f.ftype = 6 → s.rxFrame sl f = (u.onAck f).onHeartbeatFrame f) ∧
    (x.up = true → sound → f.ftype = 7 → s.rxFrame sl f = (u.onAck f).onTime f) ∧
    (x.up = true → sound → f.ftype = 0 ∨ f.ftype = 4 → s.rxFrame sl f = u.onAck f)) ∧
  (∀ (s : State) (f : Frame), s.link.txWait = [] →
    let n := (f.ack - s.link.peerAck).toNat
    let t := s.onAck f
    (n ≠ 0 → n ≤ (s.link.txSeq - s.link.peerAck).toNat → t.link.peerAck = f.ack ∧ t.link.unacked = s.link.unacked.drop n ∧
      t.link.lastAckAt = s.time.ns) ∧
    (n = 0 ∨ (s.link.txSeq - s.link.peerAck).toNat < n → t.link.peerAck = s.link.peerAck ∧ t.link.unacked = s.link.unacked) ∧
    (s.link.txCredit + (f.credit - s.link.peerCredit).toNat ≤ 8192 → t.link.peerCredit = f.credit ∧
      t.link.txCredit = s.link.txCredit + (f.credit - s.link.peerCredit).toNat) ∧
    { t with link := s.link } = s) ∧
  (∀ (s : State) (f : Frame),
    let l := s.link
    let t : State := { s with link := { l with rxNext := l.rxNext + 1, rxFreed := l.rxFreed + f.flits } }
    (f.fseq = l.rxNext → s.roomFor f = true → (∀ x ∈ (s.takeFrame f).link.rxHeld, x.fseq ≠ (s.takeFrame f).link.rxNext) → ∃ g, s.seqIn f =
      { s.takeFrame f with link := { (s.takeFrame f).link with gapSince := g } } ∧ (g = none ↔ (s.takeFrame f).link.rxHeld = [])) ∧
    (2 ^ 31 ≤ (f.fseq - l.rxNext).toNat → s.seqIn f = s) ∧
    (f.ftype ≠ 1 → s.roomFor f = true) ∧
    (∀ st, f.ftype = 1 → s.area f.myArea = some st → st.role = .mirror →
      (s.roomFor f = true ↔ st.stagedBytes + f.payload.length ≤ 0x800000)) ∧
    (f.fseq ≠ l.rxNext ∨ s.roomFor f = false → (f.fseq - l.rxNext).toNat < 2 ^ 31 → (∀ x ∈ l.rxHeld, x.fseq ≠ f.fseq) →
      (l.rxHeld.length < 63 → s.seqIn f = { s with link := { l with rxHeld := l.rxHeld ++ [f], gapSince := some (l.gapSince.getD s.time.ns) } }) ∧
      (64 ≤ l.rxHeld.length → s.seqIn f = s.sendNak)) ∧
    (f.ftype = 1 → s.takeFrame f = t.onRecord f) ∧ (f.ftype = 2 → s.takeFrame f = t.onTail f) ∧
    (f.ftype = 8 → s.takeFrame f = (t.onPair f.payload).settleAll) ∧ (f.ftype = 9 → s.takeFrame f = (t.onFence f.payload).settleAll)) ∧
  (∀ (s : State) (f : Frame) (st : Stream) (r : Record), s.area f.myArea = some st → st.role = .mirror → f.last = true → f.frag = 0 →
    st.frags = [] → 0x4000000 ≤ f.areaOff → Record.ofBytes f.split.1 = some r → ¬(r.rtype = 8 ∧ r.tfld 32 1 = 5 ∧ r.tfld 33 1 = 0x60) →
    ∃ x : Stream, s.onRecord f = s.setArea f.myArea (some x) ∧ x.id = st.id ∧ x.role = .mirror ∧ x.nextJsn = max st.nextJsn (r.jsn + 1) ∧
      (∃ e ∈ x.log, e.record = r ∧ e.off = f.areaOff - 0x4000000) ∧ (∀ e ∈ st.log, e.record.jsn ≠ r.jsn → e ∈ x.log) ∧
      x.adoption = (if r.rtype = 10 then max st.adoption (bfld r.body 24 4) else st.adoption) ∧
      x.stagedBytes = st.stagedBytes + f.split.1.length ∧
      x.rxStaged = (if r.jsn = st.rxStaged + 1 then r.jsn else st.rxStaged)) ∧
  (∀ (s : State) (id jsn : Nat) (st : Stream), s.stream id = some st → st.role = .primary →
    (s.onStaged id jsn).stream id = some { st with staged := max st.staged (min jsn (st.nextJsn - 1)) }) ∧
  (∀ (s : State) (seq : BitVec 32), let t := s.resendFrom seq
    t.link.unacked = s.link.unacked ∧ t.link.txSeq = s.link.txSeq ∧ t.mem = s.mem ∧
    (∀ q ∈ s.link.unacked, (q.2.fseq - seq).toNat < 2 ^ 31 →
      Out.frame s.anySub ({ q.2 with ack := s.link.rxNext, credit := BitVec.ofNat 32 s.link.rxFreed } : Frame).sealed ∈ t.out) ∧
    t.link.resends = s.link.resends + (s.link.unacked.filter (fun q => decide ((q.2.fseq - seq).toNat < 2 ^ 31))).length) ∧
  (∀ (s : State) (f : Frame),
    let p := f.payload
    let t : State := { s with link := { s.link with time := some (bfld p 0 8, s.time.ns) } }
    let theta : Int := ((((s.time.ns : Nat) : Int) - (bfld p 0 8 : Nat)) - (((bfld p 16 8 : Nat) : Int) - (bfld p 8 8 : Nat))) / 2
    (bfld p 16 8 = 0 → s.onTime f = t) ∧ (bfld p 16 8 ≠ 0 → s.onTime f = ((t.transfer theta).afterStep t).settle)) ∧
  (∀ (s : State) (p : Bytes) (id : Nat), id = bfld p 8 8 →
    (bfld p 0 1 = 1 → s.link.pair = 0 → s.onPair p = { s with link := { s.link with rxProp := some p } }) ∧
    (bfld p 0 1 = 1 → s.link.pair = 1 → s.onPair p = s.answer p) ∧
    (∀ x, bfld p 0 1 = 2 → s.link.pair = 1 → s.link.prop = some x → s.onPair p = s.enterCatchUp x.mode x.twin (bfld p 1 1)) ∧
    (bfld p 0 1 = 3 → s.link.pair ≠ 2 → s.onPair p = s) ∧
    (bfld p 0 1 = 3 → s.link.pair = 2 → s.link.sentDone = false → (s.onPair p).link.rcvdDone = true ∧ (s.onPair p).link.pair = 2) ∧
    (bfld p 0 1 = 4 → 2 ≤ s.link.pair → s.onPair p = s.goSolo 2) ∧ (bfld p 0 1 = 4 → s.link.pair < 2 → s.onPair p = s) ∧
    (bfld p 0 1 = 5 → s.link.pair = 1 → s.onPair p = s.refusePair) ∧
    (bfld p 0 1 = 1 → s.actsFor id = true → s.link.pair = 3 → s.link.release = none →
      s.onFence p = { s with link := { s.link with release := some (id, s.time.ns) } }) ∧
    (bfld p 0 1 = 2 → s.onFence p = s.adoptReleased id (bfld p 24 8)) ∧
    (∀ st, bfld p 0 1 = 3 → s.stream id = some st → st.role = .mirror →
      (s.onFence p).stream id = some { st with adoption := bfld p 16 4, serial := s.link.twinSerial })) ∧
  (∀ (s : State) (p : Proposal) (pl : Bytes), s.link.prop = some p →
    (s.proposeOk pl = true → s.answer pl = ((({ s with link := { s.link with rxProp := none } } : State).sendPair 2 p.mode s.ownNow p.twin []).enterCatchUp
      p.mode p.twin (bfld pl 1 1))) ∧
    (s.proposeOk pl = false → s.answer pl = (({ s with link := { s.link with rxProp := none } } : State).sendPair 5 p.mode s.ownNow p.twin []).refusePair))

/-- R158, R186, R188 to R191, R194, R202: the link's timers. The model's choices that it rests on: logs 66 and 67. -/
def Obligations.LinkTimersAndSublinks : Prop :=
  (∀ (s : State) (row : Instr), row ∈ ([.nakGapTimeout, .resendTimeout, .ackTimer, .stagedTimer, .heartbeatTimer, .timeFrameTimer, .fenceTimeout,
    .proposeTimeout, .confinementDone, .catchUpSent, .releaseTimeout] : List Instr) → s.linkRuns = false → exec row s = .next s) ∧
  (∀ (s : State), s.linkRuns = true →
    (s.link.gapSince = none → exec .nakGapTimeout s = .next s) ∧
    (∀ t, s.link.gapSince = some t → exec .nakGapTimeout s = .next
      { (s.advanceTo (t + 1000)).sendNak with link := { (s.advanceTo (t + 1000)).sendNak.link with gapSince := some (max s.time.ns (t + 1000)) } }) ∧
    (s.link.unacked = [] ∨ s.linkUp = false → exec .resendTimeout s = .next s) ∧
    (s.link.unacked ≠ [] → s.linkUp = true →
      let t := (s.advanceTo (s.link.lastAckAt + 4000)).resendFrom s.link.peerAck
      exec .resendTimeout s = .next { t with link := { t.link with lastAckAt := max s.time.ns (s.link.lastAckAt + 4000) } }) ∧
    (s.linkUp = false → exec .ackTimer s = .next s) ∧
    (s.linkUp = true → ∃ f : Frame, f.ftype = 4 ∧ f.payload = [] ∧ f.fcrc = f.crc ∧ f.ack = s.link.rxNext ∧ f.credit = BitVec.ofNat 32 s.link.rxFreed ∧
      exec .ackTimer s = .next { (s.advanceTo (s.link.lastSentAt + 500)).emitOut (.frame s.anySub f) with
        link := { s.link with lastSentAt := max s.time.ns (s.link.lastSentAt + 500) } }) ∧
    (s.mirrors = [] ∨ s.mirroring = false ∨ s.linkUp = false → exec .stagedTimer s = .next s) ∧
    (s.mirrors ≠ [] → s.mirroring = true → s.linkUp = true → 
      let body := s.mirrors.flatMap (fun st => leBytes 8 st.id ++ leBytes 8 st.rxStaged)
      exec .stagedTimer s = .next (s.sendOn s.anySub { ftype := 3, payload := body })) ∧
    (∃ t, exec .heartbeatTimer s = .next t ∧ t.mem = s.mem ∧ (s.heartbeat).length = 128 ∧ (∀ sl, sl < 2 → (s.link.sub sl).up = true →
      ∃ f : Frame, f.ftype = 6 ∧ f.payload = s.heartbeat ∧ Out.frame sl f ∈ t.out) ∧ (s.linkUp = false → t.out = s.out)) ∧
    (∃ t, exec .timeFrameTimer s = .next t ∧ t.mem = s.mem ∧ (∀ sl, sl < 2 → (s.link.sub sl).up = true →
      ∃ f : Frame, f.ftype = 7 ∧ bfld f.payload 0 8 = s.time.ns % 2 ^ 64 ∧ Out.frame sl f ∈ t.out) ∧ (s.linkUp = false → t = s))) ∧
  (∀ (s : State) (sl n : Nat),
    let x := s.link.sub sl
    let t : State := s.advanceTo (x.lastGood + 30000)
    (2 ≤ sl → exec (.sublinkTrained sl) s = .fault .noSuchUnit ∧ exec (.sublinkSilenceTimeout sl) s = .fault .noSuchUnit ∧
      exec (.sublinkErrorLimit sl n) s = .fault .noSuchUnit ∧ exec (.codewordAlignmentLoss sl) s = .fault .noSuchUnit ∧
      exec (.sublinkRetrainTimer sl) s = .fault .noSuchUnit) ∧
    (sl < 2 → s.linkRuns = false → exec (.sublinkTrained sl) s = .next s ∧ exec (.codewordAlignmentLoss sl) s = .next s) ∧
    (sl < 2 → s.linkRuns = true →
      (x.up = true → exec (.sublinkTrained sl) s = .next s ∧ exec (.sublinkRetrainTimer sl) s = .next s ∧
        exec (.sublinkSilenceTimeout sl) s = .next (t.sublinkDown sl).settleAll ∧
        exec (.codewordAlignmentLoss sl) s = .next (s.sublinkDown sl).settleAll ∧
        (16 < n → exec (.sublinkErrorLimit sl n) s = .next (s.sublinkDown sl).settleAll) ∧
        (n ≤ 16 → exec (.sublinkErrorLimit sl n) s = .next s)) ∧
      (x.up = false → exec (.sublinkTrained sl) s = .next (s.sublinkUp sl).settleAll ∧ exec (.sublinkSilenceTimeout sl) s = .next s ∧
        exec (.sublinkErrorLimit sl n) s = .next s ∧
        (let u := s.advanceTo (x.downAt + 10000000)
         exec (.sublinkRetrainTimer sl) s = .next { u with link := u.link.setSub sl { x with retrains := x.retrains + 1, downAt := u.time.ns } })))) ∧
  (∀ (s : State) (sl : Nat), sl < 2 →
    let x := s.link.sub sl
    let down : State := ({ s with link := s.link.setSub sl { x with up := false, downAt := s.time.ns } } : State).linkEvent sl
    let up : State := ({ s with link := s.link.setSub sl { x with up := true, lastGood := s.time.ns } } : State).linkEvent sl
    (x.up = true → (s.link.sub (1 - sl)).up = true → s.sublinkDown sl = down) ∧
    (x.up = true → (s.link.sub (1 - sl)).up = false → s.sublinkDown sl = down.linkLost) ∧
    (s.linkUp = true → s.sublinkUp sl = up) ∧ (s.linkUp = false → s.sublinkUp sl = up.linkBack) ∧
    (s.time.source = .pps → s.link.pair = 3 → s.linkLost.link.pair = 4 ∧ s.linkLost.link.sevAt = s.time.ns ∧ s.linkLost.link.unacked = [] ∧
      s.linkLost.link.txWait = [] ∧ s.linkLost.link.rxHeld = []) ∧
    (s.link.pair ≠ 4 → s.linkBack.link.txSeq = 1 ∧ s.linkBack.link.rxNext = 1 ∧ s.linkBack.link.txCredit = 8192 ∧ s.linkBack.link.peerAck = 1 ∧
      s.linkBack.link.unacked = [] ∧ s.linkBack.link.pair = s.link.pair)) ∧
  (∀ (s : State), s.linkRuns = true →
    (s.link.pair = 4 → ∃ t, exec .fenceTimeout s = .next t ∧ t.link.pair = 5 ∧ t.time.ns = max s.time.ns (s.link.sevAt + 50000)) ∧
    (s.link.pair ≠ 4 → exec .fenceTimeout s = .next s) ∧
    (∀ p, s.link.prop = some p → s.link.pair = 1 →
      exec .proposeTimeout s = .next ((s.advanceTo (p.at_ + 10000000000)).refusePair).settleAll) ∧
    (s.link.prop = none ∨ s.link.pair ≠ 1 → exec .proposeTimeout s = .next s) ∧
    exec .confinementDone s = .next s.propose.settleAll ∧
    (∀ p, s.link.prop = some p → p.sent = false → s.link.pair = 0 → s.linkUp = true → s.confined = true → s.link.rxProp = none →
      s.propose.link.pair = 1) ∧
    (s.link.pair ≠ 2 ∨ s.link.sentDone = true → exec .catchUpSent s = .next s) ∧
    (s.link.pair = 2 → s.link.sentDone = false →
      let t := ((s.sendLog 0).sendLog 1)
      let u := t.sendPair 3 t.jMode t.ownNow t.link.twinSerial []
      exec .catchUpSent s = .next (({ u with link := { u.link with sentDone := true } } : State).catchUpEnds).settleAll) ∧
    (s.link.release = none → exec .releaseTimeout s = .next s) ∧
    (∀ id since, s.link.release = some (id, since) → s.openSlot = s → (∀ i ∈ s.items, i.stream = id → i.state ≠ .running) →
      s.actsFor id = true → s.appendOk id 128 true = true → ∃ t : State, exec .releaseTimeout s = .next (t.settleAll).handOverAll ∧
        t.link.release = none ∧ t.nextJsn id = s.nextJsn id + 1 ∧ ∃ st, t.stream id = some st ∧ st.released = some (s.nextJsn id)))

/-- R161, R163, R170, R171, R175, R177, R178, R530: the journal's own work. The model's choices that it rests on: logs 62 and 63. -/
def Obligations.JournalCommands : Prop :=
  (∀ (s : State) (a : Nat) (row : Instr), row ∈ ([.sealAppend a, .checkpoint a, .wedging a, .stagingFlush a] : List Instr) →
    (2 ≤ a → exec row s = .fault .noSuchUnit) ∧
    (a < 2 → s.linkRuns = false ∨ s.area a = none → exec row s = .next s) ∧
    (∀ st, a < 2 → s.area a = some st → row ≠ .stagingFlush a → st.role ≠ .primary ∨ st.released ≠ none → exec row s = .next s)) ∧
  (∀ (s : State) (a : Nat) (st : Stream), a < 2 → s.linkRuns = true → s.area a = some st →
    let t := s.setArea a (some { st with stagedBytes := 0 })
    exec (.stagingFlush a) s = .next (State.takeHeld 64 t).settleAll ∧
    ((∀ f ∈ s.link.rxHeld, f.fseq ≠ s.link.rxNext) → State.takeHeld 64 t = t)) ∧
  (∀ (s : State) (a : Nat) (st : Stream), a < 2 → s.linkRuns = true → s.area a = some st → st.role = .primary → st.released = none →
    (s.power.state = 3 ∨ s.vault.working = false ∨ s.appendOk st.id 3776 true = false → exec (.sealAppend a) s = .next s) ∧
    (s.power.state ≠ 3 → s.vault.working = true → s.appendOk st.id 3776 true = true →
      (65535 ≤ st.sinceSeal → exec (.sealAppend a) s = .next ((s.openSlot).sealNow st.id).settleAll) ∧
      (st.sinceSeal < 65535 → exec (.sealAppend a) s =
        .next (((s.advanceTo (st.lastSealAt + 100000000)).openSlot).sealNow st.id).settleAll)) ∧
    (let t := if 16384 ≤ st.sinceCkpt then s else s.advanceTo (st.ckptAt + 10000000000)
     let x : Stream := { st with ckptJsn := st.nextJsn - 1, ckptAt := t.time.ns, sinceCkpt := 0, ckptCursor := st.cursor }
     (s.mirroring = false → exec (.checkpoint a) s = .next (t.setArea a (some x))) ∧
     (s.mirroring = true → exec (.checkpoint a) s = .next ((t.setArea a (some x)).sendCheckpoint a x))) ∧
    (st.log = [] → exec (.wedging a) s = .next s) ∧
    (∀ e rest, st.log = e :: rest → s.mirroring = false →
      let full : Prop := st.logSz ≤ st.used + e.record.size ∨ 0x800000 < st.stagedBytes + e.record.size
      (s.retired st e.record = true → ∃ (t : State) (x : Stream), exec (.wedging a) s = .next (t.spaceEvent s.spaceClass).settleAll ∧
        t = s.setArea a (some x) ∧ x = { st with log := rest, tail := x.tail } ∧ x.tail = (match rest with | [] => st.head | y :: _ => y.off)) ∧
      (s.retired st e.record = false → full → exec (.wedging a) s = .next s) ∧
      (s.retired st e.record = false → ¬full → ∃ (t : State) (x : Stream), exec (.wedging a) s = .next (t.spaceEvent s.spaceClass) ∧
        t.area a = some x ∧ t.area (1 - a) = s.area (1 - a) ∧ t.mem = s.mem ∧ t.counters.wedged = s.counters.wedged + e.record.size ∧
        x.log.map (fun y => y.record) = rest.map (fun y => y.record) ++ [e.record] ∧ x.nextJsn = st.nextJsn ∧ x.heads = st.heads ∧ x.id = st.id))) ∧
  (∀ (s : State) (a : Nat) (st : Stream), a < 2 → s.area a = some st → s.areaOf st.id = some a →
    ∃ x r, (s.sealNow st.id).area a = some x ∧ x.nextJsn = st.nextJsn + 1 ∧ x.sealCount = st.sealCount + 1 ∧ x.lastSealJsn = st.nextJsn ∧
      x.lastSealAt = s.time.ns ∧ (x.log.map (fun y => y.record)).getLast? = some r ∧ r.jsn = st.nextJsn ∧ r.rtype = 9 ∧ r.stamp = s.time.ns ∧
      r.tfld 32 8 = (st.sealCount + 1) % 2 ^ 64 ∧ r.tfld 40 8 = st.lastSealJsn % 2 ^ 64 ∧
      bfld r.body 0 8 = st.id % 2 ^ 64 ∧ bfld r.body 8 8 = (if st.lastSealJsn = 0 then 1 else st.lastSealJsn + 1) % 2 ^ 64 ∧
      (s.sealNow st.id).counters.seals = s.counters.seals + 1) ∧
  (∀ (s : State), (s.su.flushing = false → exec .journalFlushEnd s = .next s) ∧
    (s.su.flushing = true → s.su.sysResetLow = false → ∃ t, exec .journalFlushEnd s = .next t ∧ t.su = { s.su with flushing := false, halted := true } ∧
      (∀ a x, t.area a = some x → x.stagedBytes = 0 ∧ ∃ y, s.area a = some y ∧ x = { y with stagedBytes := 0 }) ∧ t.mem = s.mem ∧ t.cores = s.cores))

/-- R114, R161, R162, R164, R166, R169, R177: an append, and records as bytes. The model's choices that it rests on: logs 62 and 65. -/
def Obligations.JournalAppend : Prop :=
  (∀ (s : State) (id a rtype ch item : Nat) (tf : BitVec 224) (body : Bytes) (st : Stream),
    s.areaOf id = some a → s.area a = some st →
    let t := s.appendRaw id rtype ch item tf body
    let r : Record := { jsn := st.nextJsn, stamp := s.time.ns, rtype := rtype, channel := ch, itemJsn := item, tf := tf, body := body,
                        flags := if id % 2 ^ 48 = s.ident.serial.toNat then 0 else 1 }
    (∃ x, t.area a = some x ∧ x.id = st.id ∧ x.role = st.role ∧ x.nextJsn = st.nextJsn + 1 ∧ x.lastStamp = s.time.ns ∧
      x.log.map (fun e => e.record) = st.log.map (fun e => e.record) ++ [r] ∧ (∀ e ∈ st.log, e ∈ x.log) ∧
      x.stagedBytes = st.stagedBytes + r.size ∧
      (st.heads.length = 8 → x.heads.length = 8 ∧ (∀ i, i < 8 → i ≠ st.nextJsn % 8 → x.heads.getD i 0 = st.heads.getD i 0) ∧
        x.heads.getD (st.nextJsn % 8) 0 = Config.sha256 (headBytes (st.heads.getD (st.nextJsn % 8) 0) ++ r.bytes))) ∧
    t.area (1 - a) = s.area (1 - a) ∧ t.mem = s.mem ∧ t.items = s.items ∧ t.chans = s.chans ∧ t.rings = s.rings ∧ t.time = s.time ∧
    t.counters.appends = s.counters.appends + 1 ∧ t.counters.appended = s.counters.appended + r.size) ∧
  (∀ (s : State) (id rtype ch item : Nat) (tf : BitVec 224) (body : Bytes), s.areaOf id = none → s.appendRaw id rtype ch item tf body = s) ∧
  (∀ (s : State) (id size : Nat) (exempt : Bool), s.appendOk id size exempt = true →
    s.owed = [] ∧ s.su.flushing = false ∧ s.su.halted = false ∧ s.su.pwrFailLow = false ∧ (exempt = false → 5 ≤ s.freeSpace 1000) ∧
    (s.pairedRules = true → s.jMode = 2 → s.lag < 256) ∧ ∃ st, s.stream id = some st ∧ st.role = .primary ∧ st.released = none ∧
      st.stagedBytes + size ≤ 0x800000 ∧ st.used + size < st.logSz) ∧
  (∀ (s : State) (o : Owed) (rest : List Owed) (n event id : Nat),
    (s.appendOk o.stream o.size o.exempt = true → s.owe o = s.pay o) ∧
    (s.appendOk o.stream o.size o.exempt = false → s.owe o = { s with owed := s.owed ++ [o] }) ∧
    (s.home = some id → s.deviceConfig event = s.openSlot.owe (.config id 4 0 0 event s.eventNow)) ∧
    (s.owed = o :: rest → s.holds o.stream = true → s.canAppend o.stream o.size o.exempt = false → State.payOwed n s = s) ∧
    (s.owed = o :: rest → s.holds o.stream = true → s.canAppend o.stream o.size o.exempt = true →
      State.payOwed (n + 1) s = State.payOwed n (({ s with owed := rest } : State).openSlot.pay o))) ∧
  (∀ (r : Record), r.bytes.length = r.size ∧ r.size = 64 + 64 * ((r.body.length + 63) / 64)) ∧
  (∀ (r : Record) (after : Bytes), r.jsn < 2 ^ 64 → r.stamp < 2 ^ 64 → r.rtype < 2 ^ 8 → r.flags < 2 ^ 8 → r.channel < 2 ^ 16 →
    r.itemJsn < 2 ^ 64 → r.body.length < 2 ^ 32 → Record.ofBytes (r.bytes ++ after) = some r)

/-- R113, R119, R120, R123 to R126, R538: the time unit. The model's choices that it rests on: logs 9, 69, 70, 73, 105 and 109. -/
def Obligations.TimeUnitRows : Prop :=
  (∀ (s : State) (n : Nat) (row : Instr),
    row ∈ ([.ppsEdge n, .ppsMissing, .setTimeLapse, .offsetAbsorbed, .timeQualityEval n, .ledgerSecond, .ppsOutEnd] : List Instr) →
    s.timeRuns = false → exec row s = .next s) ∧
  (∀ (s : State), s.timeRuns = true ↔ 6 ≤ s.su.step ∧ s.su.halted = false ∧ s.su.sysResetLow = false ∧ s.su.flushing = false) ∧
  (∀ (s : State) (n : Nat), s.timeRuns = true →
    exec (.ppsEdge n) s = .next ((((s.tick n).edge).afterStep (s.tick n)).settle) ∧
    exec (.timeQualityEval n) s = .next ((s.tick n).judge.settle) ∧
    exec .offsetAbsorbed s = .next ((s.tick s.time.back).judge.settle) ∧ (s.tick s.time.back).time.back = 0) ∧
  (∀ s before : State, (before.time.ns < s.time.ns → s.afterStep before = s.passOver.judge) ∧
    (s.time.ns ≤ before.time.ns → s.afterStep before = s.openSlot.judge)) ∧
  (∀ (t : TimeUnit) (n : Nat), let u := t.tick n
    u.ns * 64000000000 + u.frac = t.ns * 64000000000 + t.frac + min n t.back * 63936000000 +
      (n - min n t.back) * (64000000000 + t.f64 + t.p64).toNat ∧
    u.frac < 64000000000 ∧ u.back = t.back - n ∧ t.ns ≤ u.ns ∧ { u with ns := t.ns, frac := t.frac, back := t.back } = t) ∧
  (∀ (s : State) (x : Nat), s.time.ns ≤ (s.advanceTo x).time.ns ∧ (s.advanceTo x).time.ns = max x s.time.ns ∧
    { s.advanceTo x with time := s.time } = s) ∧
  (∀ (s : State) (next since : Nat), s.time.armed = some (next, since) → since + 10000000 ≤ s.time.ns → s.time.ns ≤ since + 2000000000 →
    let t := s.edge
    { t with time := s.time } = s ∧ t.time.armed = none ∧ t.time.source = .pps ∧ t.time.applied = true ∧ t.time.good = 1 ∧
      t.time.p64 = 0 ∧ (s.time.applied = false → t.time.f64 = 0) ∧
      (s.time.ns ≤ next → t.time.ns = next ∧ t.time.back = 0) ∧
      (next < s.time.ns → t.time.ns = s.time.ns ∧ t.time.back = (s.time.ns - next) * 1000)) ∧
  (∀ (s : State) (last k : Nat), s.time.armed = none → s.time.applied = true → s.time.source = .pps → s.time.jumped = false →
    s.time.lastGood = some last →
    let c := s.time.ns - (s.time.back + 999) / 1000
    let off : Int := (c : Int) - (last + k * 1000000000 : Nat)
    let e : Int := (c : Int) - (s.time.secMark + k * 1000000000 : Nat)
    1 ≤ k → last + k * 1000000000 ≤ c + 500000000 → c + 500000000 < last + (k + 1) * 1000000000 →
    (off.natAbs * 1000000000 ≤ s.errorE9 + 1000000000000 → ∃ t, s.edge = { s with time := t } ∧
      t.ns = s.time.ns ∧ t.good = s.time.good + 1 ∧ t.consecOut = 0 ∧ t.lastGood = some c ∧ t.nextEdge = c + 1000000000 ∧
      t.phase = (e.natAbs :: s.time.phase).take 8 ∧
      (s.time.back = 0 → t.f64 = max (-12800000) (min 12800000 (s.time.f64 - e)) ∧ t.p64 = max (-64000000) (min 64000000 (-16 * e))) ∧
      (s.time.back ≠ 0 → t.f64 = s.time.f64 ∧ t.p64 = s.time.p64)) ∧
    (s.errorE9 + 1000000000000 < off.natAbs * 1000000000 →
      s.edge.time.good = 0 ∧ s.edge.time.outliers = s.time.outliers + 1 ∧ s.edge.time.ns = s.time.ns ∧ s.edge.time.f64 = s.time.f64 ∧
      (s.time.lastOut = none → s.edge.time.lastOut = some (c, 1) ∧ s.edge.time.jumped = false ∧ s.edge.elog = s.elog ∧
        s.edge.time.p64 = s.time.p64) ∧
      (∀ c0, s.time.lastOut = some (c0, 2) → ((c : Int) - c0 - 1000000000).natAbs ≤ 1000 →
        s.edge = ({ s with time := s.edge.time }).logErr 2 9 0xFFFF 0 ∧ s.edge.time.jumped = true ∧ s.edge.time.p64 = 0))) ∧
  (∀ (s : State) (last : Nat), s.time.armed = none → s.time.applied = true → s.time.source = .pps → s.time.jumped = false →
    s.time.lastGood = some last → s.time.ns - (s.time.back + 999) / 1000 < last + 500000000 →
    s.edge.time.good = 0 ∧ s.edge.time.outliers = s.time.outliers + 1 ∧ s.edge.time.goods = s.time.goods) ∧
  (∀ (s : State), s.time.armed = none → s.time.applied = false ∨ s.time.source = .twin ∨ s.time.jumped = true → s.edge = s) ∧
  (∀ (s : State), s.timeRuns = true →
    (s.time.applied = true → s.time.source = .pps → s.time.jumped = false →
      let t := s.advanceTo (s.time.nextEdge + s.errorNs + 1001000 + (s.time.back + 999) / 1000)
      exec .ppsMissing s = .next (({ t with time := { t.time with
        good := 0, missing := s.time.missing + 1, p64 := 0, nextEdge := s.time.nextEdge + 1000000000 } } : State).judge.settle)) ∧
    (s.time.applied = false ∨ s.time.source = .twin ∨ s.time.jumped = true → exec .ppsMissing s = .next s) ∧
    (s.time.armed = none → exec .setTimeLapse s = .next s) ∧
    (∀ next since, s.time.armed = some (next, since) → let t := s.advanceTo (since + 2000000000)
      exec .setTimeLapse s = .next (({ t with time := { t.time with armed := none } } : State).logErr 2 9 0xFFFF 0))) ∧
  (∀ (s : State), s.timeRuns = true →
    (s.time.quality = 0 → exec .ledgerSecond s = .next s) ∧
    (s.time.quality ≠ 0 → ∃ k t, exec .ledgerSecond s = .next (State.raiseAll t 17 (k % 2 ^ 24)) ∧ t.time.ns = k * 1000000000 ∧
      s.time.ns ≤ k * 1000000000 ∧ k * 1000000000 ≤ s.time.ns + 1000000000 ∧ t.time.ppsOut = true ∧ t.time.ppsOutAt = k * 1000000000 ∧
      t.time.lastSec = k ∧ t.mem = s.mem ∧ t.items = s.items ∧
      t.out = (if s.time.ppsOut then s.out else Out.pin "TIME_PPS_OUT" true :: s.out)) ∧
    (s.time.ppsOut = false → exec .ppsOutEnd s = .next s) ∧
    (s.time.ppsOut = true → ∃ t, exec .ppsOutEnd s = .next t ∧ t.time.ppsOut = false ∧ t.out = Out.pin "TIME_PPS_OUT" false :: s.out ∧
      t.time.ns = max (s.time.ppsOutAt + 1000000) s.time.ns ∧ t.mem = s.mem ∧ t.items = s.items ∧ t.cal = s.cal)) ∧
  (∀ (s : State),
    let sound : Prop := (s.time.source = .pps ∧ s.time.jumped = false ∧ s.feats.lockEdges ≤ s.time.good) ∨
      (s.time.source = .twin ∧ (s.link.sub0.up = true ∨ s.link.sub1.up = true) ∧ s.time.held = false ∧ s.time.twinQ = 2)
    (s.time.applied = false → s.judgeQuality = 0) ∧
    (s.time.applied = true → sound → s.errorE9 ≤ s.feats.lockedLimit * 1000000000 → s.judgeQuality = 2) ∧
    (s.time.applied = true → ¬(sound ∧ s.errorE9 ≤ s.feats.lockedLimit * 1000000000) →
      (s.errorE9 ≤ s.feats.holdoverLimit * 1000000000000 → s.judgeQuality = 1) ∧
      (s.feats.holdoverLimit * 1000000000000 < s.errorE9 → s.judgeQuality = 0)) ∧
    (s.judgeQuality = s.time.quality → s.evalQuality = s) ∧
    (s.judgeQuality ≠ s.time.quality →
      let u := (({ s with time := { s.time with quality := s.judgeQuality } } : State).msixAll 515).raiseAll 16 (s.judgeQuality + s.time.quality * 256)
      (s.judgeQuality ≠ 0 → s.evalQuality = u) ∧ (s.judgeQuality = 0 → s.evalQuality = u.setPpsOut false)) ∧
    (s.failing = false → s.judge = s.evalQuality) ∧ (s.failing = true → s.evalQuality.failing = false → s.judge = s.evalQuality.missPassed))

/-- R121, R131, R133, R135 to R140, R144, R145, R148, R150, R151, R240: instants, deadlines and dialogues. The model's choices that it rests on: logs 9 and 72. -/
def Obligations.InstantsDeadlinesDialogues : Prop :=
  (∀ (s : State) (idx : Nat) (row : Instr), row ∈ ([.cutoffInstant idx, .keyRolloverInstant idx, .windowOpen idx, .windowClose idx,
      .deadlineMiss, .dialogueFire, .remnantDiscard] : List Instr) → s.timeRuns = false → exec row s = .next s) ∧
  (∀ (s : State) (idx : Nat), s.timeRuns = true →
    (tget s.cal.cut idx = none → exec (.cutoffInstant idx) s = .next s) ∧
    (∀ e, tget s.cal.cut idx = some e → exec (.cutoffInstant idx) s = .next (s.advanceTo e.instant).openSlot.settle) ∧
    (tget s.cal.key idx = none → exec (.keyRolloverInstant idx) s = .next s) ∧
    (∀ e, tget s.cal.key idx = some e → exec (.keyRolloverInstant idx) s = .next (s.advanceTo e.instant).openSlot.settle)) ∧
  (∀ (s : State) (idx : Nat), s.timeRuns = true →
    let opens (t : State) (at_ : Nat) (e : WinEntry) : Prop :=
      let u := t.raiseAll 20 idx
      t.time.ns = max at_ s.time.ns ∧ { t with time := s.time, cal := s.cal } = s ∧ (∀ j, j ≠ idx → tget t.cal.win j = tget s.cal.win j) ∧
      tget t.cal.win idx = some { e with open_ := true, closeAt := at_ + e.duration, instant := at_ + e.period } ∧
      (u.windowUnits idx = [] → exec (.windowOpen idx) s = .next u) ∧
      (u.windowUnits idx ≠ [] → exec (.windowOpen idx) s = .next ((u.windowUnits idx).foldl State.runUnit u).settleAll)
    (∀ e, tget s.cal.win idx = some e → e.open_ = false → 0 < e.duration → s.time.ns < e.instant + e.duration →
      ∃ t : State, opens t e.instant e) ∧
    (∀ e, tget s.cal.win idx = some e → e.open_ = false → e.period = 0 → e.instant + e.duration ≤ s.time.ns →
      exec (.windowOpen idx) s = .next { s with cal := { s.cal with win := terase s.cal.win idx } }) ∧
    (∀ e, tget s.cal.win idx = some e → e.open_ = false → 0 < e.period → 0 < e.duration → e.instant + e.duration ≤ s.time.ns →
      ∃ (k : Nat) (t : State), s.time.ns < e.instant + k * e.period + e.duration ∧
        e.instant + (k - 1) * e.period + e.duration ≤ s.time.ns ∧ opens t (e.instant + k * e.period) e) ∧
    (tget s.cal.win idx = none → exec (.windowOpen idx) s = .next s ∧ exec (.windowClose idx) s = .next s) ∧
    (∀ e, tget s.cal.win idx = some e → e.open_ = true → exec (.windowOpen idx) s = .next s ∧ ∃ t : State,
      exec (.windowClose idx) s = .next t ∧ t.time.ns = max e.closeAt s.time.ns ∧
      tget t.cal.win idx = (if e.period = 0 then none else some { e with open_ := false }) ∧
      (∀ j, j ≠ idx → tget t.cal.win j = tget s.cal.win j) ∧ { t with time := s.time, cal := s.cal } = s)) ∧
  (∀ (s : State),
    (∀ f x i, (x, Due.cut i) ∈ s.dues f ↔ s.power.state ≠ 3 ∧ (∃ id, s.home = some id ∧ s.appendOk id 128 true = true) ∧
      ∃ e, (i, e) ∈ s.cal.cut ∧ e.instant = x ∧ x ≤ s.time.ns) ∧
    (∀ f x i, (x, Due.key i) ∈ s.dues f ↔ s.power.state ≠ 3 ∧ (∃ id, s.home = some id ∧ s.appendOk id 128 false = true) ∧
      ∃ e, (i, e) ∈ s.cal.key ∧ e.instant = x ∧ x ≤ s.time.ns) ∧
    (∀ f x st j, (x, Due.miss st j) ∈ s.dues f ↔ ∃ i ∈ s.items, i.stream = st ∧ i.jsn = j ∧ i.deadline = x ∧ i.state ≠ .ended ∧
      x ≤ s.time.ns ∧ s.failing = false ∧ s.appendOk st 64 true = true) ∧
    (∀ f x d, (x, Due.expiry d) ∈ s.dues f ↔ f = true ∧ s.dueDialogue = some d ∧ d.expiry = x) ∧
    (∀ d, s.dueDialogue = some d → s.failing = false ∧ 20 ≤ s.freeSpace 1000 ∧ s.power.state ≠ 3 ∧ d ∈ s.dialogues ∧ s.mayFire d = true ∧
      s.appendOk d.stream 128 false = true ∧ ∀ x ∈ s.dialogues, s.mayFire x = true → s.appendOk x.stream 128 false = true →
        d.expiry < x.expiry ∨ (d.expiry = x.expiry ∧ d.openJsn ≤ x.openJsn)) ∧
    (s.dues false = [] → s.openSlot = s) ∧ (s.dues true = [] → s.passOver = s) ∧
    (∀ f n, s.dues f = [] → State.doDues f n s = s) ∧
    (∀ f n, ∀ d ∈ s.dues f, (∀ x ∈ s.dues f, x = d ∨ d.1 < x.1) → State.doDues f (n + 1) s = State.doDues f n (s.doDue d.2)) ∧
    s.openSlot = State.doDues false s.dueMost s ∧ s.passOver = State.doDues true s.dueMost s ∧
    (∀ f, (s.dues f).length ≤ s.dueMost)) ∧
  (∀ (s : State) (idx id : Nat), s.home = some id →
    (∀ e, tget s.cal.cut idx = some e → ∃ tf : BitVec 224, tf.toNat % 2 ^ 32 = e.date.toNat ∧ tf.toNat / 2 ^ 32 % 2 ^ 32 = s.bizDate.toNat ∧
      (e.instant < 2 ^ 64 → idx < 256 → tf.toNat / 2 ^ 64 % 2 ^ 64 = e.instant ∧ tf.toNat / 2 ^ 128 % 2 ^ 8 = idx) ∧
      let u := s.appendRaw id 7 0xFFFF 0 tf []
      s.doDue (.cut idx) = ({ u with bizDate := e.date, cal := { u.cal with cut := terase u.cal.cut idx } } : State).raiseAll 18 idx) ∧
    (∀ e, tget s.cal.key idx = some e → ∃ (t : State) (body : Bytes),
      s.doDue (.key idx) = ({ t.appendConfig id 3 0 0 e.slot 0 0 0xFFFF body with cal := { s.cal with key := terase s.cal.key idx } } : State).raiseAll 19 e.slot ∧
      ((s.vslot e.slot).gen = 0xFFFFFFFF → t = s.logErr 2 11 0xFFFF 0) ∧
      ((s.vslot e.slot).gen ≠ 0xFFFFFFFF → t.vslot e.slot = { s.vslot e.slot with gen := min 0xFFFFFFFF ((s.vslot e.slot).gen + 1) } ∧
        (∀ n, n ≠ e.slot → t.vslot n = s.vslot n) ∧ (∀ b, b < 4 → ∀ x ∈ (t.bench b).keyCache, x.1 ≠ e.slot ∧ x ∈ (s.bench b).keyCache) ∧
        { t with vault := s.vault, benches := s.benches } = s))) ∧
  (∀ (s : State) (stream jsn status result : Nat) (i : Item), s.item stream jsn = some i →
    (i.state = .ended → s.endItem stream jsn status result = s) ∧
    (i.state ≠ .ended → let t := s.endItem stream jsn status result
      (∃ x, t.item stream jsn = some x ∧ x.state = .ended ∧ x.status = status ∧ x.result = BitVec.ofNat 32 result ∧
        x.endJsn = s.nextJsn stream ∧ x.emits = i.emits ∧ x.run = i.run) ∧
      (∀ st, s.stream stream = some st → ∃ y tf, t.stream stream = some y ∧ y.nextJsn = st.nextJsn + 1 ∧
        y.log.map (fun e => e.record) = st.log.map (fun e => e.record) ++ [{
          jsn := st.nextJsn, stamp := s.time.ns, rtype := 3, channel := i.channel, itemJsn := jsn, tf := tf, body := [],
          flags := if stream % 2 ^ 48 = s.ident.serial.toNat then 0 else 1 }] ∧
        tf.toNat % 2 ^ 16 = status % 2 ^ 16 ∧ tf.toNat / 2 ^ 16 % 2 ^ 16 = i.run % 2 ^ 16 ∧
        tf.toNat / 2 ^ 32 % 2 ^ 32 = result % 2 ^ 32 ∧ tf.toNat / 2 ^ 64 % 2 ^ 16 = i.emits.length % 2 ^ 16) ∧
      (∀ x, s.chan i.channel = some x → ∃ y, t.chan i.channel = some y ∧ y.lastDone = s.nextJsn stream ∧
        y.misses = x.misses + (if status = 0x0301 then 1 else 0) ∧ y.faults = x.faults + (if status = 0x0501 then 1 else 0) ∧
        y.doneOk = x.doneOk + (if status = 0 then 1 else 0)) ∧
      (∀ d ∈ t.dialogues, d.state ≠ .claimed stream jsn ∧ d.pendingFrom stream jsn = false) ∧
      (status ≠ 0 → ∀ d, d ∈ s.dialogues → d.state = .open_ → d ∈ t.dialogues) ∧
      (status = 0 → ∀ d ∈ s.dialogues, d.pendingFrom stream jsn = true → d.handle ∉ i.closed →
        { d with state := .open_ } ∈ t.dialogues) ∧
      t.mem = s.mem ∧ t.time = s.time ∧ t.bizDate = s.bizDate ∧ t.cal = s.cal ∧ t.rings = s.rings ∧ t.remnants = s.remnants) ∧
    s.doDue (.miss stream jsn) = s.endItem stream jsn 0x0301 0 ∧ ∀ d, s.doDue (.expiry d) = s.fire d) ∧
  (∀ (s : State), s.timeRuns = true →
    (s.failing = true → exec .deadlineMiss s = .next s) ∧
    (s.failing = false → (∀ i ∈ s.items, i.state = .ended) → exec .deadlineMiss s = .next s) ∧
    (∀ i ∈ s.items, s.failing = false → i.state ≠ .ended → (∀ j ∈ s.items, j.state = .ended ∨ i.deadline ≤ j.deadline) →
      exec .deadlineMiss s = .next (s.advanceTo i.deadline).openSlot.settle)) ∧
  (∀ (s : State), s.timeRuns = true →
    let later (d : Dialogue) : State := { s with time := { s.time with ns := max s.time.ns d.expiry } }
    let runs : Prop := s.failing = false ∧ 20 ≤ s.freeSpace 1000 ∧ s.power.state ≠ 3
    (∀ d, s.mayFire d = true ↔ d.state = .open_ ∧ d.expiry ≤ s.time.ns ∧
      ∀ i ∈ s.items, i.channel = d.channel → i.stamp < d.expiry → i.state = .ended) ∧
    (¬runs → exec .dialogueFire s = .next s) ∧
    ((∀ d ∈ s.dialogues, (later d).mayFire d = false) → exec .dialogueFire s = .next s) ∧
    (∀ d ∈ s.dialogues, runs → (later d).mayFire d = true →
      (∀ x ∈ s.dialogues, (later x).mayFire x = true → x = d ∨ d.expiry < x.expiry ∨ (d.expiry = x.expiry ∧ d.openJsn < x.openJsn)) →
      (s.advanceTo d.expiry).openSlot = s.advanceTo d.expiry → (s.advanceTo d.expiry).appendOk d.stream 128 false = true →
      exec .dialogueFire s = .next ((s.advanceTo d.expiry).fire d).settle)) ∧
  (∀ (s : State) (d : Dialogue), ∃ (tf : BitVec 224) (item : Item) (u : State),
    let origin := W512.fld d.context 30 2 % 4096
    s.fire d = ({ u with items := s.items ++ [item] } : State).refreshReady ∧
    { u with dialogues := s.dialogues, remnants := s.remnants } = s.appendRaw d.stream 6 origin (s.nextJsn d.stream) tf (W512.bytes d.context) ∧
    u.dialogues = s.dialogues.filter (fun x => x != d) ∧
    (let l := s.remnants ++ [⟨d.stream, d.handle, d.channel, d.key, d.context, d.expiry, s.time.ns, d.openJsn⟩];
      u.remnants = if s.remnants.length < 262144 then l else l.drop 1) ∧
    tf.toNat % 2 ^ 32 = d.handle.toNat ∧ tf.toNat / 2 ^ 32 % 2 ^ 32 = s.bizDate.toNat ∧
    (s.time.ns + d.budget < 2 ^ 64 → tf.toNat / 2 ^ 64 % 2 ^ 64 = s.time.ns + d.budget) ∧
    item.kind = .expiry ∧ item.stream = d.stream ∧ item.jsn = s.nextJsn d.stream ∧ item.channel = origin ∧ item.stamp = s.time.ns ∧
    item.deadline = s.time.ns + d.budget ∧ item.orderKey.toNat = W512.fld d.context 32 8 ∧ item.date = s.bizDate ∧
    item.handle = d.handle ∧ item.openJsn = d.openJsn ∧ item.context = d.context ∧ item.state = .accepted ∧ item.run = 1 ∧
    (∀ x, s.chan origin = some x → item.program = x.program)) ∧
  (∀ (s : State), s.timeRuns = true → (s.remnants = [] → exec .remnantDiscard s = .next s) ∧
    (∀ r rest, s.remnants = r :: rest → ∃ t : State, exec .remnantDiscard s = .next t ∧ t.remnants = rest ∧
      t.time.ns = max (r.at_ + 300000000000) s.time.ns ∧ { t with time := s.time, remnants := s.remnants } = s)) ∧
  (∀ (s : State), s.openWait = [] ∨ s.freeContext = none → exec .dialogueContextFree s = .next s) ∧
  (∀ (s u : State) (c : Nat) (rest : List Nat) (i : Item) (idx free : Nat) (x : Channel),
    let f := fmtWork s c []
    let a := (u.core c).rg 1 |>.toNat
    let v := u.fetched c [] f
    let t := v.touchRead a 64
    let ctx := W512.ofBytes (v.readBytes c a 64)
    s.openWait = c :: rest → s.freeContext = some free → Issues s u c [] f → v.openSlot = v → v.runningItem c = some i → i.state ≠ .ended →
    t.openSlot = t → v.outsideOpen c a = none → v.checkBytes { core := c, key := (u.core c).key, level := (u.core c).level } a 64 false = none →
    W512.fld ctx 24 4 = 0 ∨ 1000 ≤ W512.fld ctx 24 4 → W512.fld ctx 28 2 < 4096 → i.opens.length < 16 → t.failing = false →
    t.chan (W512.fld ctx 28 2) = some x → t.holds x.stream = true → t.freeContext = some idx → t.appendOk i.stream 128 false = true →
    ∃ (t' : State) (h : Nat), exec .dialogueContextFree s = .next t' ∧ exec (.iOpen c []) s = .next t' ∧ h % 2 ^ 20 = idx ∧
      ((t'.core c).rg 1).toNat = h ∧ (t'.core c).rg 0 = 0)

/-- R39, R41, R471 to R474, R482, R484, R486, R487, R509: background work and faults. The model's choices that it rests on: logs 44, 74, 75, 104 and 121. -/
def Obligations.BackgroundAndMemoryFaults : Prop :=
  (∀ (s : State) (ch die bench n : Nat) (bad : List Nat) (sb : SramBad) (mb : Option Nat) (ok : Bool) (delayed : List Nat)
      (seed : Option (BitVec 384)) (row : Instr) (there : Bool) (a r : Nat) (work : State → State),
    (row, there, a, r, work) ∈ ([
      (.refresh ch delayed, decide (ch < 24), 1, ch, fun t => t),
      (.wckRetrain ch ok delayed, decide (ch < 24), 2, ch, fun t => t.retrain 2 ch ok),
      (.dataRetrain ch ok delayed, decide (ch < 24), 3, ch, fun t => t.retrain 3 ch ok),
      (.gddr6Scrub ch n bad delayed, decide (ch < 24), 4, ch,
        fun t => bad.foldl (fun u l => u.poisonOn ch l) ((List.range n).foldl (fun u _ => u.eccCorrected ch) t)),
      (.sramScrub die n sb delayed, decide (die < 5), 5, die, fun t =>
        let t := (List.range n).foldl (fun u _ => if die < 4 then u.logCorrected die 6 die
          else (u.logErr 1 6 die 0).raiseAll 64 (u.elogNext % 2 ^ 24)) t
        match sb with
        | .none => t
        | .structure_ => (t.logErr 4 6 die 0).deviceFault
        | .poolLine l => { t with poisoned := if t.poisoned.contains l then t.poisoned else l :: t.poisoned }),
      (.mramScrub n mb delayed, true, 6, 0, fun t =>
        let t := (List.range n).foldl (fun u _ => (u.logErr 1 5 0xFFFF 0).raiseAll 64 (u.elogNext % 2 ^ 24)) t
        let t := { t with counters := { t.counters with mramCorrected := t.counters.mramCorrected + n } }
        match mb with
        | none => t
        | some d => t.logErr 2 5 d 0),
      (.entropy bench seed delayed, decide (bench < 4), 9, bench, fun t => t.modBench bench (fun x =>
        match seed with
        | some v => { x with drbg := Config.drbgReseed x.drbg v, reseedDue := 0 }
        | none => { x with reseedDue := if x.reseedDue = 0 then t.time.ns else x.reseedDue }))] :
          List (Instr × Bool × Nat × Nat × (State → State))) →
    (there = false → exec row s = .fault .noSuchUnit) ∧
    (there = true → a ≤ 4 → (s.gddrCh ch).retired = true → exec row s = .next s) ∧
    (there = true → (a ≤ 4 → (s.gddrCh ch).retired = false) →
      (s.bgRuns a = false → exec row s = .next s) ∧
      (s.bgRuns a = true → exec row s = .next (work (s.takeSlot a r delayed)).settleAll))) ∧
  (∀ (s : State) (idx : Nat),
    (∀ a r, (a, r) ∈ s.windowUnits idx ↔ 2 ≤ a ∧ a ≤ 6 ∧ (s.bgAct a).window = idx ∧ s.bgRuns a = true ∧ s.unitDue a r ≤ s.time.ns ∧
      (a = 5 → r < 5) ∧ (a = 6 → r = 0) ∧ (a ≤ 4 → r < 24 ∧ (s.gddrCh r).retired = false)) ∧
    (s.windowUnits idx).Pairwise (fun x y => s.unitLatest x.1 x.2 < s.unitLatest y.1 y.2 ∨
      (s.unitLatest x.1 x.2 = s.unitLatest y.1 y.2 ∧ x.1 ≤ y.1)) ∧
    (∀ a r, ∃ (delayed : List Nat) (n : Nat) (bad : List Nat) (sb : SramBad) (mb : Option Nat) (ok : Bool),
      let t := ({ s with free := s.free + 2 } : State).takeSlot a r delayed
      (a = 4 → s.runUnit (a, r) = t.scrubGddr r n bad) ∧ (a = 5 → s.runUnit (a, r) = t.scrubSram r n sb) ∧
      (a = 6 → s.runUnit (a, r) = t.scrubMram n mb) ∧ (a < 4 → s.runUnit (a, r) = t.retrain a r ok))) ∧
  (∀ (s : State), (s.timeRuns = false → exec .telemetry s = .next s) ∧
    (s.timeRuns = true → exec .telemetry s = .next ((s.takeSlot 8 0 []).sampleAll).settleAll) ∧
    s.sampleAll.sampleAt = s.time.ns ∧ { s.sampleAll with sample := s.sample, sampleAt := s.sampleAt, free := s.free } = s) ∧
  (∀ (s : State) (a : Nat), s.bgRuns a = true ↔ s.timeRuns = true ∧ (s.power.state = 3 → a = 6 ∨ a = 7 ∨ a = 8)) ∧
  (∀ (s : State) (a r : Nat) (delayed : List Nat),
    let t := s.takeSlot a r delayed
    t.time.ns = max (s.unitDue a r) s.time.ns ∧ tget t.bgLast (64 * a + r) = some (s.unitDue a r) ∧
    (∀ d ∈ t.bgDue, ¬(d.act = a ∧ d.res = r) ∧ d ∈ s.bgDue) ∧ t.mem = s.mem ∧ t.items = s.items ∧
    (∀ b, b < 4 → b ∈ delayed → (tget (t.bench b).charge a).getD 0 = (tget (s.bench b).charge a).getD 0 + slotNs a) ∧
    (∀ b, b < 4 → b ∉ delayed → (t.bench b).charge = (s.bench b).charge) ∧
    (∀ last, (∀ d ∈ s.bgDue, ¬(d.act = a ∧ d.res = r)) → tget s.bgLast (64 * a + r) = some last →
      s.unitDue a r = last + s.periodOf a r)) ∧
  (slotNs 1 = 350 ∧ slotNs 2 ≤ 1500 ∧ slotNs 3 ≤ 1500 ∧ slotNs 4 = 250 ∧ slotNs 5 = 500 ∧ slotNs 6 = 4000 ∧ slotNs 9 = 200) ∧
  (∀ (s : State) (ch a : Nat) (ok : Bool), a = 2 ∨ a = 3 →
    let g := s.gddrCh ch
    let x := (s.retrain a ch ok).gddrCh ch
    x.retrains = g.retrains + 1 ∧ x.failed = (if ok then 0 else g.failed + 1) ∧ x.retired = g.retired ∧
    (a = 2 → x.tempWck = g.temp ∧ x.tempData = g.tempData) ∧ (a = 3 → x.tempData = g.temp ∧ x.tempWck = g.tempWck) ∧
    (g.retired = false → x.moving = (g.moving || (!ok && decide (2 ≤ g.failed)))) ∧
    (∀ j, j ≠ ch → (s.retrain a ch ok).gddrCh j = s.gddrCh j) ∧ { s.retrain a ch ok with gddr := s.gddr } = s) ∧
  (∀ (s : State) (a ch : Nat) (r : Bool), (∀ d ∈ s.bgDue, d.act = a → d.res = ch → d.due ≤ s.time.ns) →
    let t := s.retrainNow a ch r
    t.time = s.time ∧ (∃ ok : Bool, t.gddr = (s.retrain a ch ok).gddr) ∧
    (∀ d ∈ t.bgDue, ¬(d.act = a ∧ d.res = ch) ∧ d ∈ s.bgDue) ∧ t.mem = s.mem ∧
    (∀ b, b < 4 → (tget (t.bench b).charge a).getD 0 = (tget (s.bench b).charge a).getD 0 ∨
      (r = true ∧ (tget (t.bench b).charge a).getD 0 = (tget (s.bench b).charge a).getD 0 + slotNs a))) ∧
  (∀ (s : State) (ch : Nat),
    let g := s.gddrCh ch
    let t := s.eccCorrected ch
    let l := g.corrAt.take 1000
    (t.gddrCh ch).ecc = g.ecc + 1 ∧ (ch < 24 → (t.bench (ch / 6)).corrected = (s.bench (ch / 6)).corrected + 1) ∧
    t.elogNext = s.elogNext + 1 ∧ (g.retired = false → l.length = 1000 → (∀ x ∈ l, s.time.ns ≤ x + 1000000000) → (t.gddrCh ch).moving = true) ∧
    (l.length < 1000 ∨ (∃ x ∈ l, x + 1000000000 < s.time.ns) → (t.gddrCh ch).moving = g.moving)) ∧
  (∀ (s : State) (line : Nat),
    let t := s.poisonLine line
    (∀ l, l ∈ t.poisoned ↔ l = line ∨ l ∈ s.poisoned) ∧ t.progs.length = s.progs.length ∧
    (∀ id p, tget s.progs id = some p → ∃ q, tget t.progs id = some q ∧ q.gens.length = p.gens.length ∧
      ∀ i (h : i < p.gens.length) (h' : i < q.gens.length),
        let g := p.gens[i]
        let hit : Prop := g.codeAt ≤ 64 * line + 63 ∧ 64 * line < g.codeAt + g.dataLen
        (hit → q.gens[i] = { g with absent := true }) ∧ (¬hit → q.gens[i] = g)) ∧
    (s.ucode.loaded = false ∨ 64 * line < 0x500000000 ∨ 0x520000000 ≤ 64 * line → t.ucode = s.ucode) ∧
    { t with free := s.free, poisoned := s.poisoned, progs := s.progs, ucode := s.ucode } = s ∧
    (∀ a bs l, l ∈ (s.writeMem a bs).poisoned ↔ l ∈ s.poisoned ∧ ¬(a ≤ 64 * l ∧ 64 * l + 64 ≤ a + bs.length)) ∧
    (∀ ch, s.poisonOn ch line = ((s.modGddr ch (fun g => { g with poison := g.poison + 1 })).poisonLine line).beginRetire ch)) ∧
  (∀ (s : State) (ch line retries : Nat) (write finalOk : Bool),
    let row : Instr := .gddr6CrcError ch write retries finalOk line
    let n := min 4 (max 1 retries)
    let u := s.modGddr ch (fun g =>
      if write then { g with writeRetries := g.writeRetries + n } else { g with readRetries := g.readRetries + n })
    let v := (u.retrainNow 2 ch true).retrainNow 3 ch true
    (24 ≤ ch → exec row s = .fault .noSuchUnit) ∧
    (ch < 24 → (s.gddrCh ch).retired = true ∨ s.bgRuns 1 = false → exec row s = .next s) ∧
    (ch < 24 → (s.gddrCh ch).retired = false → s.bgRuns 1 = true →
      (retries ≤ 4 → exec row s = .next u) ∧ (4 < retries → finalOk = true → exec row s = .next v) ∧
      (4 < retries → finalOk = false → exec row s = .next (v.poisonOn ch line).settleAll))) ∧
  (∀ (s : State) (ch : Nat) (temp : Int), ch < 24 → (s.gddrCh ch).retired = false → s.bgRuns 2 = true →
    let g := s.gddrCh ch
    ∃ t : State, exec (.gddr6TemperatureDrift ch temp) s = .next t ∧ (t.gddrCh ch).temp = temp ∧
      { t with gddr := s.gddr, bgDue := s.bgDue } = s ∧ (∀ d ∈ s.bgDue, d ∈ t.bgDue) ∧
      ((temp - g.tempWck).natAbs ≤ 3 → (temp - g.tempData).natAbs ≤ 3 → t.bgDue = s.bgDue) ∧
      (3 < (temp - g.tempWck).natAbs → ∃ d ∈ t.bgDue, d.act = 2 ∧ d.res = ch ∧ (d ∈ s.bgDue ∨ (d.due = s.time.ns ∧ d.latest = s.time.ns + 1000000))) ∧
      (3 < (temp - g.tempData).natAbs → ∃ d ∈ t.bgDue, d.act = 3 ∧ d.res = ch ∧ (d ∈ s.bgDue ∨ (d.due = s.time.ns ∧ d.latest = s.time.ns + 1000000)))) ∧
  (∀ (s : State) (ch : Nat) (temp : Int), (24 ≤ ch → exec (.gddr6TemperatureDrift ch temp) s = .fault .noSuchUnit) ∧
    (ch < 24 → (s.gddrCh ch).retired = true ∨ s.bgRuns 2 = false → exec (.gddr6TemperatureDrift ch temp) s = .next s)) ∧
  (∀ (s : State) (ch : Nat) (unreadable : List Nat),
    (24 ≤ ch → exec (.channelMove ch unreadable) s = .fault .noSuchUnit) ∧
    (ch < 24 → (s.gddrCh ch).retired = true ∨ s.bgRuns 10 = false ∨ (s.gddrCh ch).moving = false →
      exec (.channelMove ch unreadable) s = .next s) ∧
    (ch < 24 → (s.gddrCh ch).retired = false → s.bgRuns 10 = true → (s.gddrCh ch).moving = true →
      exec (.channelMove ch unreadable) s = .next ((unreadable.foldl (fun t l =>
        (t.modGddr ch (fun g => { g with poison := g.poison + 1 })).poisonLine l) s).retireChannel ch).settleAll)) ∧
  (∀ (s : State) (ch : Nat), (s.gddrCh ch).retired = false →
    let u := ((s.modGddr ch (fun g => { g with retired := true, moving := false })).partGone (.gddr ch) 4 ch).raiseAll 67 ch
    let n := ((List.range 24).filter (fun j => j == ch || (s.gddrCh j).retired)).length
    (ch < 24 → n < 3 → s.retireChannel ch = u) ∧ (ch < 24 → 3 ≤ n → s.retireChannel ch = u.deviceFault)) ∧
  (∀ (s : State) (p : PartRef) (unit number : Nat), (s.partGone p unit number).ident.deconf = s.ident.deconf ++ [(p, s.elogNext)] ∧
    s.partGone p unit number = ({ s.logErr 3 unit number 0 with ident := { (s.logErr 3 unit number 0).ident with
      deconf := s.ident.deconf ++ [(p, s.elogNext)] } } : State).deviceConfig 4) ∧
  (∀ (s : State) (die : Nat), (18 ≤ die → exec (.mramDieFail die) s = .fault .noSuchUnit) ∧
    (die < 18 → s.timeRuns = false → exec (.mramDieFail die) s = .next s) ∧
    (die < 18 → s.timeRuns = true → die ∈ s.mramFailed → exec (.mramDieFail die) s = .next s.settleAll) ∧
    (die < 18 → s.timeRuns = true → die ∉ s.mramFailed →
      let u := ({ s with mramFailed := s.mramFailed ++ [die] } : State).partGone (.mram die) 5 die
      (s.mramFailed.length < 2 → exec (.mramDieFail die) s = .next u.settleAll) ∧
      (2 ≤ s.mramFailed.length → exec (.mramDieFail die) s = .next u.deviceFault.settleAll))) ∧
  (∀ (s : State) (core : Nat) (repeats : Bool),
    let row : Instr := .coreFault core repeats
    let u := s.modCore core (fun k => { k with retries := k.retries + 1 })
    (96 ≤ core → exec row s = .fault .noSuchUnit) ∧
    (core < 96 → s.timeRuns = false ∨ (s.core core).run = .deconfigured → exec row s = .next s) ∧
    (core < 96 → s.timeRuns = true → (s.core core).run ≠ .deconfigured →
      (repeats = false → exec row s = .next u) ∧
      (repeats = true → exec row s = .next ((((u.logErr 3 1 core 0).msixAll 514).coreGone core).settleAll)))) ∧
  (∀ (s : State) (c : Nat), c < 96 →
    let t := s.coreGone c
    let at_ := (s.core c).position.getD (c % 24)
    t.ident.deconf = s.ident.deconf ++ [(.core (c / 24) at_, s.elogNext - 1)] ∧
    (s.spareCore (c / 24) = true → (s.core c).position ≠ some 24 → (t.core c).position = some 24 ∧ (t.core c).run ≠ .deconfigured) ∧
    (s.spareCore (c / 24) = false ∨ (s.core c).position = some 24 → (t.core c).run = .deconfigured) ∧
    ((∀ x ∈ s.items, x.state = .ended ∨ s.time.ns < x.deadline) →
      ∀ sl ∈ (s.core c).slots.toList, ∀ p i, sl.item = some p → s.item p.1 p.2 = some i → i.state ≠ .ended → ∃ j, t.item p.1 p.2 = some j ∧ j.state = .accepted ∧ j.emits = [] ∧ j.opens = []) ∧
    (∀ q ∈ (t.bench (c / 24)).cipherQ, q.core ≠ c) ∧ (∀ q ∈ (t.bench (c / 24)).sigQ, q.core ≠ c) ∧ c ∉ t.openWait ∧ t.mem = s.mem)

/-- R420, R497 to R502, R504, R505, R520: power, temperature and clocks. The model's choices that it rests on: logs 81, 82 and 83. -/
def Obligations.PowerThermalClocks : Prop :=
  (∀ (s : State) (temps : List Int) (watts : Nat),
    let row : Instr := .thermalSensorRead temps watts
    let t : State := ({ s with therm := { s.therm with temps := temps, watts := watts } } : State).judgeWarning
    (s.su.step = 0 ∨ s.su.halted = true ∨ s.su.sysResetLow = true → exec row s = .next s) ∧
    (s.su.step ≠ 0 → s.su.halted = false → s.su.sysResetLow = false →
      ((∀ x ∈ temps, x < 125) ∨ s.therm.tripped = true → exec row s = .next t) ∧
      ((∃ x ∈ temps, 125 ≤ x) → s.therm.tripped = false → exec row s = .next t.trip))) ∧
  (∀ (s : State),
    let warn : Int := if s.ident.gradeE then 110 else 105
    let th := s.therm
    let on : State := { s with therm := { th with warning := true, warnings := th.warnings + 1 }, alert := s.alert ||| 1 }
    let off : State := { s with therm := { th with warning := false } }
    (th.warning = false → (∃ x ∈ th.temps, warn ≤ x) →
      (s.alert = 0 → s.judgeWarning = (on.emitOut (.pin "ALERT_N" true)).thermalEvent) ∧
      (s.alert ≠ 0 → s.judgeWarning = on.thermalEvent)) ∧
    (th.warning = true → (∀ x ∈ th.temps, x ≤ warn - 5) →
      (s.alert = 0 → s.judgeWarning = off.emitOut (.pin "ALERT_N" false)) ∧ (s.alert ≠ 0 → s.judgeWarning = off)) ∧
    (th.warning = false → (∀ x ∈ th.temps, x < warn) → s.judgeWarning = s) ∧
    (th.warning = true → (∃ x ∈ th.temps, warn - 5 < x) → s.judgeWarning = s) ∧
    s.thermalEvent = (s.msixAll 518).raiseAll 68 (s.power.state % 4 + (if th.warning then 16 else 0) +
      (if s.power.target.isSome then 32 else 0) + uint 8 s.hottest * 65536)) ∧
  (∀ (s : State), let t := s.trip
    t.therm.tripped = true ∧ t.therm.trips = s.therm.trips + 1 ∧ t.elogNext = s.elogNext + 1 ∧ Out.pin "THERMTRIP_N" true ∈ t.out ∧
    (s.su.flushing = false → s.su.halted = false → s.su.sysResetLow = false → t.su.flushing = true) ∧ t.su.extKept = false ∧
    t.area0 = s.area0 ∧ t.area1 = s.area1 ∧ t.items = s.items) ∧
  (∀ (s : State), s.timeRuns = true →
    (s.su.clkTimeLost = true → exec .timeRefClkLoss s = .next s) ∧
    (s.su.clkTimeLost = false →
      let u : State := { s with su := { s.su with clkTimeLost := true }, time := { s.time with refLost := true } }
      let v := (u.logErr 2 9 0xFFFF 0).judge.settle
      (v.time.quality ≠ s.time.quality → exec .timeRefClkLoss s = .next v) ∧
      (v.time.quality = s.time.quality → exec .timeRefClkLoss s = .next (v.msixAll 515)) ∧
      u.errorE9 = (2 ^ 64 - 1) * 1000000000)) ∧
  (∀ (s : State), (s.timeRuns = false → exec .timeRefClkLoss s = .next s ∧ exec .powerTransitionEnd s = .next s ∧
      exec .firmwareSwitchEnd s = .next s) ∧
    exec .timeRefClkReturn s = .next { s with su := { s.su with clkTimeLost := false } } ∧
    exec .coreClockChangeEnd s = .next { s with power := { s.power with clkChange := false } }) ∧
  (∀ (s : State) (core : Nat),
    (96 ≤ core → exec (.parkTimeout core) s = .fault .noSuchUnit) ∧
    (core < 96 → s.timeRuns = false ∨ (s.core core).parkFrom = none → exec (.parkTimeout core) s = .next s) ∧
    (∀ x, core < 96 → s.timeRuns = true → (s.core core).parkFrom = some x →
      exec (.parkTimeout core) s = .next (((s.advanceTo (x + 10000000)).evict core).parkCore core).settleAll)) ∧
  (∀ (s : State) (c : Nat), let t := (s.evict c).parkCore c
    (t.core c).parkFrom = none ∧ (t.core c).run ≠ .active ∧
    (∀ sl ∈ (t.core c).slots.toList, sl.st = .free ∨ sl.st = .ended) ∧
    (∀ sl ∈ (s.core c).slots.toList, ∀ p i, sl.st ≠ .free → sl.st ≠ .ended → sl.item = some p → s.item p.1 p.2 = some i →
      i.state ≠ .ended → ∃ j, t.item p.1 p.2 = some j ∧ j.state = .accepted) ∧ c ∉ t.openWait ∧ t.mem = s.mem) ∧
  (∀ (s : State) (bench core : Nat),
    (4 ≤ bench ∨ core / 24 ≠ bench → exec (.p2BenchWake bench core) s = .fault .noSuchUnit) ∧
    (bench < 4 → core / 24 = bench →
      (s.timeRuns = false ∨ s.power.state ≠ 2 ∨ s.readyOn bench = [] ∨ (s.core core).run ≠ .parked →
        exec (.p2BenchWake bench core) s = .next s) ∧
      (s.timeRuns = true → s.power.state = 2 → s.readyOn bench ≠ [] → (s.core core).run = .parked →
        exec (.p2BenchWake bench core) s = .next ((s.wakeCore core).workReady bench) ∧
        ((s.wakeCore core).core core).run = .active))) ∧
  (∀ (s : State), s.timeRuns = true →
    (s.power.target = none → exec .powerTransitionEnd s = .next s) ∧
    (∀ dst, s.power.target = some dst → s.power.state < 2 →
      (dst = 2 → (∃ i ∈ s.items, i.state = .running) → exec .powerTransitionEnd s = .next s) ∧
      (dst ≠ 2 → (∃ c ∈ s.cores, c.2.parkFrom.isSome = true ∧ c.2.occupied = true) → exec .powerTransitionEnd s = .next s)) ∧
    (∀ dst, s.power.target = some dst →
      (2 ≤ s.power.state ∨ (dst = 2 ∧ ∀ i ∈ s.items, i.state ≠ .running) ∨
        (dst ≠ 2 ∧ ∀ c ∈ s.cores, c.2.parkFrom = none ∨ c.2.occupied = false)) →
      ∃ u : State, exec .powerTransitionEnd s = .next u.thermalEvent.settleAll ∧ u.power.state = dst ∧ u.power.target = none ∧
        u.power.park = s.power.park ∧
        (dst = 2 → s.power.state < 2 → ∀ c, c < 96 → (u.core c).run ≠ .active) ∧
        (dst < 2 → ∀ c, c < 96 → (s.power.park.getLsbD c = true → (u.core c).run ≠ .active) ∧
          (s.power.park.getLsbD c = false → (u.core c).run ≠ .parked)) ∧
        (dst = 3 → s.power.state = 2 → u = { s.modPrimaries (fun st => { st with stagedBytes := 0 }) with
          power := { s.power with state := 3, target := none } }) ∧
        (dst = 2 → s.power.state = 3 → u = { s.leaveP3 with power := { s.leaveP3.power with state := 2, target := none } }))) ∧
  (∀ (s : State), s.leaveP3 = (({ s with power := { s.power with state := 2 } } : State).retrainAll).passOver) ∧
  (∀ (s : State), (s.cal.cut = [] ∧ s.cal.key = [] ∧ s.dialogues = [] ∧ ∀ i ∈ s.items, i.state = .ended) →
    s.leaveP3 = ({ s with power := { s.power with state := 2 } } : State).retrainAll ∧
    (∀ ch, ch < 24 → (s.gddrCh ch).retired = false → (s.leaveP3.gddrCh ch).failed ≤ (s.gddrCh ch).failed + 2 ∧
      (s.leaveP3.gddrCh ch).retrains = (s.gddrCh ch).retrains + 2 ∧ (s.leaveP3.gddrCh ch).tempWck = (s.gddrCh ch).temp) ∧
    ((∀ d ∈ s.bgDue, d.due ≤ s.time.ns) → s.leaveP3.time = s.time)) ∧
  (∀ (s : State), s.timeRuns = true →
    (s.power.fwSwitch = none ∨ s.ident.fwStaged = none → exec .firmwareSwitchEnd s = .next s) ∧
    (∀ p f, s.power.fwSwitch = some p → s.ident.fwStaged = some f →
      let u : State := ({ s with
        power := { s.power with fwSwitch := none }
        ident := { s.ident with fwRunning := 1 - s.ident.fwRunning, fwStaged := none, rollback := max s.ident.rollback f.floor } } :
          State).rewriteWords (fun a => decide (a < 0x6000))
      (∀ b a, b < 4 → tget (u.bench b).wordErr a = if a < 0x6000 then none else tget (s.bench b).wordErr a) ∧
      ((s.port p).aheld = none → exec .firmwareSwitchEnd s = .next u.settleAll) ∧
      (∀ h, (s.port p).aheld = some h →
        exec .firmwareSwitchEnd s = .next (u.finish p h.entry 0 h.jsn (BitVec.ofNat 64 f.version)).settleAll)))

/-- R115, R163, R203, R248, R281, R490, R491, R493 to R495, R529, R530: resets and start-up. The model's choices that it rests on: logs 71, 76, 77, 78, 79, 97, 106 and 115. -/
def Obligations.ResetsAndStartUp : Prop :=
  (∀ (s : State),
    let t := s.powerFails
    let idle : Prop := s.su.flushing = false ∧ s.su.halted = false ∧ s.su.sysResetLow = false
    { t with su := s.su } = s ∧ t.su.extKept = false ∧ (idle → t.su.flushing = true) ∧ (¬idle → t.su.flushing = s.su.flushing) ∧
    exec .pwrFail s = .next { t with su := { t.su with pwrFailLow := true } } ∧
    (∀ rail, rail < 15 → exec (.railUndervoltage rail) s = .next t) ∧
    (∀ rail, 15 ≤ rail → exec (.railUndervoltage rail) s = .fault .noSuchUnit) ∧
    (s.su.step = 0 → exec .sysRefclkLoss s = .next s) ∧
    (s.su.step ≠ 0 → exec .sysRefclkLoss s = .next (t.logErr 4 9 0xFFFF 0).deviceFault)) ∧
  (∀ (s : State), (s.su.fault = true → s.deviceFault = s) ∧
    (s.su.fault = false → s.deviceFault.su.fault = true ∧ s.deviceFault.alert = s.alert ||| 2 ∧ s.deviceFault.mem = s.mem ∧
      (∀ p, p < 2 → (s.port p).linkUp = true → (s.deviceFault.port p).aerStatus = (s.port p).aerStatus ||| 0x400000 ∧
        ((s.port p).aerMask.getLsbD 22 = false → Out.aer p 22 ((s.port p).aerSeverity.getLsbD 22) ∈ s.deviceFault.out)))) ∧
  (∀ (s : State),
    (s.su.sysResetLow = true → exec .sysReset s = .next { s with su := { s.su with sysRoseInFlush := false } }) ∧
    (s.su.sysResetLow = false → ∃ t : State, exec .sysReset s = .next { t with su := { t.su with sysResetLow := true } } ∧
      t = s.beginFlush.resetBlocks ∧ t.su.flushing = (!s.su.halted || s.su.flushing))) ∧
  (∀ (s : State),
    let t := s.resetBlocks
    (t.ident = s.ident ∧ t.progs = s.progs ∧ t.cal = s.cal ∧ t.feats = s.feats ∧ t.bizDate = s.bizDate ∧ t.elog = s.elog ∧
      t.remnants = s.remnants ∧ t.ucode = s.ucode ∧ t.counters = s.counters ∧ t.sample = s.sample ∧ t.gddr = s.gddr ∧ t.pending = s.pending) ∧
    (t.vault = { s.vault with working := false } ∧ t.area0 = s.area0.map Stream.afterReset ∧ t.area1 = s.area1.map Stream.afterReset) ∧
    (∀ a, a < 0x520000000 → Memory.read t.mem a = Memory.read s.mem a) ∧ (∀ a, 0x520000000 ≤ a → Memory.read t.mem a = 0) ∧
    (∀ f, f < 0x520000 → t.frameWord f = s.frameWord f) ∧ (∀ f, 0x520000 ≤ f → t.frameWord f = {}) ∧
    (∀ p, p < 2 → t.port p = { inReset := (s.port p).inReset, widthX8 := (s.port p).widthX8 }) ∧
    (∀ c, t.core c = (s.core c).fresh) ∧ (∀ b, b < 4 → t.bench b = (s.bench b).fresh) ∧
    (t.groups = [] ∧ t.windows = [] ∧ t.poolWait = [] ∧ t.openWait = [] ∧ t.bgDue = [] ∧ t.power = {} ∧ t.alert = 0 ∧ t.mgmtSeq = 0 ∧
      t.time = s.time.fresh) ∧
    (∀ n, t.chan n = (s.chan n).map Channel.afterReset) ∧ (∀ n, t.ring n = (s.ring n).map Ring.afterReset) ∧
    (t.items.length = s.items.length ∧ ∀ i ∈ t.items, i.state ≠ .running ∧ i.ready = false ∧ i.granules = 0) ∧
    (∀ st j i, s.item st j = some i → ∃ x, t.item st j = some x ∧ x.status = i.status ∧ x.deadline = i.deadline ∧
      (i.state ≠ .running → x.state = i.state ∧ x.run = i.run) ∧ (i.state = .running → x.state = .accepted ∧ x.opens = [] ∧ x.closed = [])) ∧
    (∀ d ∈ t.dialogues, d.state = .open_) ∧ (∀ d ∈ s.dialogues, d.state ≠ .pending → { d with state := .open_ } ∈ t.dialogues) ∧
    t.su = { s.su with step := 0, ready := false, fault := false, halted := false, held := false, sysRoseInFlush := false, clkTimeLost := false, redo := s.su.redo ++ s.heldRecords } ∧ t.rotation = {} ∧ t.owed = [] ∧
    (∀ h, h ∈ s.heldRecords ↔ h.jsn ≠ 0 ∧ ((s.port 0).aheld = some h ∨ (s.port 1).aheld = some h)) ∧
    (t.link.sub0.up = false ∧ t.link.sub1.up = false ∧ t.link.pair = s.link.pair)) ∧
  (∀ (c : Channel), c.afterReset.consumed = c.consumed ∧ c.afterReset.doorbell = c.consumed ∧ c.afterReset.bufs = [] ∧ c.afterReset.marks = [] ∧
    c.afterReset.charged = 0 ∧ c.afterReset.cur = none) ∧
  (∀ (r : Ring), r.afterReset.recovering = some (r.recovering.getD 1) ∧ r.afterReset.entries = r.entries ∧ r.afterReset.queue = r.queue.filter CEntry.replays) ∧
  (∀ (st : Stream), st.afterReset.log = st.log ∧ st.afterReset.heads = st.heads ∧ st.afterReset.nextJsn = st.nextJsn ∧ st.afterReset.stagedBytes = 0 ∧
    st.afterReset.cursor = st.ckptCursor) ∧
  (∀ (s : State), ∃ t, exec .powerOn s = .next t ∧ t.su.sysResetLow = true ∧ t.su.flushing = false ∧ t.su.extKept = false ∧ t.su.step = 0 ∧
    t.area0 = s.area0.map Stream.afterReset ∧ t.area1 = s.area1.map Stream.afterReset ∧ t.ident = s.ident ∧
    t.vault = { s.vault with working := false } ∧ t.cores = [] ∧ t.elog = [] ∧ t.counters = {} ∧ t.sample = [] ∧ t.therm = {} ∧
    t.time = {} ∧ t.feats = s.feats ∧ t.cal = s.cal ∧ (∀ b, b < 4 → t.bench b = {}) ∧ t.owed = [] ∧
    (∀ n c, t.chan n = some c → c.accepted = 0 ∧ c.rejects = [] ∧ c.doneOk = 0) ∧
    (∀ n c, s.chan n = some c → ∃ x, t.chan n = some x ∧ x.consumed = c.consumed ∧ x.doorbell = c.consumed)) ∧
  (∀ (s : State) (b : BootFacts),
    (s.su.sysResetLow = false → exec (.startUp b) s = .next s) ∧
    (s.su.sysResetLow = true → s.su.flushing = true →
      exec (.startUp b) s = .next { s with su := { s.su with sysRoseInFlush := true, boot := b } }) ∧
    (s.su.sysResetLow = true → s.su.flushing = false → exec (.startUp b) s = .next (s.rise b))) ∧
  (∀ (s : State) (b : BootFacts),
    let up : State := { s with su := { s.su with
      sysResetLow := false, sysRoseInFlush := false, halted := s.therm.tripped, jtagIr := if 3 ≤ s.su.jtagIr then 0 else s.su.jtagIr } }
    let u := up.sampleStraps b
    let v := u.restoreTime.atStep 1
    (b.testEn = true ∨ s.therm.tripped = true → s.rise b = u) ∧
    (b.testEn = false → s.therm.tripped = false →
      (s.su.pwrFailLow = true → s.rise b = { v with su := { v.su with held := true, boot := b } }) ∧
      (s.su.pwrFailLow = false → s.rise b = v.bootRom b)) ∧
    (u.su.testEn = b.testEn ∧ u.su.mgmtSmbus = b.mgmtSmbus ∧ u.su.mgmtAddr = b.mgmtAddr ∧ (u.port 0).widthX8 = b.pe0x8 ∧
      (u.port 1).widthX8 = b.pe1x8) ∧
    (∀ st, s.area0 = some st → s.area1 = none → st.role = .primary → st.nextJsn ≠ 1 → s.restoreTime.time.ns = st.lastStamp + 1) ∧
    (s.area0 = none → s.area1 = none → s.restoreTime.time.ns = 0) ∧
    (∀ st ∈ s.primaries, st.nextJsn ≠ 1 → st.lastStamp < s.restoreTime.time.ns)) ∧
  (∀ (s : State),
    (s.su.held = false → exec .pwrFailNRise s = .next { s with su := { s.su with pwrFailLow := false, held := false } }) ∧
    (s.su.held = true → exec .pwrFailNRise s = .next (({ s with su := { s.su with pwrFailLow := false, held := false } } : State).bootRom s.su.boot))) ∧
  (∀ (s : State) (b : BootFacts),
    (b.romOk = false → s.bootRom b = { s with su := { s.su with fault := true } }) ∧
    (b.romOk = true → b.flashOk = false ∨ s.bestSlot = none → s.bootRom b = { s with su := { s.su with step := 2, fault := true } }) ∧
    (∀ n, b.romOk = true → b.flashOk = true → s.bestSlot = some n →
      s.bootRom b = ({ s.atStep 2 with ident := { s.ident with fwRunning := n, fwStaged := none } } : State).bootIdentity b) ∧
    (∀ n, s.bestSlot = some n → ∃ x, s.ident.fwSlots[n]? = some x ∧ x.signed = true ∧ s.ident.rollback ≤ x.version ∧
      ∀ y ∈ s.ident.fwSlots, y.signed = true → s.ident.rollback ≤ y.version → y.version ≤ x.version) ∧
    (s.bestSlot = none → ∀ y ∈ s.ident.fwSlots, y.signed = false ∨ y.version < s.ident.rollback)) ∧
  (∀ (s : State) (b : BootFacts),
    let u := (s.atStep 3).reloadLog
    let w : State := { u with vault := { u.vault with working := true } }
    let v := if s.su.vaultMade then w else w.createVault b.pkgKey
    (b.identityOk = false → s.bootIdentity b = u.bootFails) ∧
    (b.identityOk = true → b.tamperLow = true → s.bootIdentity b = ((v.zeroize.logErr 4 14 0xFFFF 0).raiseAlert 8).bootFails) ∧
    (b.identityOk = true → b.tamperLow = false → s.bootIdentity b = v.bootMemory b) ∧
    s.bootFails = (({ s with su := { s.su with step := 7, ready := true } } : State).logErr 4 11 0xFFFF 0).deviceFault ∧
    ((s.atStep 3).bootFails.su.ready = true ∧ (s.atStep 3).bootFails.su.step = 7 ∧ (s.atStep 3).bootFails.su.fault = true)) ∧
  (∀ (s : State),
    let t := s.loseMemory
    (∀ n, (t.vslot n).st ≠ .loaded) ∧ (∀ n, (s.vslot n).st ≠ .loaded → t.vslot n = s.vslot n) ∧
    (∀ n, (s.vslot n).st = .loaded → (t.vslot n).st = .absent ∧ (t.vslot n).gen = (s.vslot n).gen ∧ (t.vslot n).key = []) ∧
    (∀ b, b < 4 → ∃ k, t.bench b = { s.bench b with kek := k }) ∧
    (∀ id p, tget t.progs id = some p → ∀ g ∈ p.gens, g.absent = true) ∧ t.poisoned = [] ∧ t.ucode.absent = s.ucode.loaded ∧
    t.area0 = s.area0 ∧ t.items = s.items) ∧
  (∀ (s : State) (b : BootFacts), s.su.fault = false →
    (s.su.extKept = true → b.selfRefreshIntact = true → b.trainFail = [] →
      s.bootMemory b = ({ s.atStep 4 with su := { (s.atStep 4).su with extKept := true } } : State).bootTest b) ∧
    (s.su.extKept = false ∨ b.selfRefreshIntact = false → b.trainFail = [] →
      s.bootMemory b = ({ (s.atStep 4).loseMemory with su := { (s.atStep 4).loseMemory.su with extKept := true } } : State).bootTest b) ∧
    (b.selfTestFail = [] → s.ident.deconf = [] → s.bootTest b = ((s.atStep 5).lend true).bootJournal b) ∧
    (b.mramLost = [] → b.recordBad = true → s.bootJournal b = (s.atStep 6).bootFails) ∧
    (b.mramLost = [] → b.recordBad = false → ∃ u : State, s.bootJournal b = (((u.redoAll).nowReady.restartPairing).placeItems.missPassed).settleAll ∧
      u.su = { s.su with step := 6 } ∧ (s.su.redo = [] → u.redoAll = u) ∧ (∀ i, i < 4 → (u.bench i).lent = false) ∧ u.items = s.items ∧ u.mem = s.mem ∧
      u.area0 = s.area0) ∧
    (∀ h, (∀ r, W512.fld h.entry 0 1 = 0x20 ∨ W512.fld h.entry 0 1 = 0x21 → s.findRecord h.stream h.jsn = some r → s.redoCmd h = s.learnProgram r) ∧
      (W512.fld h.entry 0 1 ∈ [0x10, 0x11, 0x12, 0x13] → s.redoCmd h = (adminEffect h s h).1) ∧
      (W512.fld h.entry 0 1 ∉ [0x10, 0x11, 0x12, 0x13, 0x20, 0x21] → s.redoCmd h = s)) ∧
    (∀ n, n < 4 → (∀ c, c < 24 → (s.core (24 * n + c)).position ≠ some 24) → (∀ d ∈ s.ident.deconf, d.1 ≠ PartRef.core n 24) →
      s.failPart (.core n 24) = s.partGone (.core n 24) 1 0xFFFF) ∧
    (∀ k n, ((s.createVault k).vslot n).gen = 1 ∧ ((s.createVault k).vslot n).st ≠ .loaded ∧ (s.createVault k).vault.provGen = 1) ∧
    (s.link.pair = 0 → s.link.prop = none → s.restartPairing = s) ∧
    (3 ≤ s.link.pair → s.restartPairing.link.pair = 5) ∧ (s.link.pair = 2 → s.restartPairing = s.goSolo 2) ∧
    (s.link.pair = 1 → s.restartPairing = s.goSolo 3))

/-- R12, R495, R510, R514, R525, R526: management and JTAG. The model's choices that it rests on: logs 11 and 84. -/
def Obligations.ManagementAndJtag : Prop :=
  (∀ (s : State), s.mgmtRuns = true ↔ 1 ≤ s.su.step ∧ s.su.halted = false ∧ s.su.sysResetLow = false ∧ s.su.testEn = false) ∧
  (∀ (s : State) (v : Byte) (w : W) (row : Instr), row ∈ ([.mgmtIdentity, .mgmtSetupStatus, .mgmtThermal, .mgmtAlertCause, .mgmtNewestEntry,
      .mgmtSelectedEntry, .mgmtAlertClear v, .mgmtSeqSelect w] : List Instr) → s.mgmtRuns = false → exec row s = .next s) ∧
  (∀ (s : State), s.mgmtRuns = true →
    let block (bytes : Bytes) : State := { s with out := Out.mgmt s.su.mgmtSmbus (0x4C + s.su.mgmtAddr.toNat) bytes :: s.out }
    (∃ bytes, bytes.length = 16 ∧ exec .mgmtIdentity s = .next (block bytes)) ∧
    (∃ bytes, bytes.length = 8 ∧ exec .mgmtSetupStatus s = .next (block bytes)) ∧
    (∃ bytes, bytes.length = 16 ∧ exec .mgmtThermal s = .next (block bytes)) ∧
    exec .mgmtAlertCause s = .next (block [s.alert.setWidth 8]) ∧
    (∀ e rest, s.elog = e :: rest → exec .mgmtNewestEntry s = .next (block e.bytes)) ∧
    (∀ e ∈ s.elog, e.seq = s.mgmtSeq.toNat → (∀ x ∈ s.elog, x.seq = e.seq → x = e) → exec .mgmtSelectedEntry s = .next (block e.bytes)) ∧
    (s.elog = [] → ∃ bytes, bytes.length = 64 ∧ exec .mgmtNewestEntry s = .next { block bytes with free := s.free + 8 }) ∧
    ((∀ x ∈ s.elog, x.seq ≠ s.mgmtSeq.toNat) → ∃ bytes, bytes.length = 64 ∧
      exec .mgmtSelectedEntry s = .next { block bytes with free := s.free + 8 })) ∧
  (∀ (e : LogEntry), e.bytes.length = 64) ∧
  (∀ (s : State) (v : Byte), s.mgmtRuns = true → ∃ t : State, exec (.mgmtAlertClear v) s = .next t ∧
    (∀ i, i < 4 → t.alert.getLsbD i = (s.alert.getLsbD i && !v.getLsbD i)) ∧ { t with alert := s.alert, out := s.out } = s ∧
    (s.alert ≠ 0 → t.alert = 0 → s.therm.warning = false → t.out = Out.pin "ALERT_N" false :: s.out) ∧
    (s.alert = 0 ∨ t.alert ≠ 0 ∨ s.therm.warning = true → t.out = s.out)) ∧
  (∀ (s : State) (v : W), s.mgmtRuns = true → exec (.mgmtSeqSelect v) s = .next { s with mgmtSeq := v }) ∧
  (∀ (s : State) (n : Nat) (row : Instr),
    (n, row) ∈ ([(0, .jtagBypass), (1, .jtagIdcode), (2, .jtagSamplePreload), (3, .jtagExtest), (4, .jtagClamp), (5, .jtagHighz)] :
      List (Nat × Instr)) → ∃ ir, exec row s = .next { s with
        su := { s.su with jtagIr := ir }
        out := Out.jtag ir (if ir = 1 then some 0x19600A3F else none) :: s.out } ∧
      (n ≤ 1 → ir = n) ∧ (n = 2 → ir = if s.su.testEn then 0 else 2) ∧
      (3 ≤ n → ir = if s.su.sysResetLow && !s.su.testEn then n else 0))

/-- R84 to R86, R88, R91 to R94, R97, R98, R114, R539: the intake. The model's choices that it rests on: logs 1, 48 to 52, 114 and 122. -/
def Obligations.IntakeCommands : Prop :=
  (∀ (s : State) (g : Nat) (rd : GroupRead),
    (64 ≤ g → exec (.doorbellPoll g rd) s = .fault .noSuchUnit ∧ exec (.groupArm g rd) s = .fault .noSuchUnit) ∧
    (g < 64 → s.polls = false ∨ (s.group g).live = false ∨ s.groupChans g = [] →
      exec (.doorbellPoll g rd) s = .next s ∧ exec (.groupArm g rd) s = .next s) ∧
    (g < 64 → s.polls = true → (s.group g).live = true → s.groupChans g ≠ [] →
      exec (.doorbellPoll g rd) s = .next (s.seeGroup g rd).settle ∧
      ((s.group g).armed = true ∨ s.armAfter = 0 ∨ s.groupIdle g = false ∨ s.link.pair = 5 ∨
          (∀ p ∈ s.groupPorts g, (s.port p).masters = false ∨ (s.port p).committed = false) →
        exec (.groupArm g rd) s = .next s) ∧
      ((s.group g).armed = false → s.armAfter ≠ 0 → s.groupIdle g = true → s.link.pair ≠ 5 →
        (∃ p ∈ s.groupPorts g, (s.port p).masters = true ∧ (s.port p).committed = true) →
        ∃ u : State, u.group g = { s.group g with armed := true, live := false, armCount := (s.group g).armCount + 1 } ∧
          u.time.ns = max ((s.group g).lastChange + s.armAfter * 1000) s.time.ns ∧
          { u with groups := s.groups, time := s.time, out := s.out } = s ∧
          (∀ p ∈ s.groupPorts g, (s.port p).masters = true → (s.port p).committed = true → s.link.pair ≠ 5 →
            Out.hostWrite p ((s.port p).armBase + BitVec.ofNat 64 (64 * g)) (leBytes 8 (((s.group g).armCount + 1).toNat + 2 ^ 32)) false ∈ u.out) ∧
          (let t := u.seeGroup g rd;
            ((∀ c ∈ t.groupChans g, c.2.doorbell = c.2.consumed) → (t.group g).lastChange = (s.group g).lastChange →
              exec (.groupArm g rd) s = .next t) ∧
            ((t.group g).lastChange ≠ (s.group g).lastChange → exec (.groupArm g rd) s = .next (t.disarm g).settle ∧
              ((t.disarm g).group g).live = true ∧ ((t.disarm g).group g).armed = false))))) ∧
  (∀ (s : State) (ch : Nat) (w : BitVec 32) (x : Channel), s.chan ch = some x →
    let t := s.seeDoorbell ch w
    let far : Prop := 2 ^ x.sqLog2 < (w - x.consumed).toNat
    (∃ y, t.chan ch = some y ∧ y.doorbell = w ∧ y.consumed = x.consumed ∧ (y.ranged = true ↔ far)) ∧
    (w ≠ x.doorbell → (t.group (ch / 64)).lastChange = s.time.ns) ∧ (w = x.doorbell → t.groups = s.groups) ∧
    (¬far ∨ x.ranged = true → t.elogNext = s.elogNext ∧ t.rings = s.rings) ∧
    (∀ r, far → x.ranged = false → s.ring x.cq = some r → t.elogNext = s.elogNext + 1 ∧ ∃ q e, t.ring x.cq = some q ∧ q.queue = r.queue ++ [e] ∧
      e.kind = 4 ∧ e.status = 0x0108 ∧ e.channel = ch ∧ e.jsn = 0)) ∧
  (∀ (s : State) (x : Channel), s.fetches x = true → s.su.ready = true ∧ s.su.fault = false ∧ s.su.flushing = false ∧ x.ranged = false ∧
    x.doorbell ≠ x.consumed ∧ x.cur = none ∧ s.acceptHeld = none ∧ 20 ≤ s.freeSpace 1000 ∧ s.power.state ≤ 1 ∧ s.power.quiesced = false ∧
    s.power.fwSwitch = none ∧ s.actsFor x.stream = true ∧ (∀ q, s.link.release = some q → q.1 ≠ x.stream) ∧ ∃ r, s.ring x.cq = some r ∧
      (s.port r.port).masters = true ∧ (s.port r.port).committed = true ∧ r.recovering = none ∧ r.outstanding + r.replay.length < r.size ∧
      (r.replay ≠ [] → r.outstanding + r.replay.length + r.queue.length < r.size)) ∧
  (∀ (s : State) (ch : Nat),
    (∀ r, s.turnFor ch = some r → ∃ n, r.cur = some (ch, n) ∧ 1 ≤ n ∧ n ≤ 8) ∧
    (s.rotation.cur = none → s.turnFor ch = some ⟨some (ch, 1), [ch]⟩) ∧
    (∀ n, s.rotation.cur = some (ch, n) → n < 8 → s.turnFor ch = some ⟨some (ch, n + 1), s.rotation.served⟩) ∧
    (∀ c n, s.rotation.cur = some (c, n) → c ≠ ch ∨ 8 ≤ n →
      (ch ∉ s.rotation.served → s.turnFor ch = some ⟨some (ch, 1), ch :: s.rotation.served⟩) ∧
      (ch ∈ s.rotation.served →
        ((∀ x ∈ s.chans, x.1 = ch ∨ x.1 ∈ s.rotation.served ∨ s.fetches x.2 = false) → s.turnFor ch = some ⟨some (ch, 1), [ch]⟩) ∧
        ((∃ x ∈ s.chans, x.1 ≠ ch ∧ x.1 ∉ s.rotation.served ∧ s.fetches x.2 = true) → s.turnFor ch = none)))) ∧
  (∀ (s : State) (ch : Nat) (d : W512) (row : Instr), row ∈ ([.msgIn ch d, .bufOut ch d, .ctrlMark ch d, .ctrlReturnBuffers ch d, .ctrlStop ch d,
      .ctrlStart ch d] : List Instr) →
    (4096 ≤ ch → exec row s = .fault .noSuchUnit) ∧ (ch < 4096 → s.chan ch = none → exec row s = .next s) ∧
    (∀ x, ch < 4096 → s.chan ch = some x → (s.fetches x = false ∨ s.turnFor ch = none → exec row s = .next s) ∧
      (∀ r, s.fetches x = true → s.turnFor ch = some r → exec row s = .next (({ s with rotation := r } : State).fetchDesc ch d x).settle))) ∧
  (∀ (s : State) (ch : Nat) (x : Channel), ch < 4096 → s.chan ch = some x → (s.fetches x = false ∨ s.turnFor ch = none → exec (.descriptorReadFault ch) s = .next s) ∧
    (∀ r, s.fetches x = true → s.turnFor ch = some r → exec (.descriptorReadFault ch) s =
      .next ((((({ s with rotation := r } : State).readFails (s.chanPort x)).consume ch).releaseOn ch (rejectEntry ch 0x0107 0 x.consumed)).settle))) ∧
  (∀ (s : State) (ch : Nat) (x : Channel) (d : W512), s.chan ch = some x →
    let f (off len : Nat) : Nat := W512.fld d off len
    let tag : W := BitVec.ofNat 64 (f 40 8)
    let rej (status : Nat) : State := s.rejectIn ch status tag x.consumed
    (f 0 1 = 0 ∨ 4 ≤ f 0 1 → s.fetchDesc ch d x = rej 0x0101) ∧
    (f 0 1 = 1 →
      let format : Prop := f 2 2 = 0 ∧ f 7 1 = 0 ∧ f 20 4 = 0 ∧ f 56 8 = 0 ∧ f 1 1 < 2
      let len := f 4 3
      (¬format → s.fetchDesc ch d x = rej 0x0101) ∧
      (format → len = 0 ∨ 262144 < len → s.fetchDesc ch d x = rej 0x0102) ∧
      (format → 1 ≤ len → len ≤ 262144 → f 16 4 < len → s.fetchDesc ch d x = rej 0x0103) ∧
      (format → 1 ≤ len → len ≤ 262144 → len ≤ f 16 4 → x.stopped = true → s.fetchDesc ch d x = rej 0x0104) ∧
      (format → 1 ≤ len → len ≤ 262144 → len ≤ f 16 4 → x.stopped = false →
        let n := (len + 255) / 256
        let r := s.requestPool ch n (fun m => .msg ch m)
        s.fetchDesc ch d x = r.1.modChan ch (fun y => { y with cur := some ⟨d, x.consumed, n, r.2⟩ }))) ∧
    (f 0 1 = 2 →
      let format : Prop := f 1 3 = 0 ∧ f 16 24 = 0 ∧ f 48 16 = 0
      let back (status : Nat) : State := (s.consume ch).releaseOn ch (bufferEntry ch status 0 0 0 tag)
      (¬format → s.fetchDesc ch d x = back 0x0101) ∧
      (format → f 4 4 = 0 ∨ 262144 < f 4 4 → s.fetchDesc ch d x = back 0x0102) ∧
      (format → 1 ≤ f 4 4 → f 4 4 ≤ 262144 → 1024 ≤ x.bufs.length → s.fetchDesc ch d x = back 0x0109) ∧
      (format → 1 ≤ f 4 4 → f 4 4 ≤ 262144 → x.bufs.length < 1024 → s.fetchDesc ch d x =
        (s.modChan ch (fun y => { y with bufs := y.bufs ++ [⟨BitVec.ofNat 64 (f 8 8), f 4 4, tag, y.consumed⟩] })).consume ch)) ∧
    (f 0 1 = 3 →
      let format : Prop := f 2 38 = 0 ∧ f 48 16 = 0 ∧ 1 ≤ f 1 1 ∧ f 1 1 ≤ 4
      (¬format → s.fetchDesc ch d x = (s.consume ch).releaseOn ch (markerEntry ch 0x0101 tag x.consumed (f 1 1))) ∧
      (format → f 1 1 = 1 → s.fetchDesc ch d x = (s.modChan ch (fun y => { y with marks := y.marks ++ [⟨tag, y.consumed, 1, 0⟩] })).consume ch) ∧
      (format → f 1 1 = 2 → ∀ r, s.ring x.cq = some r → ∃ y q, (s.fetchDesc ch d x).chan ch = some y ∧ y.bufs = [] ∧
        y.consumed = x.consumed + 1 ∧ (s.fetchDesc ch d x).ring x.cq = some q ∧
        q.queue = r.queue ++ x.bufs.map (fun b => bufferEntry ch 0 0 0 0 b.tag) ++ [markerEntry ch 0 tag x.consumed 2]) ∧
      (format → 3 ≤ f 1 1 → s.openSlot = s →
        (s.appendOk x.stream 128 false = false → s.fetchDesc ch d x = s) ∧
        (s.appendOk x.stream 128 false = true → s.fetchDesc ch d x =
          ((s.appendConfig x.stream 2 0 0 ch 0 0 ch (W512.bytes d)).modChan ch (fun y => { y with
            stopped := f 1 1 == 3, marks := y.marks ++ [⟨tag, y.consumed, f 1 1, s.nextJsn x.stream⟩] })).consume ch)))) ∧
  (∀ (s : State) (ch status : Nat) (tag : W) (idx : BitVec 32) (x : Channel) (r : Ring), s.chan ch = some x → s.ring x.cq = some r →
    let t := s.rejectIn ch status tag idx
    (∃ y, t.chan ch = some y ∧ y.consumed = x.consumed + 1 ∧ y.cur = none ∧ (tget y.rejects status).getD 0 = (tget x.rejects status).getD 0 + 1) ∧
    (∃ q e, t.ring x.cq = some q ∧ q.queue = r.queue ++ [e] ∧ e.kind = 1 ∧ e.status = status ∧ e.channel = ch ∧ e.jsn = 0 ∧
      e.body.toNat % 2 ^ 64 = tag.toNat ∧ e.body.toNat / 2 ^ 64 % 2 ^ 32 = idx.toNat) ∧
    t.items = s.items ∧ t.area0 = s.area0 ∧ t.area1 = s.area1 ∧ t.mem = s.mem) ∧
  (∀ (s : State) (ch win : Nat) (body : Option Bytes),
    let row : Instr := .accept ch body win
    (4096 ≤ ch → exec row s = .fault .noSuchUnit) ∧
    (ch < 4096 → s.chan ch = none → exec row s = .next s) ∧
    (∀ x, ch < 4096 → s.chan ch = some x → x.cur = none → exec row s = .next s) ∧
    (∀ x m, ch < 4096 → s.chan ch = some x → x.cur = some m →
      (m.granted = false ∨ s.accepts x = false → exec row s = .next s) ∧
      (m.granted = true → s.accepts x = true →
        let d := m.desc
        let len := W512.fld d 4 3
        let rej (s : State) (status : Nat) : State := ((s.uncharge ch m.granules).rejectIn ch status (BitVec.ofNat 64 (W512.fld d 40 8)) m.idx).settle
        (body = none → exec row s = .next (rej (s.readFails (s.chanPort x)) 0x0107)) ∧
        (∀ bs, body = some bs → s.openSlot = s →
          (W512.fld d 24 8 ≤ s.time.ns → exec row s = .next (rej s 0x0105)) ∧
          (s.time.ns < W512.fld d 24 8 → s.failing = true → exec row s = .next (rej s 0x0303)) ∧
          (s.time.ns < W512.fld d 24 8 → s.failing = false →
            (s.genAt x.program s.time.ns = none → exec row s = .next (rej s 0x0502)) ∧
            (∀ g, s.genAt x.program s.time.ns = some g →
              let ok : Bool := s.windowFits win m.granules g.key && s.appendOk x.stream (128 + 64 * ((len + 63) / 64)) false
              (ok = false → exec row s = .next s.settle) ∧
              (ok = true → exec row s = .next (s.acceptAt ch x m ((bs ++ List.replicate (len - bs.length) 0).take len) win g).settle))))))) ∧
  (∀ (s : State) (ch win a : Nat) (x : Channel) (m : CurMsg) (body : Bytes) (g : Gen) (st : Stream),
    s.chan ch = some x → s.areaOf x.stream = some a → s.area a = some st → Memory.wf s.mem = true →
    let d := m.desc
    let t := s.acceptAt ch x m body win g
    (∃ i, t.items = s.items ++ [i] ∧ i.stream = x.stream ∧ i.jsn = st.nextJsn ∧ i.kind = .message ∧ i.channel = ch ∧ i.stamp = s.time.ns ∧
      i.deadline = W512.fld d 24 8 ∧ i.orderKey.toNat = W512.fld d 32 8 ∧ i.progArg.toNat = W512.fld d 48 8 ∧ i.userTag.toNat = W512.fld d 40 8 ∧
      i.idx = m.idx ∧ i.date = s.bizDate ∧ i.len = body.length ∧ i.win = win ∧ i.granules = m.granules ∧ i.program = x.program ∧
      i.gen = some g.gen ∧ i.state = .accepted ∧ i.run = 1) ∧
    (∃ y r, t.area a = some y ∧ y.log.map (fun e => e.record) = st.log.map (fun e => e.record) ++ [r] ∧ r.jsn = st.nextJsn ∧ r.rtype = 1 ∧
      r.channel = ch ∧ r.itemJsn = st.nextJsn ∧ r.stamp = s.time.ns ∧ r.body.drop 16 = body ∧ r.tfld 32 4 = m.idx.toNat ∧
      r.tfld 36 4 = s.bizDate.toNat ∧ r.tfld 40 8 = W512.fld d 24 8 ∧ r.tfld 48 8 = W512.fld d 40 8 ∧ r.tfld 56 1 = W512.fld d 1 1) ∧
    t.acceptHeld = some ⟨x.stream, st.nextJsn, ch⟩ ∧ (∃ y, t.chan ch = some y ∧ y.cur = none ∧ y.consumed = x.consumed) ∧
    (∀ k, k < body.length → Memory.read t.mem (win + k) = body.getD k 0) ∧
    (∀ b, b < win ∨ win + body.length ≤ b → Memory.read t.mem b = Memory.read s.mem b) ∧
    (∃ w, tget t.windows win = some w ∧ w.granules = m.granules ∧ w.ch = ch ∧
      (∀ b, b < 4 → (∀ e, e < 4 → e ≠ b → s.benchLoad b < s.benchLoad e) → w.slices.getD b 0 = min m.granules (s.sliceFree b)) ∧
      (m.granules ≤ s.sliceFree 0 + s.sliceFree 1 + s.sliceFree 2 + s.sliceFree 3 → w.slices.sum = m.granules))) ∧
  (∀ (s : State) (ch n : Nat) (mk : Nat → PoolReq) (x : Channel), s.chan ch = some x →
    let r := s.requestPool ch n mk
    let own := min n (x.poolMin - x.charged)
    let charged (k : Nat) : State := s.modChan ch (fun y => { y with charged := y.charged + k })
    (n = own ∨ (s.poolWait = [] ∧ s.sharedUsed + (n - own) ≤ s.sharedPool ∧ (x.poolMax = 0 ∨ x.charged + n ≤ x.poolMax)) →
      r = (charged n, true)) ∧
    (own < n → s.poolWait ≠ [] ∨ s.sharedPool < s.sharedUsed + (n - own) ∨ (x.poolMax ≠ 0 ∧ x.poolMax < x.charged + n) →
      r = ({ charged own with poolWait := s.poolWait ++ [mk (n - own)] }, false))) ∧
  (∀ (s : State) (q : PoolReq) (rest : List PoolReq), s.poolWait = q :: rest → q ∉ rest →
    (∀ a j ch n, q = .rerun a j ch n → s.sharedUsed + n ≤ s.sharedPool → s.underMax ch n = true → exec .granuleGrant s =
      .next (((({ s with poolWait := rest } : State).charge ch n).modItem a j (fun i => { i with paid := i.need })).placeItems)) ∧
    ((∀ a j ch n, q ≠ .rerun a j ch n) → s.sharedUsed + q.part.2 ≤ s.sharedPool → s.underMax q.part.1 q.part.2 = true →
      ∃ t, exec .granuleGrant s = .next t ∧ t.poolWait = rest ∧
      (∀ ch n x, q = .msg ch n → s.chan ch = some x → ∃ y, t.chan ch = some y ∧ y.charged = x.charged + n ∧ ∀ m, x.cur = some m →
        y.cur = some { m with granted := true }) ∧
      (∀ core ch n total, q = .emit core ch n total → (t.core core).grant = some total ∧
        ∀ x, s.chan ch = some x → ∃ y, t.chan ch = some y ∧ y.charged = x.charged + n)) ∧
    (s.sharedPool < s.sharedUsed + q.part.2 ∨ s.underMax q.part.1 q.part.2 = false → exec .granuleGrant s = .next s.placeItems.refreshReady)) ∧
  (∀ (s : State) (i : Item),
    let need := (i.len + 255) / 256
    let waits : Prop := ∃ ch n, PoolReq.rerun i.stream i.jsn ch n ∈ s.poolWait
    (i.paid ≠ 0 ∨ waits → s.askPlace i = s) ∧
    (i.paid = 0 → ¬waits →
      let r := s.requestPool i.channel need (fun k => .rerun i.stream i.jsn i.channel k)
      (r.2 = true → s.askPlace i = r.1.modItem i.stream i.jsn (fun x => { x with paid := need })) ∧ (r.2 = false → s.askPlace i = r.1)) ∧
    (i.paid = 0 → s.putPlace i = s) ∧
    (∀ w r x, i.paid ≠ 0 → s.item i.stream i.jsn = some x → s.findRecord i.stream i.jsn = some r →
      s.lowestWindow need (((s.itemGen i).map (fun g => g.key)).getD 0) = some w → Memory.wf s.mem = true →
      let t := s.putPlace i
      t.item i.stream i.jsn = some { x with win := w, granules := need, paid := 0 } ∧ t.poolWait = s.poolWait ∧
      (∀ k, k < r.body.length - 16 → Memory.read t.mem (w + k) = r.body.getD (16 + k) 0) ∧
      (∀ b, b < w ∨ w + (r.body.length - 16) ≤ b → Memory.read t.mem b = Memory.read s.mem b))) ∧
  (∀ (s : State), s.poolWait = [] → exec .granuleGrant s = .next s.placeItems.refreshReady)

/-- R26, R44, R100, R102, R104 to R107, R109 to R111, R174: completion rings. The model's choices that it rests on: logs 53 and 54. -/
def Obligations.PostingHeadWordsRecovery : Prop :=
  (∀ (s : State) (n : Nat) (word : Option W), 512 ≤ n → exec (.completionPost n) s = .fault .noSuchUnit ∧
    exec (.headWordRead n word) s = .fault .noSuchUnit ∧ exec (.irqHoldoffExpiry n) s = .fault .noSuchUnit) ∧
  (∀ (s : State) (n : Nat), n < 512 → exec (.completionPost n) s = .next (s.postOne n).settle ∧
    (s.ring n = none → s.postOne n = s) ∧
    (∀ r, s.ring n = some r →
      (s.mayPost r = true ↔ (s.port r.port).masters = true ∧ (s.port r.port).committed = true ∧ s.actsFor r.stream = true ∧ s.su.ready = true ∧
        s.su.halted = false ∧ s.su.flushing = false ∧ s.su.sysResetLow = false ∧ s.power.fwSwitch = none ∧ r.recovering = none) ∧
      (s.mayPost r = false ∨ 2 ^ r.log2 ≤ (r.posted - r.head).toNat ∨ (r.replay = [] ∧ r.queue = []) → s.postOne n = s) ∧
      (s.mayPost r = true → (r.posted - r.head).toNat < 2 ^ r.log2 →
        (∀ e rest, r.replay = [] → r.queue = e :: rest →
          s.postOne n = ((s.modRing n (fun x => { x with queue := rest })).putEntry n e).moderate n) ∧
        (∀ e rest, r.replay = e :: rest → s.inTurn e = false → s.postOne n = s) ∧
        (∀ e rest, r.replay = e :: rest → s.inTurn e = true → e.needsBuffer = false →
          let t := (s.modRing n (fun x => { x with replay := rest })).putEntry n e
          (rest = [] → s.postOne n = t.signalRing n) ∧ (rest ≠ [] → s.postOne n = t)) ∧
        (∀ e rest, r.replay = e :: rest → e.needsBuffer = true → (∀ c, s.chan e.channel = some c → c.bufs = []) → s.postOne n = s) ∧
        (∀ e rest c b bs, r.replay = e :: rest → s.inTurn e = true → e.needsBuffer = true → s.chan e.channel = some c → c.bufs = b :: bs → e.len ≤ b.len →
          let t := ((s.modChan e.channel (fun y => { y with bufs := y.bufs.drop 1 })).modRing n (fun x => { x with replay := rest })).putEntry n
            { e with body := entryBody b.tag.toNat e.len e.src, write := some (s.egressBody e.egress.1 e.egress.2, b) }
          (rest = [] → s.postOne n = t.signalRing n) ∧ (rest ≠ [] → s.postOne n = t)) ∧
        (∀ e rest c b bs, r.replay = e :: rest → s.inTurn e = true → e.needsBuffer = true → s.chan e.channel = some c → c.bufs = b :: bs → b.len < e.len →
          s.postOne n = ((s.modChan e.channel (fun y => { y with bufs := y.bufs.drop 1 })).modChan e.channel
            (fun y => { y with outSpace := y.outSpace + 1 })).putEntry n (bufferEntry e.channel 0x0106 e.jsn e.len e.src b.tag))))) ∧
  (∀ (s : State) (n : Nat) (r : Ring) (e : CEntry), s.ring n = some r →
    let t := s.putEntry n e
    let slot := r.posted.toNat % 2 ^ r.log2
    let phase := if r.posted.toNat / 2 ^ r.log2 % 2 = 0 then 1 else 0
    let entry := Out.hostWrite r.port (r.addr + BitVec.ofNat 64 (32 * slot)) (e.bytes phase) false
    (∃ q, t.ring n = some q ∧ q.posted = r.posted + 1 ∧ q.head = r.head ∧ q.queue = r.queue ∧ q.entries = r.entries ++ [{ e with write := none }]) ∧
    (e.write = none → t.out = entry :: s.out) ∧
    (∀ body b, e.write = some (body, b) → t.out = entry :: Out.hostWrite r.port b.addr body (s.port r.port).relaxed :: s.out) ∧
    (∀ c, e.kind = 2 → e.egress ≠ (0, 0) → s.chan e.channel = some c → ∃ x, t.chan e.channel = some x ∧ x.outPosted = c.outPosted + 1) ∧
    t.time = s.time ∧ t.mem = s.mem ∧ t.area0 = s.area0 ∧ t.area1 = s.area1 ∧
    (∀ j, j ≠ n → t.ring j = s.ring j)) ∧
  (∀ (s : State) (e : CEntry), (e.item = none → s.inTurn e = true) ∧
    (∀ p i, e.item = some p → s.item p.1 p.2 = some i →
      (e.kind = 1 → (s.inTurn e = true ↔ i.status ≠ 0 ∨ ∀ x ∈ i.emits, x.posted = true)) ∧
      (e.kind ≠ 1 → (s.inTurn e = true ↔ ∀ x ∈ i.emits, x.posted = true ∨ e.jsn ≤ x.jsn)))) ∧
  (∀ (s : State) (f : Ring → Bool), (∀ x ∈ s.rings, f x.2 = true → (s.port x.2.port).masters = false) → s.postAll f = s) ∧
  (∀ (e : CEntry) (phase : Nat), (e.bytes phase).length = 32 ∧ leVal ((e.bytes phase).take 1) = e.kind % 2 ^ 8 ∧
    leVal (((e.bytes phase).drop 1).take 1) = phase % 2 ^ 8 ∧ leVal (((e.bytes phase).drop 2).take 2) = e.status % 2 ^ 16 ∧
    leVal (((e.bytes phase).drop 4).take 2) = e.channel % 4096 ∧ leVal (((e.bytes phase).drop 8).take 8) = e.jsn % 2 ^ 64 ∧
    leVal ((e.bytes phase).drop 16) = e.body.toNat) ∧
  (∀ (s : State) (n : Nat) (r : Ring), s.ring n = some r → r.irq = true →
    let u := s.modRing n (fun x => { x with unsig := x.unsig + 1, firstUnsig := if x.unsig = 0 then s.time.ns else x.firstUnsig })
    (s.power.quiesced = true ∨ r.holdoff = 0 ∨ (r.count ≠ 0 ∧ r.count ≤ r.unsig + 1) → s.moderate n = u.signalRing n) ∧
    (s.power.quiesced = false → r.holdoff ≠ 0 → r.count = 0 ∨ r.unsig + 1 < r.count → s.moderate n = u) ∧
    s.signalRing n = (s.modRing n (fun x => { x with unsig := 0, firstUnsig := 0 })).msix r.port n) ∧
  (∀ (s : State) (n : Nat), n < 512 →
    (s.ring n = none → exec (.irqHoldoffExpiry n) s = .next s) ∧
    (∀ r, s.ring n = some r →
      (r.irq = false ∨ r.unsig = 0 ∨ r.holdoff = 0 → exec (.irqHoldoffExpiry n) s = .next s) ∧
      (r.irq = true → r.unsig ≠ 0 → r.holdoff ≠ 0 →
        let t := s.advanceTo (r.firstUnsig + r.holdoff * 256)
        ((s.port r.port).masters = true → s.actsFor r.stream = true → exec (.irqHoldoffExpiry n) s = .next (t.signalRing n)) ∧
        ((s.port r.port).masters = false ∨ s.actsFor r.stream = false → exec (.irqHoldoffExpiry n) s = .next t)))) ∧
  (∀ (s : State) (n : Nat) (word : Option W), n < 512 →
    let row : Instr := .headWordRead n word
    (s.ring n = none → exec row s = .next s) ∧
    (∀ r, s.ring n = some r →
      let ready : Prop := (s.port r.port).masters = true ∧ (s.port r.port).committed = true
      (¬ready → exec row s = .next s) ∧
      (∀ cause, ready → r.recovering = some cause → (s.actsFor r.stream = false → exec row s = .next s) ∧
        (s.actsFor r.stream = true → exec row s = .next (s.recoverRing n cause word).settle)) ∧
      (ready → r.recovering = none →
        (word = none → exec row s = .next ((s.readFails r.port).logErr 2 13 n 0)) ∧
        (∀ w, word = some w →
          let h : BitVec 32 := w.setWidth 32
          ((r.posted - r.head).toNat < (h - r.head).toNat → exec row s = .next (s.logErr 2 13 n 0)) ∧
          ((h - r.head).toNat ≤ (r.posted - r.head).toNat → exec row s = .next ((s.modRing n (fun x => { x with
            entries := x.entries.drop (h - x.head).toNat, head := h })).reap).settle))))) ∧
  (∀ (s : State), s.reap.items = s.items.filter (fun i => !s.isOver i || s.isHeld i) ∧
    (∀ i, s.isHeld i = true ↔ ∃ c ∈ s.cores, ∃ n < 8, ((c.2 : Core).slot n).item = some (i.stream, i.jsn)) ∧ { s.reap with items := s.items } = s ∧
    ∀ i, s.isOver i = true → i.donePosted = true ∧ ∀ n r, (n, r) ∈ s.rings → ∀ e ∈ r.queue ++ r.entries ++ r.replay, e.item ≠ some (i.stream, i.jsn)) ∧
  (∀ (s : State) (n : Nat) (word : Option W) (r : Ring), s.ring n = some r →
    let h : BitVec 32 := (word.getD s.freeVal).setWidth 32
    ∃ k, k ≤ r.fromLog ∧ (s.adoptHead n word).ring n = some { r with head := h, posted := h, queue := r.queue.drop k, fromLog := 0 }) ∧
  (∀ (s : State) (n cause : Nat) (word : Option W) (r : Ring),
    let v := if cause = 4 then s.adoptHead n word else s
    v.ring n = some r →
    let t := s.recoverRing n cause word
    let good : Bool := match word with
      | none => false
      | some w => decide ((w.setWidth 32 - r.head).toNat ≤ (r.posted - r.head).toNat)
    let h : BitVec 32 := if good then (word.getD 0).setWidth 32 else r.head
    let left := ((r.entries.drop (h - r.head).toNat ++ r.replay ++ r.queue).filter CEntry.replays).map
      (fun e => { e with status := 1, write := none })
    (∃ q, t.ring n = some q ∧ q.head = h ∧ q.posted = h ∧ q.entries = [] ∧ q.recovering = none ∧ q.unsig = 0 ∧
      q.queue = r.queue.filter (fun e => !e.replays) ∧
      ∃ (rec_ : CEntry) (more : List CEntry), q.replay = rec_ :: (left ++ more) ∧ rec_.kind = 5 ∧ rec_.channel = n ∧
        rec_.body.toNat % 2 ^ 64 = h.toNat ∧ rec_.body.toNat / 2 ^ 64 % 2 ^ 32 = (left ++ more).length % 2 ^ 32 ∧
        rec_.body.toNat / 2 ^ 96 = cause % 2 ^ 32 ∧
        (∀ e ∈ more, e.kind = 2 ∧ e.status = 1) ∧ (∀ e, (left ++ more).head? = some e → rec_.jsn = e.jsn) ∧
        (left = [] → more = [] → rec_.jsn = v.nextJsn r.stream)) ∧
    (good = true → t.elogNext = v.elogNext) ∧ (good = false → t.elogNext = v.elogNext + 1) ∧
    (∀ ch c, v.chans.filter (fun e => e.1 == ch) = [(ch, c)] → c.cq = n → ∃ x, t.chan ch = some x ∧ x.outq = [] ∧
      (cause = 3 → x.bufs = heldBuffers ch r.queue ++ c.bufs) ∧ (cause ≠ 3 → x.bufs = [])) ∧
    (∀ ch es b, b ∈ heldBuffers ch es ↔ ∃ e ∈ es, e.channel = ch ∧ e.egress ≠ (0, 0) ∧ ∃ body, e.write = some (body, b)) ∧
    (∀ ch c, v.chan ch = some c → (∀ x, (ch, x) ∈ v.chans → x = c) → c.cq ≠ n → t.chan ch = some c))

/-- A step is the front command's effect on the state with the rest of the queue. The queue is the model's (log 1). -/
def Obligations.StepRunsFrontCommand : Prop :=
  ∀ (s : State) (c : Instr) (rest : List Instr), s.pending = c :: rest → step s = exec c { s with pending := rest }

/-- What an empty queue does. That it counts one nanosecond is the model's choice (log 9). -/
def Obligations.EmptyQueueCountsTime : Prop :=
  ∀ (s : State), s.pending = [] →
    (s.timeRuns = true → step s = .next { s with time := s.time.tick 1 }) ∧ (s.timeRuns = false → step s = .next s)

/-- When a command stops: R23, R42, R74, R77, R85, R155, R189, R276, R453, R467, R527 give the units. The model's choices that it rests on: log 88. -/
def Obligations.CommandsStopOnlyOnAbsentUnits : Prop :=
  ∀ (i : Instr) (s : State),
    ((∃ x, exec i s = .fault x) ↔ ∃ u ∈ i.units, u.ok = false) ∧
    (∀ r, exec i s = .refused r → r = .fusedOpcode ∧ ∃ c px op ops intr, i = .iCustomer c px op ops intr ∧
      ∃ f ∈ s.ident.fusedOps, f.op = op) ∧
    ((∀ u ∈ i.units, u.ok = true) → (∀ c px op ops intr, i ≠ .iCustomer c px op ops intr) → ∃ t, exec i s = .next t)

/-- The memory's canonical form is kept by every step (log 8). -/
def Obligations.MemoryKeepsItsForm : Prop :=
  ∀ (s t : State), Memory.wf s.mem = true → step s = .next t → Memory.wf t.mem = true

/-- Memory after reset (log 8). -/
def Obligations.ResetMemoryIsInForm : Prop :=
  Memory.wf State.reset.mem = true ∧ ∀ a, Memory.read State.reset.mem a = 0

/-- What no command changes. The model's choices that it rests on: log 5. -/
def Obligations.QueueAndFusesKept : Prop :=
  ∀ (i : Instr) (s t : State), exec i s = .next t →
    t.pending = s.pending ∧ t.ident.serial = s.ident.serial ∧ t.ident.gradeE = s.ident.gradeE ∧
    t.ident.subVendor = s.ident.subVendor ∧ t.ident.subId = s.ident.subId

/-- R113: ledger time never decreases; resets and start-up set it (R115). The model's choices that it rests on: logs 9 and 71. -/
def Obligations.LedgerTimeNeverDecreases : Prop :=
  ∀ (s t : State), step s = .next t →
    (∀ c rest, s.pending = c :: rest → c ≠ .powerOn ∧ c ≠ .sysReset ∧ c ≠ .journalFlushEnd ∧ ∀ b, c ≠ .startUp b) →
    s.time.ns ≤ t.time.ns

/-- R56, R73, R94, R242, R289, R294, R412, R490, R498: reset. G, D, F, MLO, MHI, PC, TSBP: the model's values (log 3). -/
def Obligations.StateAfterReset : Prop :=
  let s := State.reset
  (s.su.step = 0 ∧ s.su.ready = false ∧ s.su.fault = false ∧ s.su.sysResetLow = true ∧ s.su.halted = false ∧ s.pending = []) ∧
  (∀ p, p < 2 → (s.port p).committed = false ∧ (s.port p).refused = false ∧ (s.port p).refuseCount = 0 ∧ (s.port p).sqBase = 0 ∧
    (s.port p).cqBase = 0 ∧ (s.port p).ringSize = 0 ∧ (s.port p).sqTailAddr = 0 ∧ (s.port p).cqHeadAddr = 0 ∧
    (s.port p).doorbellBase = 0 ∧ (s.port p).armBase = 0) ∧
  (s.pollPeriod = 4 ∧ s.armAfter = 50 ∧ s.power.state = 0 ∧ s.alert = 0 ∧ s.feats.journalSplit = 8 ∧ s.feats.benchSplit = 0x08080808 ∧
    s.feats.timeQuality = 0x0000320803E80064 ∧ s.feats.moderation = 0x00200020) ∧
  (s.chans = [] ∧ s.rings = [] ∧ s.items = [] ∧ s.dialogues = [] ∧ s.progs = [] ∧ s.windows = [] ∧ s.area0 = none ∧ s.area1 = none ∧
    s.time.quality = 0 ∧ s.time.applied = false) ∧
  (∀ n, (s.vslot n).st = .empty ∧ (s.vslot n).gen = 1) ∧
  (∀ f, (s.frameWord f).key = 0 ∧ (s.frameWord f).guard_ = true ∧ (s.frameWord f).accessed = false ∧ (s.frameWord f).written = false) ∧
  (∀ c, let k := s.core c
    k.mode = 0xF002 ∧ k.fl = 0 ∧ k.fcsr = 0 ∧ k.mst = 0 ∧ k.ssr = 0 ∧ k.fpia = 0 ∧ k.baseb = 0 ∧
    (∀ n, n < 32 → k.rg n = 0) ∧ k.mlo = 0 ∧ k.mhi = 0 ∧ k.tsbp = 0x2000004000 ∧ k.pc = 0)
end

