-- ==== Sys2Proof/Laws/State.lean ====
section
/-!
SUPPORT. What each named update of the state leaves in each field, and what it writes, so that no proof unfolds a record
update.
-/

namespace Sys2Proof.Machine

/-! ### setCore -/

@[simp] theorem State.setCore_pending (s : State) (c : Nat) (k : Core) : (s.setCore c k).pending = s.pending := rfl
@[simp] theorem State.setCore_out (s : State) (c : Nat) (k : Core) : (s.setCore c k).out = s.out := rfl
@[simp] theorem State.setCore_free (s : State) (c : Nat) (k : Core) : (s.setCore c k).free = s.free := rfl
@[simp] theorem State.setCore_ident (s : State) (c : Nat) (k : Core) : (s.setCore c k).ident = s.ident := rfl
@[simp] theorem State.setCore_su (s : State) (c : Nat) (k : Core) : (s.setCore c k).su = s.su := rfl
@[simp] theorem State.setCore_ports (s : State) (c : Nat) (k : Core) : (s.setCore c k).ports = s.ports := rfl
@[simp] theorem State.setCore_pollPeriod (s : State) (c : Nat) (k : Core) : (s.setCore c k).pollPeriod = s.pollPeriod := rfl
@[simp] theorem State.setCore_armAfter (s : State) (c : Nat) (k : Core) : (s.setCore c k).armAfter = s.armAfter := rfl
@[simp] theorem State.setCore_groups (s : State) (c : Nat) (k : Core) : (s.setCore c k).groups = s.groups := rfl
@[simp] theorem State.setCore_chans (s : State) (c : Nat) (k : Core) : (s.setCore c k).chans = s.chans := rfl
@[simp] theorem State.setCore_closedChans (s : State) (c : Nat) (k : Core) : (s.setCore c k).closedChans = s.closedChans := rfl
@[simp] theorem State.setCore_rings (s : State) (c : Nat) (k : Core) : (s.setCore c k).rings = s.rings := rfl
@[simp] theorem State.setCore_poolWait (s : State) (c : Nat) (k : Core) : (s.setCore c k).poolWait = s.poolWait := rfl
@[simp] theorem State.setCore_windows (s : State) (c : Nat) (k : Core) : (s.setCore c k).windows = s.windows := rfl
@[simp] theorem State.setCore_acceptHeld (s : State) (c : Nat) (k : Core) : (s.setCore c k).acceptHeld = s.acceptHeld := rfl
@[simp] theorem State.setCore_rotation (s : State) (c : Nat) (k : Core) : (s.setCore c k).rotation = s.rotation := rfl
@[simp] theorem State.setCore_owed (s : State) (c : Nat) (k : Core) : (s.setCore c k).owed = s.owed := rfl
@[simp] theorem State.setCore_time (s : State) (c : Nat) (k : Core) : (s.setCore c k).time = s.time := rfl
@[simp] theorem State.setCore_bizDate (s : State) (c : Nat) (k : Core) : (s.setCore c k).bizDate = s.bizDate := rfl
@[simp] theorem State.setCore_cal (s : State) (c : Nat) (k : Core) : (s.setCore c k).cal = s.cal := rfl
@[simp] theorem State.setCore_feats (s : State) (c : Nat) (k : Core) : (s.setCore c k).feats = s.feats := rfl
@[simp] theorem State.setCore_items (s : State) (c : Nat) (k : Core) : (s.setCore c k).items = s.items := rfl
@[simp] theorem State.setCore_dialogues (s : State) (c : Nat) (k : Core) : (s.setCore c k).dialogues = s.dialogues := rfl
@[simp] theorem State.setCore_remnants (s : State) (c : Nat) (k : Core) : (s.setCore c k).remnants = s.remnants := rfl
@[simp] theorem State.setCore_incarn (s : State) (c : Nat) (k : Core) : (s.setCore c k).incarn = s.incarn := rfl
@[simp] theorem State.setCore_openWait (s : State) (c : Nat) (k : Core) : (s.setCore c k).openWait = s.openWait := rfl
@[simp] theorem State.setCore_progs (s : State) (c : Nat) (k : Core) : (s.setCore c k).progs = s.progs := rfl
@[simp] theorem State.setCore_area0 (s : State) (c : Nat) (k : Core) : (s.setCore c k).area0 = s.area0 := rfl
@[simp] theorem State.setCore_area1 (s : State) (c : Nat) (k : Core) : (s.setCore c k).area1 = s.area1 := rfl
@[simp] theorem State.setCore_ownInForce (s : State) (c : Nat) (k : Core) : (s.setCore c k).ownInForce = s.ownInForce := rfl
@[simp] theorem State.setCore_area1Used (s : State) (c : Nat) (k : Core) : (s.setCore c k).area1Used = s.area1Used := rfl
@[simp] theorem State.setCore_link (s : State) (c : Nat) (k : Core) : (s.setCore c k).link = s.link := rfl
@[simp] theorem State.setCore_vault (s : State) (c : Nat) (k : Core) : (s.setCore c k).vault = s.vault := rfl
@[simp] theorem State.setCore_benches (s : State) (c : Nat) (k : Core) : (s.setCore c k).benches = s.benches := rfl
@[simp] theorem State.setCore_ucode (s : State) (c : Nat) (k : Core) : (s.setCore c k).ucode = s.ucode := rfl
@[simp] theorem State.setCore_mem (s : State) (c : Nat) (k : Core) : (s.setCore c k).mem = s.mem := rfl
@[simp] theorem State.setCore_keys (s : State) (c : Nat) (k : Core) : (s.setCore c k).keys = s.keys := rfl
@[simp] theorem State.setCore_poisoned (s : State) (c : Nat) (k : Core) : (s.setCore c k).poisoned = s.poisoned := rfl
@[simp] theorem State.setCore_gddr (s : State) (c : Nat) (k : Core) : (s.setCore c k).gddr = s.gddr := rfl
@[simp] theorem State.setCore_mramFailed (s : State) (c : Nat) (k : Core) : (s.setCore c k).mramFailed = s.mramFailed := rfl
@[simp] theorem State.setCore_bg (s : State) (c : Nat) (k : Core) : (s.setCore c k).bg = s.bg := rfl
@[simp] theorem State.setCore_bgDue (s : State) (c : Nat) (k : Core) : (s.setCore c k).bgDue = s.bgDue := rfl
@[simp] theorem State.setCore_bgLast (s : State) (c : Nat) (k : Core) : (s.setCore c k).bgLast = s.bgLast := rfl
@[simp] theorem State.setCore_power (s : State) (c : Nat) (k : Core) : (s.setCore c k).power = s.power := rfl
@[simp] theorem State.setCore_therm (s : State) (c : Nat) (k : Core) : (s.setCore c k).therm = s.therm := rfl
@[simp] theorem State.setCore_alert (s : State) (c : Nat) (k : Core) : (s.setCore c k).alert = s.alert := rfl
@[simp] theorem State.setCore_mgmtSeq (s : State) (c : Nat) (k : Core) : (s.setCore c k).mgmtSeq = s.mgmtSeq := rfl
@[simp] theorem State.setCore_elog (s : State) (c : Nat) (k : Core) : (s.setCore c k).elog = s.elog := rfl
@[simp] theorem State.setCore_elogNext (s : State) (c : Nat) (k : Core) : (s.setCore c k).elogNext = s.elogNext := rfl
@[simp] theorem State.setCore_counters (s : State) (c : Nat) (k : Core) : (s.setCore c k).counters = s.counters := rfl
@[simp] theorem State.setCore_sample (s : State) (c : Nat) (k : Core) : (s.setCore c k).sample = s.sample := rfl
@[simp] theorem State.setCore_sampleAt (s : State) (c : Nat) (k : Core) : (s.setCore c k).sampleAt = s.sampleAt := rfl

/-! ### modCore -/

@[simp] theorem State.modCore_pending (s : State) (c : Nat) (f : Core → Core) : (s.modCore c f).pending = s.pending := rfl
@[simp] theorem State.modCore_out (s : State) (c : Nat) (f : Core → Core) : (s.modCore c f).out = s.out := rfl
@[simp] theorem State.modCore_free (s : State) (c : Nat) (f : Core → Core) : (s.modCore c f).free = s.free := rfl
@[simp] theorem State.modCore_ident (s : State) (c : Nat) (f : Core → Core) : (s.modCore c f).ident = s.ident := rfl
@[simp] theorem State.modCore_su (s : State) (c : Nat) (f : Core → Core) : (s.modCore c f).su = s.su := rfl
@[simp] theorem State.modCore_ports (s : State) (c : Nat) (f : Core → Core) : (s.modCore c f).ports = s.ports := rfl
@[simp] theorem State.modCore_pollPeriod (s : State) (c : Nat) (f : Core → Core) : (s.modCore c f).pollPeriod = s.pollPeriod := rfl
@[simp] theorem State.modCore_armAfter (s : State) (c : Nat) (f : Core → Core) : (s.modCore c f).armAfter = s.armAfter := rfl
@[simp] theorem State.modCore_groups (s : State) (c : Nat) (f : Core → Core) : (s.modCore c f).groups = s.groups := rfl
@[simp] theorem State.modCore_chans (s : State) (c : Nat) (f : Core → Core) : (s.modCore c f).chans = s.chans := rfl
@[simp] theorem State.modCore_closedChans (s : State) (c : Nat) (f : Core → Core) : (s.modCore c f).closedChans = s.closedChans := rfl
@[simp] theorem State.modCore_rings (s : State) (c : Nat) (f : Core → Core) : (s.modCore c f).rings = s.rings := rfl
@[simp] theorem State.modCore_poolWait (s : State) (c : Nat) (f : Core → Core) : (s.modCore c f).poolWait = s.poolWait := rfl
@[simp] theorem State.modCore_windows (s : State) (c : Nat) (f : Core → Core) : (s.modCore c f).windows = s.windows := rfl
@[simp] theorem State.modCore_acceptHeld (s : State) (c : Nat) (f : Core → Core) : (s.modCore c f).acceptHeld = s.acceptHeld := rfl
@[simp] theorem State.modCore_rotation (s : State) (c : Nat) (f : Core → Core) : (s.modCore c f).rotation = s.rotation := rfl
@[simp] theorem State.modCore_owed (s : State) (c : Nat) (f : Core → Core) : (s.modCore c f).owed = s.owed := rfl
@[simp] theorem State.modCore_time (s : State) (c : Nat) (f : Core → Core) : (s.modCore c f).time = s.time := rfl
@[simp] theorem State.modCore_bizDate (s : State) (c : Nat) (f : Core → Core) : (s.modCore c f).bizDate = s.bizDate := rfl
@[simp] theorem State.modCore_cal (s : State) (c : Nat) (f : Core → Core) : (s.modCore c f).cal = s.cal := rfl
@[simp] theorem State.modCore_feats (s : State) (c : Nat) (f : Core → Core) : (s.modCore c f).feats = s.feats := rfl
@[simp] theorem State.modCore_items (s : State) (c : Nat) (f : Core → Core) : (s.modCore c f).items = s.items := rfl
@[simp] theorem State.modCore_dialogues (s : State) (c : Nat) (f : Core → Core) : (s.modCore c f).dialogues = s.dialogues := rfl
@[simp] theorem State.modCore_remnants (s : State) (c : Nat) (f : Core → Core) : (s.modCore c f).remnants = s.remnants := rfl
@[simp] theorem State.modCore_incarn (s : State) (c : Nat) (f : Core → Core) : (s.modCore c f).incarn = s.incarn := rfl
@[simp] theorem State.modCore_openWait (s : State) (c : Nat) (f : Core → Core) : (s.modCore c f).openWait = s.openWait := rfl
@[simp] theorem State.modCore_progs (s : State) (c : Nat) (f : Core → Core) : (s.modCore c f).progs = s.progs := rfl
@[simp] theorem State.modCore_area0 (s : State) (c : Nat) (f : Core → Core) : (s.modCore c f).area0 = s.area0 := rfl
@[simp] theorem State.modCore_area1 (s : State) (c : Nat) (f : Core → Core) : (s.modCore c f).area1 = s.area1 := rfl
@[simp] theorem State.modCore_ownInForce (s : State) (c : Nat) (f : Core → Core) : (s.modCore c f).ownInForce = s.ownInForce := rfl
@[simp] theorem State.modCore_area1Used (s : State) (c : Nat) (f : Core → Core) : (s.modCore c f).area1Used = s.area1Used := rfl
@[simp] theorem State.modCore_link (s : State) (c : Nat) (f : Core → Core) : (s.modCore c f).link = s.link := rfl
@[simp] theorem State.modCore_vault (s : State) (c : Nat) (f : Core → Core) : (s.modCore c f).vault = s.vault := rfl
@[simp] theorem State.modCore_benches (s : State) (c : Nat) (f : Core → Core) : (s.modCore c f).benches = s.benches := rfl
@[simp] theorem State.modCore_ucode (s : State) (c : Nat) (f : Core → Core) : (s.modCore c f).ucode = s.ucode := rfl
@[simp] theorem State.modCore_mem (s : State) (c : Nat) (f : Core → Core) : (s.modCore c f).mem = s.mem := rfl
@[simp] theorem State.modCore_keys (s : State) (c : Nat) (f : Core → Core) : (s.modCore c f).keys = s.keys := rfl
@[simp] theorem State.modCore_poisoned (s : State) (c : Nat) (f : Core → Core) : (s.modCore c f).poisoned = s.poisoned := rfl
@[simp] theorem State.modCore_gddr (s : State) (c : Nat) (f : Core → Core) : (s.modCore c f).gddr = s.gddr := rfl
@[simp] theorem State.modCore_mramFailed (s : State) (c : Nat) (f : Core → Core) : (s.modCore c f).mramFailed = s.mramFailed := rfl
@[simp] theorem State.modCore_bg (s : State) (c : Nat) (f : Core → Core) : (s.modCore c f).bg = s.bg := rfl
@[simp] theorem State.modCore_bgDue (s : State) (c : Nat) (f : Core → Core) : (s.modCore c f).bgDue = s.bgDue := rfl
@[simp] theorem State.modCore_bgLast (s : State) (c : Nat) (f : Core → Core) : (s.modCore c f).bgLast = s.bgLast := rfl
@[simp] theorem State.modCore_power (s : State) (c : Nat) (f : Core → Core) : (s.modCore c f).power = s.power := rfl
@[simp] theorem State.modCore_therm (s : State) (c : Nat) (f : Core → Core) : (s.modCore c f).therm = s.therm := rfl
@[simp] theorem State.modCore_alert (s : State) (c : Nat) (f : Core → Core) : (s.modCore c f).alert = s.alert := rfl
@[simp] theorem State.modCore_mgmtSeq (s : State) (c : Nat) (f : Core → Core) : (s.modCore c f).mgmtSeq = s.mgmtSeq := rfl
@[simp] theorem State.modCore_elog (s : State) (c : Nat) (f : Core → Core) : (s.modCore c f).elog = s.elog := rfl
@[simp] theorem State.modCore_elogNext (s : State) (c : Nat) (f : Core → Core) : (s.modCore c f).elogNext = s.elogNext := rfl
@[simp] theorem State.modCore_counters (s : State) (c : Nat) (f : Core → Core) : (s.modCore c f).counters = s.counters := rfl
@[simp] theorem State.modCore_sample (s : State) (c : Nat) (f : Core → Core) : (s.modCore c f).sample = s.sample := rfl
@[simp] theorem State.modCore_sampleAt (s : State) (c : Nat) (f : Core → Core) : (s.modCore c f).sampleAt = s.sampleAt := rfl

/-! ### setPort -/

@[simp] theorem State.setPort_pending (s : State) (p : Nat) (x : Port) : (s.setPort p x).pending = s.pending := rfl
@[simp] theorem State.setPort_out (s : State) (p : Nat) (x : Port) : (s.setPort p x).out = s.out := rfl
@[simp] theorem State.setPort_free (s : State) (p : Nat) (x : Port) : (s.setPort p x).free = s.free := rfl
@[simp] theorem State.setPort_ident (s : State) (p : Nat) (x : Port) : (s.setPort p x).ident = s.ident := rfl
@[simp] theorem State.setPort_su (s : State) (p : Nat) (x : Port) : (s.setPort p x).su = s.su := rfl
@[simp] theorem State.setPort_pollPeriod (s : State) (p : Nat) (x : Port) : (s.setPort p x).pollPeriod = s.pollPeriod := rfl
@[simp] theorem State.setPort_armAfter (s : State) (p : Nat) (x : Port) : (s.setPort p x).armAfter = s.armAfter := rfl
@[simp] theorem State.setPort_groups (s : State) (p : Nat) (x : Port) : (s.setPort p x).groups = s.groups := rfl
@[simp] theorem State.setPort_chans (s : State) (p : Nat) (x : Port) : (s.setPort p x).chans = s.chans := rfl
@[simp] theorem State.setPort_closedChans (s : State) (p : Nat) (x : Port) : (s.setPort p x).closedChans = s.closedChans := rfl
@[simp] theorem State.setPort_rings (s : State) (p : Nat) (x : Port) : (s.setPort p x).rings = s.rings := rfl
@[simp] theorem State.setPort_poolWait (s : State) (p : Nat) (x : Port) : (s.setPort p x).poolWait = s.poolWait := rfl
@[simp] theorem State.setPort_windows (s : State) (p : Nat) (x : Port) : (s.setPort p x).windows = s.windows := rfl
@[simp] theorem State.setPort_acceptHeld (s : State) (p : Nat) (x : Port) : (s.setPort p x).acceptHeld = s.acceptHeld := rfl
@[simp] theorem State.setPort_rotation (s : State) (p : Nat) (x : Port) : (s.setPort p x).rotation = s.rotation := rfl
@[simp] theorem State.setPort_owed (s : State) (p : Nat) (x : Port) : (s.setPort p x).owed = s.owed := rfl
@[simp] theorem State.setPort_time (s : State) (p : Nat) (x : Port) : (s.setPort p x).time = s.time := rfl
@[simp] theorem State.setPort_bizDate (s : State) (p : Nat) (x : Port) : (s.setPort p x).bizDate = s.bizDate := rfl
@[simp] theorem State.setPort_cal (s : State) (p : Nat) (x : Port) : (s.setPort p x).cal = s.cal := rfl
@[simp] theorem State.setPort_feats (s : State) (p : Nat) (x : Port) : (s.setPort p x).feats = s.feats := rfl
@[simp] theorem State.setPort_items (s : State) (p : Nat) (x : Port) : (s.setPort p x).items = s.items := rfl
@[simp] theorem State.setPort_dialogues (s : State) (p : Nat) (x : Port) : (s.setPort p x).dialogues = s.dialogues := rfl
@[simp] theorem State.setPort_remnants (s : State) (p : Nat) (x : Port) : (s.setPort p x).remnants = s.remnants := rfl
@[simp] theorem State.setPort_incarn (s : State) (p : Nat) (x : Port) : (s.setPort p x).incarn = s.incarn := rfl
@[simp] theorem State.setPort_openWait (s : State) (p : Nat) (x : Port) : (s.setPort p x).openWait = s.openWait := rfl
@[simp] theorem State.setPort_progs (s : State) (p : Nat) (x : Port) : (s.setPort p x).progs = s.progs := rfl
@[simp] theorem State.setPort_area0 (s : State) (p : Nat) (x : Port) : (s.setPort p x).area0 = s.area0 := rfl
@[simp] theorem State.setPort_area1 (s : State) (p : Nat) (x : Port) : (s.setPort p x).area1 = s.area1 := rfl
@[simp] theorem State.setPort_ownInForce (s : State) (p : Nat) (x : Port) : (s.setPort p x).ownInForce = s.ownInForce := rfl
@[simp] theorem State.setPort_area1Used (s : State) (p : Nat) (x : Port) : (s.setPort p x).area1Used = s.area1Used := rfl
@[simp] theorem State.setPort_link (s : State) (p : Nat) (x : Port) : (s.setPort p x).link = s.link := rfl
@[simp] theorem State.setPort_vault (s : State) (p : Nat) (x : Port) : (s.setPort p x).vault = s.vault := rfl
@[simp] theorem State.setPort_benches (s : State) (p : Nat) (x : Port) : (s.setPort p x).benches = s.benches := rfl
@[simp] theorem State.setPort_cores (s : State) (p : Nat) (x : Port) : (s.setPort p x).cores = s.cores := rfl
@[simp] theorem State.setPort_ucode (s : State) (p : Nat) (x : Port) : (s.setPort p x).ucode = s.ucode := rfl
@[simp] theorem State.setPort_mem (s : State) (p : Nat) (x : Port) : (s.setPort p x).mem = s.mem := rfl
@[simp] theorem State.setPort_keys (s : State) (p : Nat) (x : Port) : (s.setPort p x).keys = s.keys := rfl
@[simp] theorem State.setPort_poisoned (s : State) (p : Nat) (x : Port) : (s.setPort p x).poisoned = s.poisoned := rfl
@[simp] theorem State.setPort_gddr (s : State) (p : Nat) (x : Port) : (s.setPort p x).gddr = s.gddr := rfl
@[simp] theorem State.setPort_mramFailed (s : State) (p : Nat) (x : Port) : (s.setPort p x).mramFailed = s.mramFailed := rfl
@[simp] theorem State.setPort_bg (s : State) (p : Nat) (x : Port) : (s.setPort p x).bg = s.bg := rfl
@[simp] theorem State.setPort_bgDue (s : State) (p : Nat) (x : Port) : (s.setPort p x).bgDue = s.bgDue := rfl
@[simp] theorem State.setPort_bgLast (s : State) (p : Nat) (x : Port) : (s.setPort p x).bgLast = s.bgLast := rfl
@[simp] theorem State.setPort_power (s : State) (p : Nat) (x : Port) : (s.setPort p x).power = s.power := rfl
@[simp] theorem State.setPort_therm (s : State) (p : Nat) (x : Port) : (s.setPort p x).therm = s.therm := rfl
@[simp] theorem State.setPort_alert (s : State) (p : Nat) (x : Port) : (s.setPort p x).alert = s.alert := rfl
@[simp] theorem State.setPort_mgmtSeq (s : State) (p : Nat) (x : Port) : (s.setPort p x).mgmtSeq = s.mgmtSeq := rfl
@[simp] theorem State.setPort_elog (s : State) (p : Nat) (x : Port) : (s.setPort p x).elog = s.elog := rfl
@[simp] theorem State.setPort_elogNext (s : State) (p : Nat) (x : Port) : (s.setPort p x).elogNext = s.elogNext := rfl
@[simp] theorem State.setPort_counters (s : State) (p : Nat) (x : Port) : (s.setPort p x).counters = s.counters := rfl
@[simp] theorem State.setPort_sample (s : State) (p : Nat) (x : Port) : (s.setPort p x).sample = s.sample := rfl
@[simp] theorem State.setPort_sampleAt (s : State) (p : Nat) (x : Port) : (s.setPort p x).sampleAt = s.sampleAt := rfl

/-! ### modPort -/

@[simp] theorem State.modPort_pending (s : State) (p : Nat) (f : Port → Port) : (s.modPort p f).pending = s.pending := rfl
@[simp] theorem State.modPort_out (s : State) (p : Nat) (f : Port → Port) : (s.modPort p f).out = s.out := rfl
@[simp] theorem State.modPort_free (s : State) (p : Nat) (f : Port → Port) : (s.modPort p f).free = s.free := rfl
@[simp] theorem State.modPort_ident (s : State) (p : Nat) (f : Port → Port) : (s.modPort p f).ident = s.ident := rfl
@[simp] theorem State.modPort_su (s : State) (p : Nat) (f : Port → Port) : (s.modPort p f).su = s.su := rfl
@[simp] theorem State.modPort_pollPeriod (s : State) (p : Nat) (f : Port → Port) : (s.modPort p f).pollPeriod = s.pollPeriod := rfl
@[simp] theorem State.modPort_armAfter (s : State) (p : Nat) (f : Port → Port) : (s.modPort p f).armAfter = s.armAfter := rfl
@[simp] theorem State.modPort_groups (s : State) (p : Nat) (f : Port → Port) : (s.modPort p f).groups = s.groups := rfl
@[simp] theorem State.modPort_chans (s : State) (p : Nat) (f : Port → Port) : (s.modPort p f).chans = s.chans := rfl
@[simp] theorem State.modPort_closedChans (s : State) (p : Nat) (f : Port → Port) : (s.modPort p f).closedChans = s.closedChans := rfl
@[simp] theorem State.modPort_rings (s : State) (p : Nat) (f : Port → Port) : (s.modPort p f).rings = s.rings := rfl
@[simp] theorem State.modPort_poolWait (s : State) (p : Nat) (f : Port → Port) : (s.modPort p f).poolWait = s.poolWait := rfl
@[simp] theorem State.modPort_windows (s : State) (p : Nat) (f : Port → Port) : (s.modPort p f).windows = s.windows := rfl
@[simp] theorem State.modPort_acceptHeld (s : State) (p : Nat) (f : Port → Port) : (s.modPort p f).acceptHeld = s.acceptHeld := rfl
@[simp] theorem State.modPort_rotation (s : State) (p : Nat) (f : Port → Port) : (s.modPort p f).rotation = s.rotation := rfl
@[simp] theorem State.modPort_owed (s : State) (p : Nat) (f : Port → Port) : (s.modPort p f).owed = s.owed := rfl
@[simp] theorem State.modPort_time (s : State) (p : Nat) (f : Port → Port) : (s.modPort p f).time = s.time := rfl
@[simp] theorem State.modPort_bizDate (s : State) (p : Nat) (f : Port → Port) : (s.modPort p f).bizDate = s.bizDate := rfl
@[simp] theorem State.modPort_cal (s : State) (p : Nat) (f : Port → Port) : (s.modPort p f).cal = s.cal := rfl
@[simp] theorem State.modPort_feats (s : State) (p : Nat) (f : Port → Port) : (s.modPort p f).feats = s.feats := rfl
@[simp] theorem State.modPort_items (s : State) (p : Nat) (f : Port → Port) : (s.modPort p f).items = s.items := rfl
@[simp] theorem State.modPort_dialogues (s : State) (p : Nat) (f : Port → Port) : (s.modPort p f).dialogues = s.dialogues := rfl
@[simp] theorem State.modPort_remnants (s : State) (p : Nat) (f : Port → Port) : (s.modPort p f).remnants = s.remnants := rfl
@[simp] theorem State.modPort_incarn (s : State) (p : Nat) (f : Port → Port) : (s.modPort p f).incarn = s.incarn := rfl
@[simp] theorem State.modPort_openWait (s : State) (p : Nat) (f : Port → Port) : (s.modPort p f).openWait = s.openWait := rfl
@[simp] theorem State.modPort_progs (s : State) (p : Nat) (f : Port → Port) : (s.modPort p f).progs = s.progs := rfl
@[simp] theorem State.modPort_area0 (s : State) (p : Nat) (f : Port → Port) : (s.modPort p f).area0 = s.area0 := rfl
@[simp] theorem State.modPort_area1 (s : State) (p : Nat) (f : Port → Port) : (s.modPort p f).area1 = s.area1 := rfl
@[simp] theorem State.modPort_ownInForce (s : State) (p : Nat) (f : Port → Port) : (s.modPort p f).ownInForce = s.ownInForce := rfl
@[simp] theorem State.modPort_area1Used (s : State) (p : Nat) (f : Port → Port) : (s.modPort p f).area1Used = s.area1Used := rfl
@[simp] theorem State.modPort_link (s : State) (p : Nat) (f : Port → Port) : (s.modPort p f).link = s.link := rfl
@[simp] theorem State.modPort_vault (s : State) (p : Nat) (f : Port → Port) : (s.modPort p f).vault = s.vault := rfl
@[simp] theorem State.modPort_benches (s : State) (p : Nat) (f : Port → Port) : (s.modPort p f).benches = s.benches := rfl
@[simp] theorem State.modPort_cores (s : State) (p : Nat) (f : Port → Port) : (s.modPort p f).cores = s.cores := rfl
@[simp] theorem State.modPort_ucode (s : State) (p : Nat) (f : Port → Port) : (s.modPort p f).ucode = s.ucode := rfl
@[simp] theorem State.modPort_mem (s : State) (p : Nat) (f : Port → Port) : (s.modPort p f).mem = s.mem := rfl
@[simp] theorem State.modPort_keys (s : State) (p : Nat) (f : Port → Port) : (s.modPort p f).keys = s.keys := rfl
@[simp] theorem State.modPort_poisoned (s : State) (p : Nat) (f : Port → Port) : (s.modPort p f).poisoned = s.poisoned := rfl
@[simp] theorem State.modPort_gddr (s : State) (p : Nat) (f : Port → Port) : (s.modPort p f).gddr = s.gddr := rfl
@[simp] theorem State.modPort_mramFailed (s : State) (p : Nat) (f : Port → Port) : (s.modPort p f).mramFailed = s.mramFailed := rfl
@[simp] theorem State.modPort_bg (s : State) (p : Nat) (f : Port → Port) : (s.modPort p f).bg = s.bg := rfl
@[simp] theorem State.modPort_bgDue (s : State) (p : Nat) (f : Port → Port) : (s.modPort p f).bgDue = s.bgDue := rfl
@[simp] theorem State.modPort_bgLast (s : State) (p : Nat) (f : Port → Port) : (s.modPort p f).bgLast = s.bgLast := rfl
@[simp] theorem State.modPort_power (s : State) (p : Nat) (f : Port → Port) : (s.modPort p f).power = s.power := rfl
@[simp] theorem State.modPort_therm (s : State) (p : Nat) (f : Port → Port) : (s.modPort p f).therm = s.therm := rfl
@[simp] theorem State.modPort_alert (s : State) (p : Nat) (f : Port → Port) : (s.modPort p f).alert = s.alert := rfl
@[simp] theorem State.modPort_mgmtSeq (s : State) (p : Nat) (f : Port → Port) : (s.modPort p f).mgmtSeq = s.mgmtSeq := rfl
@[simp] theorem State.modPort_elog (s : State) (p : Nat) (f : Port → Port) : (s.modPort p f).elog = s.elog := rfl
@[simp] theorem State.modPort_elogNext (s : State) (p : Nat) (f : Port → Port) : (s.modPort p f).elogNext = s.elogNext := rfl
@[simp] theorem State.modPort_counters (s : State) (p : Nat) (f : Port → Port) : (s.modPort p f).counters = s.counters := rfl
@[simp] theorem State.modPort_sample (s : State) (p : Nat) (f : Port → Port) : (s.modPort p f).sample = s.sample := rfl
@[simp] theorem State.modPort_sampleAt (s : State) (p : Nat) (f : Port → Port) : (s.modPort p f).sampleAt = s.sampleAt := rfl

/-! ### setBench -/

@[simp] theorem State.setBench_pending (s : State) (b : Nat) (x : Bench) : (s.setBench b x).pending = s.pending := rfl
@[simp] theorem State.setBench_out (s : State) (b : Nat) (x : Bench) : (s.setBench b x).out = s.out := rfl
@[simp] theorem State.setBench_free (s : State) (b : Nat) (x : Bench) : (s.setBench b x).free = s.free := rfl
@[simp] theorem State.setBench_ident (s : State) (b : Nat) (x : Bench) : (s.setBench b x).ident = s.ident := rfl
@[simp] theorem State.setBench_su (s : State) (b : Nat) (x : Bench) : (s.setBench b x).su = s.su := rfl
@[simp] theorem State.setBench_ports (s : State) (b : Nat) (x : Bench) : (s.setBench b x).ports = s.ports := rfl
@[simp] theorem State.setBench_pollPeriod (s : State) (b : Nat) (x : Bench) : (s.setBench b x).pollPeriod = s.pollPeriod := rfl
@[simp] theorem State.setBench_armAfter (s : State) (b : Nat) (x : Bench) : (s.setBench b x).armAfter = s.armAfter := rfl
@[simp] theorem State.setBench_groups (s : State) (b : Nat) (x : Bench) : (s.setBench b x).groups = s.groups := rfl
@[simp] theorem State.setBench_chans (s : State) (b : Nat) (x : Bench) : (s.setBench b x).chans = s.chans := rfl
@[simp] theorem State.setBench_closedChans (s : State) (b : Nat) (x : Bench) : (s.setBench b x).closedChans = s.closedChans := rfl
@[simp] theorem State.setBench_rings (s : State) (b : Nat) (x : Bench) : (s.setBench b x).rings = s.rings := rfl
@[simp] theorem State.setBench_poolWait (s : State) (b : Nat) (x : Bench) : (s.setBench b x).poolWait = s.poolWait := rfl
@[simp] theorem State.setBench_windows (s : State) (b : Nat) (x : Bench) : (s.setBench b x).windows = s.windows := rfl
@[simp] theorem State.setBench_acceptHeld (s : State) (b : Nat) (x : Bench) : (s.setBench b x).acceptHeld = s.acceptHeld := rfl
@[simp] theorem State.setBench_rotation (s : State) (b : Nat) (x : Bench) : (s.setBench b x).rotation = s.rotation := rfl
@[simp] theorem State.setBench_owed (s : State) (b : Nat) (x : Bench) : (s.setBench b x).owed = s.owed := rfl
@[simp] theorem State.setBench_time (s : State) (b : Nat) (x : Bench) : (s.setBench b x).time = s.time := rfl
@[simp] theorem State.setBench_bizDate (s : State) (b : Nat) (x : Bench) : (s.setBench b x).bizDate = s.bizDate := rfl
@[simp] theorem State.setBench_cal (s : State) (b : Nat) (x : Bench) : (s.setBench b x).cal = s.cal := rfl
@[simp] theorem State.setBench_feats (s : State) (b : Nat) (x : Bench) : (s.setBench b x).feats = s.feats := rfl
@[simp] theorem State.setBench_items (s : State) (b : Nat) (x : Bench) : (s.setBench b x).items = s.items := rfl
@[simp] theorem State.setBench_dialogues (s : State) (b : Nat) (x : Bench) : (s.setBench b x).dialogues = s.dialogues := rfl
@[simp] theorem State.setBench_remnants (s : State) (b : Nat) (x : Bench) : (s.setBench b x).remnants = s.remnants := rfl
@[simp] theorem State.setBench_incarn (s : State) (b : Nat) (x : Bench) : (s.setBench b x).incarn = s.incarn := rfl
@[simp] theorem State.setBench_openWait (s : State) (b : Nat) (x : Bench) : (s.setBench b x).openWait = s.openWait := rfl
@[simp] theorem State.setBench_progs (s : State) (b : Nat) (x : Bench) : (s.setBench b x).progs = s.progs := rfl
@[simp] theorem State.setBench_area0 (s : State) (b : Nat) (x : Bench) : (s.setBench b x).area0 = s.area0 := rfl
@[simp] theorem State.setBench_area1 (s : State) (b : Nat) (x : Bench) : (s.setBench b x).area1 = s.area1 := rfl
@[simp] theorem State.setBench_ownInForce (s : State) (b : Nat) (x : Bench) : (s.setBench b x).ownInForce = s.ownInForce := rfl
@[simp] theorem State.setBench_area1Used (s : State) (b : Nat) (x : Bench) : (s.setBench b x).area1Used = s.area1Used := rfl
@[simp] theorem State.setBench_link (s : State) (b : Nat) (x : Bench) : (s.setBench b x).link = s.link := rfl
@[simp] theorem State.setBench_vault (s : State) (b : Nat) (x : Bench) : (s.setBench b x).vault = s.vault := rfl
@[simp] theorem State.setBench_cores (s : State) (b : Nat) (x : Bench) : (s.setBench b x).cores = s.cores := rfl
@[simp] theorem State.setBench_ucode (s : State) (b : Nat) (x : Bench) : (s.setBench b x).ucode = s.ucode := rfl
@[simp] theorem State.setBench_mem (s : State) (b : Nat) (x : Bench) : (s.setBench b x).mem = s.mem := rfl
@[simp] theorem State.setBench_keys (s : State) (b : Nat) (x : Bench) : (s.setBench b x).keys = s.keys := rfl
@[simp] theorem State.setBench_poisoned (s : State) (b : Nat) (x : Bench) : (s.setBench b x).poisoned = s.poisoned := rfl
@[simp] theorem State.setBench_gddr (s : State) (b : Nat) (x : Bench) : (s.setBench b x).gddr = s.gddr := rfl
@[simp] theorem State.setBench_mramFailed (s : State) (b : Nat) (x : Bench) : (s.setBench b x).mramFailed = s.mramFailed := rfl
@[simp] theorem State.setBench_bg (s : State) (b : Nat) (x : Bench) : (s.setBench b x).bg = s.bg := rfl
@[simp] theorem State.setBench_bgDue (s : State) (b : Nat) (x : Bench) : (s.setBench b x).bgDue = s.bgDue := rfl
@[simp] theorem State.setBench_bgLast (s : State) (b : Nat) (x : Bench) : (s.setBench b x).bgLast = s.bgLast := rfl
@[simp] theorem State.setBench_power (s : State) (b : Nat) (x : Bench) : (s.setBench b x).power = s.power := rfl
@[simp] theorem State.setBench_therm (s : State) (b : Nat) (x : Bench) : (s.setBench b x).therm = s.therm := rfl
@[simp] theorem State.setBench_alert (s : State) (b : Nat) (x : Bench) : (s.setBench b x).alert = s.alert := rfl
@[simp] theorem State.setBench_mgmtSeq (s : State) (b : Nat) (x : Bench) : (s.setBench b x).mgmtSeq = s.mgmtSeq := rfl
@[simp] theorem State.setBench_elog (s : State) (b : Nat) (x : Bench) : (s.setBench b x).elog = s.elog := rfl
@[simp] theorem State.setBench_elogNext (s : State) (b : Nat) (x : Bench) : (s.setBench b x).elogNext = s.elogNext := rfl
@[simp] theorem State.setBench_counters (s : State) (b : Nat) (x : Bench) : (s.setBench b x).counters = s.counters := rfl
@[simp] theorem State.setBench_sample (s : State) (b : Nat) (x : Bench) : (s.setBench b x).sample = s.sample := rfl
@[simp] theorem State.setBench_sampleAt (s : State) (b : Nat) (x : Bench) : (s.setBench b x).sampleAt = s.sampleAt := rfl

/-! ### modBench -/

@[simp] theorem State.modBench_pending (s : State) (b : Nat) (f : Bench → Bench) : (s.modBench b f).pending = s.pending := rfl
@[simp] theorem State.modBench_out (s : State) (b : Nat) (f : Bench → Bench) : (s.modBench b f).out = s.out := rfl
@[simp] theorem State.modBench_free (s : State) (b : Nat) (f : Bench → Bench) : (s.modBench b f).free = s.free := rfl
@[simp] theorem State.modBench_ident (s : State) (b : Nat) (f : Bench → Bench) : (s.modBench b f).ident = s.ident := rfl
@[simp] theorem State.modBench_su (s : State) (b : Nat) (f : Bench → Bench) : (s.modBench b f).su = s.su := rfl
@[simp] theorem State.modBench_ports (s : State) (b : Nat) (f : Bench → Bench) : (s.modBench b f).ports = s.ports := rfl
@[simp] theorem State.modBench_pollPeriod (s : State) (b : Nat) (f : Bench → Bench) : (s.modBench b f).pollPeriod = s.pollPeriod := rfl
@[simp] theorem State.modBench_armAfter (s : State) (b : Nat) (f : Bench → Bench) : (s.modBench b f).armAfter = s.armAfter := rfl
@[simp] theorem State.modBench_groups (s : State) (b : Nat) (f : Bench → Bench) : (s.modBench b f).groups = s.groups := rfl
@[simp] theorem State.modBench_chans (s : State) (b : Nat) (f : Bench → Bench) : (s.modBench b f).chans = s.chans := rfl
@[simp] theorem State.modBench_closedChans (s : State) (b : Nat) (f : Bench → Bench) : (s.modBench b f).closedChans = s.closedChans := rfl
@[simp] theorem State.modBench_rings (s : State) (b : Nat) (f : Bench → Bench) : (s.modBench b f).rings = s.rings := rfl
@[simp] theorem State.modBench_poolWait (s : State) (b : Nat) (f : Bench → Bench) : (s.modBench b f).poolWait = s.poolWait := rfl
@[simp] theorem State.modBench_windows (s : State) (b : Nat) (f : Bench → Bench) : (s.modBench b f).windows = s.windows := rfl
@[simp] theorem State.modBench_acceptHeld (s : State) (b : Nat) (f : Bench → Bench) : (s.modBench b f).acceptHeld = s.acceptHeld := rfl
@[simp] theorem State.modBench_rotation (s : State) (b : Nat) (f : Bench → Bench) : (s.modBench b f).rotation = s.rotation := rfl
@[simp] theorem State.modBench_owed (s : State) (b : Nat) (f : Bench → Bench) : (s.modBench b f).owed = s.owed := rfl
@[simp] theorem State.modBench_time (s : State) (b : Nat) (f : Bench → Bench) : (s.modBench b f).time = s.time := rfl
@[simp] theorem State.modBench_bizDate (s : State) (b : Nat) (f : Bench → Bench) : (s.modBench b f).bizDate = s.bizDate := rfl
@[simp] theorem State.modBench_cal (s : State) (b : Nat) (f : Bench → Bench) : (s.modBench b f).cal = s.cal := rfl
@[simp] theorem State.modBench_feats (s : State) (b : Nat) (f : Bench → Bench) : (s.modBench b f).feats = s.feats := rfl
@[simp] theorem State.modBench_items (s : State) (b : Nat) (f : Bench → Bench) : (s.modBench b f).items = s.items := rfl
@[simp] theorem State.modBench_dialogues (s : State) (b : Nat) (f : Bench → Bench) : (s.modBench b f).dialogues = s.dialogues := rfl
@[simp] theorem State.modBench_remnants (s : State) (b : Nat) (f : Bench → Bench) : (s.modBench b f).remnants = s.remnants := rfl
@[simp] theorem State.modBench_incarn (s : State) (b : Nat) (f : Bench → Bench) : (s.modBench b f).incarn = s.incarn := rfl
@[simp] theorem State.modBench_openWait (s : State) (b : Nat) (f : Bench → Bench) : (s.modBench b f).openWait = s.openWait := rfl
@[simp] theorem State.modBench_progs (s : State) (b : Nat) (f : Bench → Bench) : (s.modBench b f).progs = s.progs := rfl
@[simp] theorem State.modBench_area0 (s : State) (b : Nat) (f : Bench → Bench) : (s.modBench b f).area0 = s.area0 := rfl
@[simp] theorem State.modBench_area1 (s : State) (b : Nat) (f : Bench → Bench) : (s.modBench b f).area1 = s.area1 := rfl
@[simp] theorem State.modBench_ownInForce (s : State) (b : Nat) (f : Bench → Bench) : (s.modBench b f).ownInForce = s.ownInForce := rfl
@[simp] theorem State.modBench_area1Used (s : State) (b : Nat) (f : Bench → Bench) : (s.modBench b f).area1Used = s.area1Used := rfl
@[simp] theorem State.modBench_link (s : State) (b : Nat) (f : Bench → Bench) : (s.modBench b f).link = s.link := rfl
@[simp] theorem State.modBench_vault (s : State) (b : Nat) (f : Bench → Bench) : (s.modBench b f).vault = s.vault := rfl
@[simp] theorem State.modBench_cores (s : State) (b : Nat) (f : Bench → Bench) : (s.modBench b f).cores = s.cores := rfl
@[simp] theorem State.modBench_ucode (s : State) (b : Nat) (f : Bench → Bench) : (s.modBench b f).ucode = s.ucode := rfl
@[simp] theorem State.modBench_mem (s : State) (b : Nat) (f : Bench → Bench) : (s.modBench b f).mem = s.mem := rfl
@[simp] theorem State.modBench_keys (s : State) (b : Nat) (f : Bench → Bench) : (s.modBench b f).keys = s.keys := rfl
@[simp] theorem State.modBench_poisoned (s : State) (b : Nat) (f : Bench → Bench) : (s.modBench b f).poisoned = s.poisoned := rfl
@[simp] theorem State.modBench_gddr (s : State) (b : Nat) (f : Bench → Bench) : (s.modBench b f).gddr = s.gddr := rfl
@[simp] theorem State.modBench_mramFailed (s : State) (b : Nat) (f : Bench → Bench) : (s.modBench b f).mramFailed = s.mramFailed := rfl
@[simp] theorem State.modBench_bg (s : State) (b : Nat) (f : Bench → Bench) : (s.modBench b f).bg = s.bg := rfl
@[simp] theorem State.modBench_bgDue (s : State) (b : Nat) (f : Bench → Bench) : (s.modBench b f).bgDue = s.bgDue := rfl
@[simp] theorem State.modBench_bgLast (s : State) (b : Nat) (f : Bench → Bench) : (s.modBench b f).bgLast = s.bgLast := rfl
@[simp] theorem State.modBench_power (s : State) (b : Nat) (f : Bench → Bench) : (s.modBench b f).power = s.power := rfl
@[simp] theorem State.modBench_therm (s : State) (b : Nat) (f : Bench → Bench) : (s.modBench b f).therm = s.therm := rfl
@[simp] theorem State.modBench_alert (s : State) (b : Nat) (f : Bench → Bench) : (s.modBench b f).alert = s.alert := rfl
@[simp] theorem State.modBench_mgmtSeq (s : State) (b : Nat) (f : Bench → Bench) : (s.modBench b f).mgmtSeq = s.mgmtSeq := rfl
@[simp] theorem State.modBench_elog (s : State) (b : Nat) (f : Bench → Bench) : (s.modBench b f).elog = s.elog := rfl
@[simp] theorem State.modBench_elogNext (s : State) (b : Nat) (f : Bench → Bench) : (s.modBench b f).elogNext = s.elogNext := rfl
@[simp] theorem State.modBench_counters (s : State) (b : Nat) (f : Bench → Bench) : (s.modBench b f).counters = s.counters := rfl
@[simp] theorem State.modBench_sample (s : State) (b : Nat) (f : Bench → Bench) : (s.modBench b f).sample = s.sample := rfl
@[simp] theorem State.modBench_sampleAt (s : State) (b : Nat) (f : Bench → Bench) : (s.modBench b f).sampleAt = s.sampleAt := rfl

/-! ### modChan -/

@[simp] theorem State.modChan_pending (s : State) (n : Nat) (f : Channel → Channel) : (s.modChan n f).pending = s.pending := rfl
@[simp] theorem State.modChan_out (s : State) (n : Nat) (f : Channel → Channel) : (s.modChan n f).out = s.out := rfl
@[simp] theorem State.modChan_free (s : State) (n : Nat) (f : Channel → Channel) : (s.modChan n f).free = s.free := rfl
@[simp] theorem State.modChan_ident (s : State) (n : Nat) (f : Channel → Channel) : (s.modChan n f).ident = s.ident := rfl
@[simp] theorem State.modChan_su (s : State) (n : Nat) (f : Channel → Channel) : (s.modChan n f).su = s.su := rfl
@[simp] theorem State.modChan_ports (s : State) (n : Nat) (f : Channel → Channel) : (s.modChan n f).ports = s.ports := rfl
@[simp] theorem State.modChan_pollPeriod (s : State) (n : Nat) (f : Channel → Channel) : (s.modChan n f).pollPeriod = s.pollPeriod := rfl
@[simp] theorem State.modChan_armAfter (s : State) (n : Nat) (f : Channel → Channel) : (s.modChan n f).armAfter = s.armAfter := rfl
@[simp] theorem State.modChan_groups (s : State) (n : Nat) (f : Channel → Channel) : (s.modChan n f).groups = s.groups := rfl
@[simp] theorem State.modChan_closedChans (s : State) (n : Nat) (f : Channel → Channel) : (s.modChan n f).closedChans = s.closedChans := rfl
@[simp] theorem State.modChan_rings (s : State) (n : Nat) (f : Channel → Channel) : (s.modChan n f).rings = s.rings := rfl
@[simp] theorem State.modChan_poolWait (s : State) (n : Nat) (f : Channel → Channel) : (s.modChan n f).poolWait = s.poolWait := rfl
@[simp] theorem State.modChan_windows (s : State) (n : Nat) (f : Channel → Channel) : (s.modChan n f).windows = s.windows := rfl
@[simp] theorem State.modChan_acceptHeld (s : State) (n : Nat) (f : Channel → Channel) : (s.modChan n f).acceptHeld = s.acceptHeld := rfl
@[simp] theorem State.modChan_rotation (s : State) (n : Nat) (f : Channel → Channel) : (s.modChan n f).rotation = s.rotation := rfl
@[simp] theorem State.modChan_owed (s : State) (n : Nat) (f : Channel → Channel) : (s.modChan n f).owed = s.owed := rfl
@[simp] theorem State.modChan_time (s : State) (n : Nat) (f : Channel → Channel) : (s.modChan n f).time = s.time := rfl
@[simp] theorem State.modChan_bizDate (s : State) (n : Nat) (f : Channel → Channel) : (s.modChan n f).bizDate = s.bizDate := rfl
@[simp] theorem State.modChan_cal (s : State) (n : Nat) (f : Channel → Channel) : (s.modChan n f).cal = s.cal := rfl
@[simp] theorem State.modChan_feats (s : State) (n : Nat) (f : Channel → Channel) : (s.modChan n f).feats = s.feats := rfl
@[simp] theorem State.modChan_items (s : State) (n : Nat) (f : Channel → Channel) : (s.modChan n f).items = s.items := rfl
@[simp] theorem State.modChan_dialogues (s : State) (n : Nat) (f : Channel → Channel) : (s.modChan n f).dialogues = s.dialogues := rfl
@[simp] theorem State.modChan_remnants (s : State) (n : Nat) (f : Channel → Channel) : (s.modChan n f).remnants = s.remnants := rfl
@[simp] theorem State.modChan_incarn (s : State) (n : Nat) (f : Channel → Channel) : (s.modChan n f).incarn = s.incarn := rfl
@[simp] theorem State.modChan_openWait (s : State) (n : Nat) (f : Channel → Channel) : (s.modChan n f).openWait = s.openWait := rfl
@[simp] theorem State.modChan_progs (s : State) (n : Nat) (f : Channel → Channel) : (s.modChan n f).progs = s.progs := rfl
@[simp] theorem State.modChan_area0 (s : State) (n : Nat) (f : Channel → Channel) : (s.modChan n f).area0 = s.area0 := rfl
@[simp] theorem State.modChan_area1 (s : State) (n : Nat) (f : Channel → Channel) : (s.modChan n f).area1 = s.area1 := rfl
@[simp] theorem State.modChan_ownInForce (s : State) (n : Nat) (f : Channel → Channel) : (s.modChan n f).ownInForce = s.ownInForce := rfl
@[simp] theorem State.modChan_area1Used (s : State) (n : Nat) (f : Channel → Channel) : (s.modChan n f).area1Used = s.area1Used := rfl
@[simp] theorem State.modChan_link (s : State) (n : Nat) (f : Channel → Channel) : (s.modChan n f).link = s.link := rfl
@[simp] theorem State.modChan_vault (s : State) (n : Nat) (f : Channel → Channel) : (s.modChan n f).vault = s.vault := rfl
@[simp] theorem State.modChan_benches (s : State) (n : Nat) (f : Channel → Channel) : (s.modChan n f).benches = s.benches := rfl
@[simp] theorem State.modChan_cores (s : State) (n : Nat) (f : Channel → Channel) : (s.modChan n f).cores = s.cores := rfl
@[simp] theorem State.modChan_ucode (s : State) (n : Nat) (f : Channel → Channel) : (s.modChan n f).ucode = s.ucode := rfl
@[simp] theorem State.modChan_mem (s : State) (n : Nat) (f : Channel → Channel) : (s.modChan n f).mem = s.mem := rfl
@[simp] theorem State.modChan_keys (s : State) (n : Nat) (f : Channel → Channel) : (s.modChan n f).keys = s.keys := rfl
@[simp] theorem State.modChan_poisoned (s : State) (n : Nat) (f : Channel → Channel) : (s.modChan n f).poisoned = s.poisoned := rfl
@[simp] theorem State.modChan_gddr (s : State) (n : Nat) (f : Channel → Channel) : (s.modChan n f).gddr = s.gddr := rfl
@[simp] theorem State.modChan_mramFailed (s : State) (n : Nat) (f : Channel → Channel) : (s.modChan n f).mramFailed = s.mramFailed := rfl
@[simp] theorem State.modChan_bg (s : State) (n : Nat) (f : Channel → Channel) : (s.modChan n f).bg = s.bg := rfl
@[simp] theorem State.modChan_bgDue (s : State) (n : Nat) (f : Channel → Channel) : (s.modChan n f).bgDue = s.bgDue := rfl
@[simp] theorem State.modChan_bgLast (s : State) (n : Nat) (f : Channel → Channel) : (s.modChan n f).bgLast = s.bgLast := rfl
@[simp] theorem State.modChan_power (s : State) (n : Nat) (f : Channel → Channel) : (s.modChan n f).power = s.power := rfl
@[simp] theorem State.modChan_therm (s : State) (n : Nat) (f : Channel → Channel) : (s.modChan n f).therm = s.therm := rfl
@[simp] theorem State.modChan_alert (s : State) (n : Nat) (f : Channel → Channel) : (s.modChan n f).alert = s.alert := rfl
@[simp] theorem State.modChan_mgmtSeq (s : State) (n : Nat) (f : Channel → Channel) : (s.modChan n f).mgmtSeq = s.mgmtSeq := rfl
@[simp] theorem State.modChan_elog (s : State) (n : Nat) (f : Channel → Channel) : (s.modChan n f).elog = s.elog := rfl
@[simp] theorem State.modChan_elogNext (s : State) (n : Nat) (f : Channel → Channel) : (s.modChan n f).elogNext = s.elogNext := rfl
@[simp] theorem State.modChan_counters (s : State) (n : Nat) (f : Channel → Channel) : (s.modChan n f).counters = s.counters := rfl
@[simp] theorem State.modChan_sample (s : State) (n : Nat) (f : Channel → Channel) : (s.modChan n f).sample = s.sample := rfl
@[simp] theorem State.modChan_sampleAt (s : State) (n : Nat) (f : Channel → Channel) : (s.modChan n f).sampleAt = s.sampleAt := rfl

/-! ### modRing -/

@[simp] theorem State.modRing_pending (s : State) (n : Nat) (f : Ring → Ring) : (s.modRing n f).pending = s.pending := rfl
@[simp] theorem State.modRing_out (s : State) (n : Nat) (f : Ring → Ring) : (s.modRing n f).out = s.out := rfl
@[simp] theorem State.modRing_free (s : State) (n : Nat) (f : Ring → Ring) : (s.modRing n f).free = s.free := rfl
@[simp] theorem State.modRing_ident (s : State) (n : Nat) (f : Ring → Ring) : (s.modRing n f).ident = s.ident := rfl
@[simp] theorem State.modRing_su (s : State) (n : Nat) (f : Ring → Ring) : (s.modRing n f).su = s.su := rfl
@[simp] theorem State.modRing_ports (s : State) (n : Nat) (f : Ring → Ring) : (s.modRing n f).ports = s.ports := rfl
@[simp] theorem State.modRing_pollPeriod (s : State) (n : Nat) (f : Ring → Ring) : (s.modRing n f).pollPeriod = s.pollPeriod := rfl
@[simp] theorem State.modRing_armAfter (s : State) (n : Nat) (f : Ring → Ring) : (s.modRing n f).armAfter = s.armAfter := rfl
@[simp] theorem State.modRing_groups (s : State) (n : Nat) (f : Ring → Ring) : (s.modRing n f).groups = s.groups := rfl
@[simp] theorem State.modRing_chans (s : State) (n : Nat) (f : Ring → Ring) : (s.modRing n f).chans = s.chans := rfl
@[simp] theorem State.modRing_closedChans (s : State) (n : Nat) (f : Ring → Ring) : (s.modRing n f).closedChans = s.closedChans := rfl
@[simp] theorem State.modRing_poolWait (s : State) (n : Nat) (f : Ring → Ring) : (s.modRing n f).poolWait = s.poolWait := rfl
@[simp] theorem State.modRing_windows (s : State) (n : Nat) (f : Ring → Ring) : (s.modRing n f).windows = s.windows := rfl
@[simp] theorem State.modRing_acceptHeld (s : State) (n : Nat) (f : Ring → Ring) : (s.modRing n f).acceptHeld = s.acceptHeld := rfl
@[simp] theorem State.modRing_rotation (s : State) (n : Nat) (f : Ring → Ring) : (s.modRing n f).rotation = s.rotation := rfl
@[simp] theorem State.modRing_owed (s : State) (n : Nat) (f : Ring → Ring) : (s.modRing n f).owed = s.owed := rfl
@[simp] theorem State.modRing_time (s : State) (n : Nat) (f : Ring → Ring) : (s.modRing n f).time = s.time := rfl
@[simp] theorem State.modRing_bizDate (s : State) (n : Nat) (f : Ring → Ring) : (s.modRing n f).bizDate = s.bizDate := rfl
@[simp] theorem State.modRing_cal (s : State) (n : Nat) (f : Ring → Ring) : (s.modRing n f).cal = s.cal := rfl
@[simp] theorem State.modRing_feats (s : State) (n : Nat) (f : Ring → Ring) : (s.modRing n f).feats = s.feats := rfl
@[simp] theorem State.modRing_items (s : State) (n : Nat) (f : Ring → Ring) : (s.modRing n f).items = s.items := rfl
@[simp] theorem State.modRing_dialogues (s : State) (n : Nat) (f : Ring → Ring) : (s.modRing n f).dialogues = s.dialogues := rfl
@[simp] theorem State.modRing_remnants (s : State) (n : Nat) (f : Ring → Ring) : (s.modRing n f).remnants = s.remnants := rfl
@[simp] theorem State.modRing_incarn (s : State) (n : Nat) (f : Ring → Ring) : (s.modRing n f).incarn = s.incarn := rfl
@[simp] theorem State.modRing_openWait (s : State) (n : Nat) (f : Ring → Ring) : (s.modRing n f).openWait = s.openWait := rfl
@[simp] theorem State.modRing_progs (s : State) (n : Nat) (f : Ring → Ring) : (s.modRing n f).progs = s.progs := rfl
@[simp] theorem State.modRing_area0 (s : State) (n : Nat) (f : Ring → Ring) : (s.modRing n f).area0 = s.area0 := rfl
@[simp] theorem State.modRing_area1 (s : State) (n : Nat) (f : Ring → Ring) : (s.modRing n f).area1 = s.area1 := rfl
@[simp] theorem State.modRing_ownInForce (s : State) (n : Nat) (f : Ring → Ring) : (s.modRing n f).ownInForce = s.ownInForce := rfl
@[simp] theorem State.modRing_area1Used (s : State) (n : Nat) (f : Ring → Ring) : (s.modRing n f).area1Used = s.area1Used := rfl
@[simp] theorem State.modRing_link (s : State) (n : Nat) (f : Ring → Ring) : (s.modRing n f).link = s.link := rfl
@[simp] theorem State.modRing_vault (s : State) (n : Nat) (f : Ring → Ring) : (s.modRing n f).vault = s.vault := rfl
@[simp] theorem State.modRing_benches (s : State) (n : Nat) (f : Ring → Ring) : (s.modRing n f).benches = s.benches := rfl
@[simp] theorem State.modRing_cores (s : State) (n : Nat) (f : Ring → Ring) : (s.modRing n f).cores = s.cores := rfl
@[simp] theorem State.modRing_ucode (s : State) (n : Nat) (f : Ring → Ring) : (s.modRing n f).ucode = s.ucode := rfl
@[simp] theorem State.modRing_mem (s : State) (n : Nat) (f : Ring → Ring) : (s.modRing n f).mem = s.mem := rfl
@[simp] theorem State.modRing_keys (s : State) (n : Nat) (f : Ring → Ring) : (s.modRing n f).keys = s.keys := rfl
@[simp] theorem State.modRing_poisoned (s : State) (n : Nat) (f : Ring → Ring) : (s.modRing n f).poisoned = s.poisoned := rfl
@[simp] theorem State.modRing_gddr (s : State) (n : Nat) (f : Ring → Ring) : (s.modRing n f).gddr = s.gddr := rfl
@[simp] theorem State.modRing_mramFailed (s : State) (n : Nat) (f : Ring → Ring) : (s.modRing n f).mramFailed = s.mramFailed := rfl
@[simp] theorem State.modRing_bg (s : State) (n : Nat) (f : Ring → Ring) : (s.modRing n f).bg = s.bg := rfl
@[simp] theorem State.modRing_bgDue (s : State) (n : Nat) (f : Ring → Ring) : (s.modRing n f).bgDue = s.bgDue := rfl
@[simp] theorem State.modRing_bgLast (s : State) (n : Nat) (f : Ring → Ring) : (s.modRing n f).bgLast = s.bgLast := rfl
@[simp] theorem State.modRing_power (s : State) (n : Nat) (f : Ring → Ring) : (s.modRing n f).power = s.power := rfl
@[simp] theorem State.modRing_therm (s : State) (n : Nat) (f : Ring → Ring) : (s.modRing n f).therm = s.therm := rfl
@[simp] theorem State.modRing_alert (s : State) (n : Nat) (f : Ring → Ring) : (s.modRing n f).alert = s.alert := rfl
@[simp] theorem State.modRing_mgmtSeq (s : State) (n : Nat) (f : Ring → Ring) : (s.modRing n f).mgmtSeq = s.mgmtSeq := rfl
@[simp] theorem State.modRing_elog (s : State) (n : Nat) (f : Ring → Ring) : (s.modRing n f).elog = s.elog := rfl
@[simp] theorem State.modRing_elogNext (s : State) (n : Nat) (f : Ring → Ring) : (s.modRing n f).elogNext = s.elogNext := rfl
@[simp] theorem State.modRing_counters (s : State) (n : Nat) (f : Ring → Ring) : (s.modRing n f).counters = s.counters := rfl
@[simp] theorem State.modRing_sample (s : State) (n : Nat) (f : Ring → Ring) : (s.modRing n f).sample = s.sample := rfl
@[simp] theorem State.modRing_sampleAt (s : State) (n : Nat) (f : Ring → Ring) : (s.modRing n f).sampleAt = s.sampleAt := rfl

/-! ### modItem -/

@[simp] theorem State.modItem_pending (s : State) (st j : Nat) (f : Item → Item) : (s.modItem st j f).pending = s.pending := rfl
@[simp] theorem State.modItem_out (s : State) (st j : Nat) (f : Item → Item) : (s.modItem st j f).out = s.out := rfl
@[simp] theorem State.modItem_free (s : State) (st j : Nat) (f : Item → Item) : (s.modItem st j f).free = s.free := rfl
@[simp] theorem State.modItem_ident (s : State) (st j : Nat) (f : Item → Item) : (s.modItem st j f).ident = s.ident := rfl
@[simp] theorem State.modItem_su (s : State) (st j : Nat) (f : Item → Item) : (s.modItem st j f).su = s.su := rfl
@[simp] theorem State.modItem_ports (s : State) (st j : Nat) (f : Item → Item) : (s.modItem st j f).ports = s.ports := rfl
@[simp] theorem State.modItem_pollPeriod (s : State) (st j : Nat) (f : Item → Item) : (s.modItem st j f).pollPeriod = s.pollPeriod := rfl
@[simp] theorem State.modItem_armAfter (s : State) (st j : Nat) (f : Item → Item) : (s.modItem st j f).armAfter = s.armAfter := rfl
@[simp] theorem State.modItem_groups (s : State) (st j : Nat) (f : Item → Item) : (s.modItem st j f).groups = s.groups := rfl
@[simp] theorem State.modItem_chans (s : State) (st j : Nat) (f : Item → Item) : (s.modItem st j f).chans = s.chans := rfl
@[simp] theorem State.modItem_closedChans (s : State) (st j : Nat) (f : Item → Item) : (s.modItem st j f).closedChans = s.closedChans := rfl
@[simp] theorem State.modItem_rings (s : State) (st j : Nat) (f : Item → Item) : (s.modItem st j f).rings = s.rings := rfl
@[simp] theorem State.modItem_poolWait (s : State) (st j : Nat) (f : Item → Item) : (s.modItem st j f).poolWait = s.poolWait := rfl
@[simp] theorem State.modItem_windows (s : State) (st j : Nat) (f : Item → Item) : (s.modItem st j f).windows = s.windows := rfl
@[simp] theorem State.modItem_acceptHeld (s : State) (st j : Nat) (f : Item → Item) : (s.modItem st j f).acceptHeld = s.acceptHeld := rfl
@[simp] theorem State.modItem_rotation (s : State) (st j : Nat) (f : Item → Item) : (s.modItem st j f).rotation = s.rotation := rfl
@[simp] theorem State.modItem_owed (s : State) (st j : Nat) (f : Item → Item) : (s.modItem st j f).owed = s.owed := rfl
@[simp] theorem State.modItem_time (s : State) (st j : Nat) (f : Item → Item) : (s.modItem st j f).time = s.time := rfl
@[simp] theorem State.modItem_bizDate (s : State) (st j : Nat) (f : Item → Item) : (s.modItem st j f).bizDate = s.bizDate := rfl
@[simp] theorem State.modItem_cal (s : State) (st j : Nat) (f : Item → Item) : (s.modItem st j f).cal = s.cal := rfl
@[simp] theorem State.modItem_feats (s : State) (st j : Nat) (f : Item → Item) : (s.modItem st j f).feats = s.feats := rfl
@[simp] theorem State.modItem_dialogues (s : State) (st j : Nat) (f : Item → Item) : (s.modItem st j f).dialogues = s.dialogues := rfl
@[simp] theorem State.modItem_remnants (s : State) (st j : Nat) (f : Item → Item) : (s.modItem st j f).remnants = s.remnants := rfl
@[simp] theorem State.modItem_incarn (s : State) (st j : Nat) (f : Item → Item) : (s.modItem st j f).incarn = s.incarn := rfl
@[simp] theorem State.modItem_openWait (s : State) (st j : Nat) (f : Item → Item) : (s.modItem st j f).openWait = s.openWait := rfl
@[simp] theorem State.modItem_progs (s : State) (st j : Nat) (f : Item → Item) : (s.modItem st j f).progs = s.progs := rfl
@[simp] theorem State.modItem_area0 (s : State) (st j : Nat) (f : Item → Item) : (s.modItem st j f).area0 = s.area0 := rfl
@[simp] theorem State.modItem_area1 (s : State) (st j : Nat) (f : Item → Item) : (s.modItem st j f).area1 = s.area1 := rfl
@[simp] theorem State.modItem_ownInForce (s : State) (st j : Nat) (f : Item → Item) : (s.modItem st j f).ownInForce = s.ownInForce := rfl
@[simp] theorem State.modItem_area1Used (s : State) (st j : Nat) (f : Item → Item) : (s.modItem st j f).area1Used = s.area1Used := rfl
@[simp] theorem State.modItem_link (s : State) (st j : Nat) (f : Item → Item) : (s.modItem st j f).link = s.link := rfl
@[simp] theorem State.modItem_vault (s : State) (st j : Nat) (f : Item → Item) : (s.modItem st j f).vault = s.vault := rfl
@[simp] theorem State.modItem_benches (s : State) (st j : Nat) (f : Item → Item) : (s.modItem st j f).benches = s.benches := rfl
@[simp] theorem State.modItem_cores (s : State) (st j : Nat) (f : Item → Item) : (s.modItem st j f).cores = s.cores := rfl
@[simp] theorem State.modItem_ucode (s : State) (st j : Nat) (f : Item → Item) : (s.modItem st j f).ucode = s.ucode := rfl
@[simp] theorem State.modItem_mem (s : State) (st j : Nat) (f : Item → Item) : (s.modItem st j f).mem = s.mem := rfl
@[simp] theorem State.modItem_keys (s : State) (st j : Nat) (f : Item → Item) : (s.modItem st j f).keys = s.keys := rfl
@[simp] theorem State.modItem_poisoned (s : State) (st j : Nat) (f : Item → Item) : (s.modItem st j f).poisoned = s.poisoned := rfl
@[simp] theorem State.modItem_gddr (s : State) (st j : Nat) (f : Item → Item) : (s.modItem st j f).gddr = s.gddr := rfl
@[simp] theorem State.modItem_mramFailed (s : State) (st j : Nat) (f : Item → Item) : (s.modItem st j f).mramFailed = s.mramFailed := rfl
@[simp] theorem State.modItem_bg (s : State) (st j : Nat) (f : Item → Item) : (s.modItem st j f).bg = s.bg := rfl
@[simp] theorem State.modItem_bgDue (s : State) (st j : Nat) (f : Item → Item) : (s.modItem st j f).bgDue = s.bgDue := rfl
@[simp] theorem State.modItem_bgLast (s : State) (st j : Nat) (f : Item → Item) : (s.modItem st j f).bgLast = s.bgLast := rfl
@[simp] theorem State.modItem_power (s : State) (st j : Nat) (f : Item → Item) : (s.modItem st j f).power = s.power := rfl
@[simp] theorem State.modItem_therm (s : State) (st j : Nat) (f : Item → Item) : (s.modItem st j f).therm = s.therm := rfl
@[simp] theorem State.modItem_alert (s : State) (st j : Nat) (f : Item → Item) : (s.modItem st j f).alert = s.alert := rfl
@[simp] theorem State.modItem_mgmtSeq (s : State) (st j : Nat) (f : Item → Item) : (s.modItem st j f).mgmtSeq = s.mgmtSeq := rfl
@[simp] theorem State.modItem_elog (s : State) (st j : Nat) (f : Item → Item) : (s.modItem st j f).elog = s.elog := rfl
@[simp] theorem State.modItem_elogNext (s : State) (st j : Nat) (f : Item → Item) : (s.modItem st j f).elogNext = s.elogNext := rfl
@[simp] theorem State.modItem_counters (s : State) (st j : Nat) (f : Item → Item) : (s.modItem st j f).counters = s.counters := rfl
@[simp] theorem State.modItem_sample (s : State) (st j : Nat) (f : Item → Item) : (s.modItem st j f).sample = s.sample := rfl
@[simp] theorem State.modItem_sampleAt (s : State) (st j : Nat) (f : Item → Item) : (s.modItem st j f).sampleAt = s.sampleAt := rfl

/-! ### setFrame -/

@[simp] theorem State.setFrame_pending (s : State) (n : Nat) (w : FrameWord) : (s.setFrame n w).pending = s.pending := rfl
@[simp] theorem State.setFrame_out (s : State) (n : Nat) (w : FrameWord) : (s.setFrame n w).out = s.out := rfl
@[simp] theorem State.setFrame_free (s : State) (n : Nat) (w : FrameWord) : (s.setFrame n w).free = s.free := rfl
@[simp] theorem State.setFrame_ident (s : State) (n : Nat) (w : FrameWord) : (s.setFrame n w).ident = s.ident := rfl
@[simp] theorem State.setFrame_su (s : State) (n : Nat) (w : FrameWord) : (s.setFrame n w).su = s.su := rfl
@[simp] theorem State.setFrame_ports (s : State) (n : Nat) (w : FrameWord) : (s.setFrame n w).ports = s.ports := rfl
@[simp] theorem State.setFrame_pollPeriod (s : State) (n : Nat) (w : FrameWord) : (s.setFrame n w).pollPeriod = s.pollPeriod := rfl
@[simp] theorem State.setFrame_armAfter (s : State) (n : Nat) (w : FrameWord) : (s.setFrame n w).armAfter = s.armAfter := rfl
@[simp] theorem State.setFrame_groups (s : State) (n : Nat) (w : FrameWord) : (s.setFrame n w).groups = s.groups := rfl
@[simp] theorem State.setFrame_chans (s : State) (n : Nat) (w : FrameWord) : (s.setFrame n w).chans = s.chans := rfl
@[simp] theorem State.setFrame_closedChans (s : State) (n : Nat) (w : FrameWord) : (s.setFrame n w).closedChans = s.closedChans := rfl
@[simp] theorem State.setFrame_rings (s : State) (n : Nat) (w : FrameWord) : (s.setFrame n w).rings = s.rings := rfl
@[simp] theorem State.setFrame_poolWait (s : State) (n : Nat) (w : FrameWord) : (s.setFrame n w).poolWait = s.poolWait := rfl
@[simp] theorem State.setFrame_windows (s : State) (n : Nat) (w : FrameWord) : (s.setFrame n w).windows = s.windows := rfl
@[simp] theorem State.setFrame_acceptHeld (s : State) (n : Nat) (w : FrameWord) : (s.setFrame n w).acceptHeld = s.acceptHeld := rfl
@[simp] theorem State.setFrame_rotation (s : State) (n : Nat) (w : FrameWord) : (s.setFrame n w).rotation = s.rotation := rfl
@[simp] theorem State.setFrame_owed (s : State) (n : Nat) (w : FrameWord) : (s.setFrame n w).owed = s.owed := rfl
@[simp] theorem State.setFrame_time (s : State) (n : Nat) (w : FrameWord) : (s.setFrame n w).time = s.time := rfl
@[simp] theorem State.setFrame_bizDate (s : State) (n : Nat) (w : FrameWord) : (s.setFrame n w).bizDate = s.bizDate := rfl
@[simp] theorem State.setFrame_cal (s : State) (n : Nat) (w : FrameWord) : (s.setFrame n w).cal = s.cal := rfl
@[simp] theorem State.setFrame_feats (s : State) (n : Nat) (w : FrameWord) : (s.setFrame n w).feats = s.feats := rfl
@[simp] theorem State.setFrame_items (s : State) (n : Nat) (w : FrameWord) : (s.setFrame n w).items = s.items := rfl
@[simp] theorem State.setFrame_dialogues (s : State) (n : Nat) (w : FrameWord) : (s.setFrame n w).dialogues = s.dialogues := rfl
@[simp] theorem State.setFrame_remnants (s : State) (n : Nat) (w : FrameWord) : (s.setFrame n w).remnants = s.remnants := rfl
@[simp] theorem State.setFrame_incarn (s : State) (n : Nat) (w : FrameWord) : (s.setFrame n w).incarn = s.incarn := rfl
@[simp] theorem State.setFrame_openWait (s : State) (n : Nat) (w : FrameWord) : (s.setFrame n w).openWait = s.openWait := rfl
@[simp] theorem State.setFrame_progs (s : State) (n : Nat) (w : FrameWord) : (s.setFrame n w).progs = s.progs := rfl
@[simp] theorem State.setFrame_area0 (s : State) (n : Nat) (w : FrameWord) : (s.setFrame n w).area0 = s.area0 := rfl
@[simp] theorem State.setFrame_area1 (s : State) (n : Nat) (w : FrameWord) : (s.setFrame n w).area1 = s.area1 := rfl
@[simp] theorem State.setFrame_ownInForce (s : State) (n : Nat) (w : FrameWord) : (s.setFrame n w).ownInForce = s.ownInForce := rfl
@[simp] theorem State.setFrame_area1Used (s : State) (n : Nat) (w : FrameWord) : (s.setFrame n w).area1Used = s.area1Used := rfl
@[simp] theorem State.setFrame_link (s : State) (n : Nat) (w : FrameWord) : (s.setFrame n w).link = s.link := rfl
@[simp] theorem State.setFrame_vault (s : State) (n : Nat) (w : FrameWord) : (s.setFrame n w).vault = s.vault := rfl
@[simp] theorem State.setFrame_benches (s : State) (n : Nat) (w : FrameWord) : (s.setFrame n w).benches = s.benches := rfl
@[simp] theorem State.setFrame_cores (s : State) (n : Nat) (w : FrameWord) : (s.setFrame n w).cores = s.cores := rfl
@[simp] theorem State.setFrame_ucode (s : State) (n : Nat) (w : FrameWord) : (s.setFrame n w).ucode = s.ucode := rfl
@[simp] theorem State.setFrame_mem (s : State) (n : Nat) (w : FrameWord) : (s.setFrame n w).mem = s.mem := rfl
@[simp] theorem State.setFrame_poisoned (s : State) (n : Nat) (w : FrameWord) : (s.setFrame n w).poisoned = s.poisoned := rfl
@[simp] theorem State.setFrame_gddr (s : State) (n : Nat) (w : FrameWord) : (s.setFrame n w).gddr = s.gddr := rfl
@[simp] theorem State.setFrame_mramFailed (s : State) (n : Nat) (w : FrameWord) : (s.setFrame n w).mramFailed = s.mramFailed := rfl
@[simp] theorem State.setFrame_bg (s : State) (n : Nat) (w : FrameWord) : (s.setFrame n w).bg = s.bg := rfl
@[simp] theorem State.setFrame_bgDue (s : State) (n : Nat) (w : FrameWord) : (s.setFrame n w).bgDue = s.bgDue := rfl
@[simp] theorem State.setFrame_bgLast (s : State) (n : Nat) (w : FrameWord) : (s.setFrame n w).bgLast = s.bgLast := rfl
@[simp] theorem State.setFrame_power (s : State) (n : Nat) (w : FrameWord) : (s.setFrame n w).power = s.power := rfl
@[simp] theorem State.setFrame_therm (s : State) (n : Nat) (w : FrameWord) : (s.setFrame n w).therm = s.therm := rfl
@[simp] theorem State.setFrame_alert (s : State) (n : Nat) (w : FrameWord) : (s.setFrame n w).alert = s.alert := rfl
@[simp] theorem State.setFrame_mgmtSeq (s : State) (n : Nat) (w : FrameWord) : (s.setFrame n w).mgmtSeq = s.mgmtSeq := rfl
@[simp] theorem State.setFrame_elog (s : State) (n : Nat) (w : FrameWord) : (s.setFrame n w).elog = s.elog := rfl
@[simp] theorem State.setFrame_elogNext (s : State) (n : Nat) (w : FrameWord) : (s.setFrame n w).elogNext = s.elogNext := rfl
@[simp] theorem State.setFrame_counters (s : State) (n : Nat) (w : FrameWord) : (s.setFrame n w).counters = s.counters := rfl
@[simp] theorem State.setFrame_sample (s : State) (n : Nat) (w : FrameWord) : (s.setFrame n w).sample = s.sample := rfl
@[simp] theorem State.setFrame_sampleAt (s : State) (n : Nat) (w : FrameWord) : (s.setFrame n w).sampleAt = s.sampleAt := rfl

/-! ### modGddr -/

@[simp] theorem State.modGddr_pending (s : State) (n : Nat) (f : Gddr → Gddr) : (s.modGddr n f).pending = s.pending := rfl
@[simp] theorem State.modGddr_out (s : State) (n : Nat) (f : Gddr → Gddr) : (s.modGddr n f).out = s.out := rfl
@[simp] theorem State.modGddr_free (s : State) (n : Nat) (f : Gddr → Gddr) : (s.modGddr n f).free = s.free := rfl
@[simp] theorem State.modGddr_ident (s : State) (n : Nat) (f : Gddr → Gddr) : (s.modGddr n f).ident = s.ident := rfl
@[simp] theorem State.modGddr_su (s : State) (n : Nat) (f : Gddr → Gddr) : (s.modGddr n f).su = s.su := rfl
@[simp] theorem State.modGddr_ports (s : State) (n : Nat) (f : Gddr → Gddr) : (s.modGddr n f).ports = s.ports := rfl
@[simp] theorem State.modGddr_pollPeriod (s : State) (n : Nat) (f : Gddr → Gddr) : (s.modGddr n f).pollPeriod = s.pollPeriod := rfl
@[simp] theorem State.modGddr_armAfter (s : State) (n : Nat) (f : Gddr → Gddr) : (s.modGddr n f).armAfter = s.armAfter := rfl
@[simp] theorem State.modGddr_groups (s : State) (n : Nat) (f : Gddr → Gddr) : (s.modGddr n f).groups = s.groups := rfl
@[simp] theorem State.modGddr_chans (s : State) (n : Nat) (f : Gddr → Gddr) : (s.modGddr n f).chans = s.chans := rfl
@[simp] theorem State.modGddr_closedChans (s : State) (n : Nat) (f : Gddr → Gddr) : (s.modGddr n f).closedChans = s.closedChans := rfl
@[simp] theorem State.modGddr_rings (s : State) (n : Nat) (f : Gddr → Gddr) : (s.modGddr n f).rings = s.rings := rfl
@[simp] theorem State.modGddr_poolWait (s : State) (n : Nat) (f : Gddr → Gddr) : (s.modGddr n f).poolWait = s.poolWait := rfl
@[simp] theorem State.modGddr_windows (s : State) (n : Nat) (f : Gddr → Gddr) : (s.modGddr n f).windows = s.windows := rfl
@[simp] theorem State.modGddr_acceptHeld (s : State) (n : Nat) (f : Gddr → Gddr) : (s.modGddr n f).acceptHeld = s.acceptHeld := rfl
@[simp] theorem State.modGddr_rotation (s : State) (n : Nat) (f : Gddr → Gddr) : (s.modGddr n f).rotation = s.rotation := rfl
@[simp] theorem State.modGddr_owed (s : State) (n : Nat) (f : Gddr → Gddr) : (s.modGddr n f).owed = s.owed := rfl
@[simp] theorem State.modGddr_time (s : State) (n : Nat) (f : Gddr → Gddr) : (s.modGddr n f).time = s.time := rfl
@[simp] theorem State.modGddr_bizDate (s : State) (n : Nat) (f : Gddr → Gddr) : (s.modGddr n f).bizDate = s.bizDate := rfl
@[simp] theorem State.modGddr_cal (s : State) (n : Nat) (f : Gddr → Gddr) : (s.modGddr n f).cal = s.cal := rfl
@[simp] theorem State.modGddr_feats (s : State) (n : Nat) (f : Gddr → Gddr) : (s.modGddr n f).feats = s.feats := rfl
@[simp] theorem State.modGddr_items (s : State) (n : Nat) (f : Gddr → Gddr) : (s.modGddr n f).items = s.items := rfl
@[simp] theorem State.modGddr_dialogues (s : State) (n : Nat) (f : Gddr → Gddr) : (s.modGddr n f).dialogues = s.dialogues := rfl
@[simp] theorem State.modGddr_remnants (s : State) (n : Nat) (f : Gddr → Gddr) : (s.modGddr n f).remnants = s.remnants := rfl
@[simp] theorem State.modGddr_incarn (s : State) (n : Nat) (f : Gddr → Gddr) : (s.modGddr n f).incarn = s.incarn := rfl
@[simp] theorem State.modGddr_openWait (s : State) (n : Nat) (f : Gddr → Gddr) : (s.modGddr n f).openWait = s.openWait := rfl
@[simp] theorem State.modGddr_progs (s : State) (n : Nat) (f : Gddr → Gddr) : (s.modGddr n f).progs = s.progs := rfl
@[simp] theorem State.modGddr_area0 (s : State) (n : Nat) (f : Gddr → Gddr) : (s.modGddr n f).area0 = s.area0 := rfl
@[simp] theorem State.modGddr_area1 (s : State) (n : Nat) (f : Gddr → Gddr) : (s.modGddr n f).area1 = s.area1 := rfl
@[simp] theorem State.modGddr_ownInForce (s : State) (n : Nat) (f : Gddr → Gddr) : (s.modGddr n f).ownInForce = s.ownInForce := rfl
@[simp] theorem State.modGddr_area1Used (s : State) (n : Nat) (f : Gddr → Gddr) : (s.modGddr n f).area1Used = s.area1Used := rfl
@[simp] theorem State.modGddr_link (s : State) (n : Nat) (f : Gddr → Gddr) : (s.modGddr n f).link = s.link := rfl
@[simp] theorem State.modGddr_vault (s : State) (n : Nat) (f : Gddr → Gddr) : (s.modGddr n f).vault = s.vault := rfl
@[simp] theorem State.modGddr_benches (s : State) (n : Nat) (f : Gddr → Gddr) : (s.modGddr n f).benches = s.benches := rfl
@[simp] theorem State.modGddr_cores (s : State) (n : Nat) (f : Gddr → Gddr) : (s.modGddr n f).cores = s.cores := rfl
@[simp] theorem State.modGddr_ucode (s : State) (n : Nat) (f : Gddr → Gddr) : (s.modGddr n f).ucode = s.ucode := rfl
@[simp] theorem State.modGddr_mem (s : State) (n : Nat) (f : Gddr → Gddr) : (s.modGddr n f).mem = s.mem := rfl
@[simp] theorem State.modGddr_keys (s : State) (n : Nat) (f : Gddr → Gddr) : (s.modGddr n f).keys = s.keys := rfl
@[simp] theorem State.modGddr_poisoned (s : State) (n : Nat) (f : Gddr → Gddr) : (s.modGddr n f).poisoned = s.poisoned := rfl
@[simp] theorem State.modGddr_mramFailed (s : State) (n : Nat) (f : Gddr → Gddr) : (s.modGddr n f).mramFailed = s.mramFailed := rfl
@[simp] theorem State.modGddr_bg (s : State) (n : Nat) (f : Gddr → Gddr) : (s.modGddr n f).bg = s.bg := rfl
@[simp] theorem State.modGddr_bgDue (s : State) (n : Nat) (f : Gddr → Gddr) : (s.modGddr n f).bgDue = s.bgDue := rfl
@[simp] theorem State.modGddr_bgLast (s : State) (n : Nat) (f : Gddr → Gddr) : (s.modGddr n f).bgLast = s.bgLast := rfl
@[simp] theorem State.modGddr_power (s : State) (n : Nat) (f : Gddr → Gddr) : (s.modGddr n f).power = s.power := rfl
@[simp] theorem State.modGddr_therm (s : State) (n : Nat) (f : Gddr → Gddr) : (s.modGddr n f).therm = s.therm := rfl
@[simp] theorem State.modGddr_alert (s : State) (n : Nat) (f : Gddr → Gddr) : (s.modGddr n f).alert = s.alert := rfl
@[simp] theorem State.modGddr_mgmtSeq (s : State) (n : Nat) (f : Gddr → Gddr) : (s.modGddr n f).mgmtSeq = s.mgmtSeq := rfl
@[simp] theorem State.modGddr_elog (s : State) (n : Nat) (f : Gddr → Gddr) : (s.modGddr n f).elog = s.elog := rfl
@[simp] theorem State.modGddr_elogNext (s : State) (n : Nat) (f : Gddr → Gddr) : (s.modGddr n f).elogNext = s.elogNext := rfl
@[simp] theorem State.modGddr_counters (s : State) (n : Nat) (f : Gddr → Gddr) : (s.modGddr n f).counters = s.counters := rfl
@[simp] theorem State.modGddr_sample (s : State) (n : Nat) (f : Gddr → Gddr) : (s.modGddr n f).sample = s.sample := rfl
@[simp] theorem State.modGddr_sampleAt (s : State) (n : Nat) (f : Gddr → Gddr) : (s.modGddr n f).sampleAt = s.sampleAt := rfl

/-! ### setVslot -/

@[simp] theorem State.setVslot_pending (s : State) (n : Nat) (v : VSlot) : (s.setVslot n v).pending = s.pending := rfl
@[simp] theorem State.setVslot_out (s : State) (n : Nat) (v : VSlot) : (s.setVslot n v).out = s.out := rfl
@[simp] theorem State.setVslot_free (s : State) (n : Nat) (v : VSlot) : (s.setVslot n v).free = s.free := rfl
@[simp] theorem State.setVslot_ident (s : State) (n : Nat) (v : VSlot) : (s.setVslot n v).ident = s.ident := rfl
@[simp] theorem State.setVslot_su (s : State) (n : Nat) (v : VSlot) : (s.setVslot n v).su = s.su := rfl
@[simp] theorem State.setVslot_ports (s : State) (n : Nat) (v : VSlot) : (s.setVslot n v).ports = s.ports := rfl
@[simp] theorem State.setVslot_pollPeriod (s : State) (n : Nat) (v : VSlot) : (s.setVslot n v).pollPeriod = s.pollPeriod := rfl
@[simp] theorem State.setVslot_armAfter (s : State) (n : Nat) (v : VSlot) : (s.setVslot n v).armAfter = s.armAfter := rfl
@[simp] theorem State.setVslot_groups (s : State) (n : Nat) (v : VSlot) : (s.setVslot n v).groups = s.groups := rfl
@[simp] theorem State.setVslot_chans (s : State) (n : Nat) (v : VSlot) : (s.setVslot n v).chans = s.chans := rfl
@[simp] theorem State.setVslot_closedChans (s : State) (n : Nat) (v : VSlot) : (s.setVslot n v).closedChans = s.closedChans := rfl
@[simp] theorem State.setVslot_rings (s : State) (n : Nat) (v : VSlot) : (s.setVslot n v).rings = s.rings := rfl
@[simp] theorem State.setVslot_poolWait (s : State) (n : Nat) (v : VSlot) : (s.setVslot n v).poolWait = s.poolWait := rfl
@[simp] theorem State.setVslot_windows (s : State) (n : Nat) (v : VSlot) : (s.setVslot n v).windows = s.windows := rfl
@[simp] theorem State.setVslot_acceptHeld (s : State) (n : Nat) (v : VSlot) : (s.setVslot n v).acceptHeld = s.acceptHeld := rfl
@[simp] theorem State.setVslot_rotation (s : State) (n : Nat) (v : VSlot) : (s.setVslot n v).rotation = s.rotation := rfl
@[simp] theorem State.setVslot_owed (s : State) (n : Nat) (v : VSlot) : (s.setVslot n v).owed = s.owed := rfl
@[simp] theorem State.setVslot_time (s : State) (n : Nat) (v : VSlot) : (s.setVslot n v).time = s.time := rfl
@[simp] theorem State.setVslot_bizDate (s : State) (n : Nat) (v : VSlot) : (s.setVslot n v).bizDate = s.bizDate := rfl
@[simp] theorem State.setVslot_cal (s : State) (n : Nat) (v : VSlot) : (s.setVslot n v).cal = s.cal := rfl
@[simp] theorem State.setVslot_feats (s : State) (n : Nat) (v : VSlot) : (s.setVslot n v).feats = s.feats := rfl
@[simp] theorem State.setVslot_items (s : State) (n : Nat) (v : VSlot) : (s.setVslot n v).items = s.items := rfl
@[simp] theorem State.setVslot_dialogues (s : State) (n : Nat) (v : VSlot) : (s.setVslot n v).dialogues = s.dialogues := rfl
@[simp] theorem State.setVslot_remnants (s : State) (n : Nat) (v : VSlot) : (s.setVslot n v).remnants = s.remnants := rfl
@[simp] theorem State.setVslot_incarn (s : State) (n : Nat) (v : VSlot) : (s.setVslot n v).incarn = s.incarn := rfl
@[simp] theorem State.setVslot_openWait (s : State) (n : Nat) (v : VSlot) : (s.setVslot n v).openWait = s.openWait := rfl
@[simp] theorem State.setVslot_progs (s : State) (n : Nat) (v : VSlot) : (s.setVslot n v).progs = s.progs := rfl
@[simp] theorem State.setVslot_area0 (s : State) (n : Nat) (v : VSlot) : (s.setVslot n v).area0 = s.area0 := rfl
@[simp] theorem State.setVslot_area1 (s : State) (n : Nat) (v : VSlot) : (s.setVslot n v).area1 = s.area1 := rfl
@[simp] theorem State.setVslot_ownInForce (s : State) (n : Nat) (v : VSlot) : (s.setVslot n v).ownInForce = s.ownInForce := rfl
@[simp] theorem State.setVslot_area1Used (s : State) (n : Nat) (v : VSlot) : (s.setVslot n v).area1Used = s.area1Used := rfl
@[simp] theorem State.setVslot_link (s : State) (n : Nat) (v : VSlot) : (s.setVslot n v).link = s.link := rfl
@[simp] theorem State.setVslot_benches (s : State) (n : Nat) (v : VSlot) : (s.setVslot n v).benches = s.benches := rfl
@[simp] theorem State.setVslot_cores (s : State) (n : Nat) (v : VSlot) : (s.setVslot n v).cores = s.cores := rfl
@[simp] theorem State.setVslot_ucode (s : State) (n : Nat) (v : VSlot) : (s.setVslot n v).ucode = s.ucode := rfl
@[simp] theorem State.setVslot_mem (s : State) (n : Nat) (v : VSlot) : (s.setVslot n v).mem = s.mem := rfl
@[simp] theorem State.setVslot_keys (s : State) (n : Nat) (v : VSlot) : (s.setVslot n v).keys = s.keys := rfl
@[simp] theorem State.setVslot_poisoned (s : State) (n : Nat) (v : VSlot) : (s.setVslot n v).poisoned = s.poisoned := rfl
@[simp] theorem State.setVslot_gddr (s : State) (n : Nat) (v : VSlot) : (s.setVslot n v).gddr = s.gddr := rfl
@[simp] theorem State.setVslot_mramFailed (s : State) (n : Nat) (v : VSlot) : (s.setVslot n v).mramFailed = s.mramFailed := rfl
@[simp] theorem State.setVslot_bg (s : State) (n : Nat) (v : VSlot) : (s.setVslot n v).bg = s.bg := rfl
@[simp] theorem State.setVslot_bgDue (s : State) (n : Nat) (v : VSlot) : (s.setVslot n v).bgDue = s.bgDue := rfl
@[simp] theorem State.setVslot_bgLast (s : State) (n : Nat) (v : VSlot) : (s.setVslot n v).bgLast = s.bgLast := rfl
@[simp] theorem State.setVslot_power (s : State) (n : Nat) (v : VSlot) : (s.setVslot n v).power = s.power := rfl
@[simp] theorem State.setVslot_therm (s : State) (n : Nat) (v : VSlot) : (s.setVslot n v).therm = s.therm := rfl
@[simp] theorem State.setVslot_alert (s : State) (n : Nat) (v : VSlot) : (s.setVslot n v).alert = s.alert := rfl
@[simp] theorem State.setVslot_mgmtSeq (s : State) (n : Nat) (v : VSlot) : (s.setVslot n v).mgmtSeq = s.mgmtSeq := rfl
@[simp] theorem State.setVslot_elog (s : State) (n : Nat) (v : VSlot) : (s.setVslot n v).elog = s.elog := rfl
@[simp] theorem State.setVslot_elogNext (s : State) (n : Nat) (v : VSlot) : (s.setVslot n v).elogNext = s.elogNext := rfl
@[simp] theorem State.setVslot_counters (s : State) (n : Nat) (v : VSlot) : (s.setVslot n v).counters = s.counters := rfl
@[simp] theorem State.setVslot_sample (s : State) (n : Nat) (v : VSlot) : (s.setVslot n v).sample = s.sample := rfl
@[simp] theorem State.setVslot_sampleAt (s : State) (n : Nat) (v : VSlot) : (s.setVslot n v).sampleAt = s.sampleAt := rfl

/-! ### emitOut -/

@[simp] theorem State.emitOut_pending (s : State) (o : Out) : (s.emitOut o).pending = s.pending := rfl
@[simp] theorem State.emitOut_free (s : State) (o : Out) : (s.emitOut o).free = s.free := rfl
@[simp] theorem State.emitOut_ident (s : State) (o : Out) : (s.emitOut o).ident = s.ident := rfl
@[simp] theorem State.emitOut_su (s : State) (o : Out) : (s.emitOut o).su = s.su := rfl
@[simp] theorem State.emitOut_ports (s : State) (o : Out) : (s.emitOut o).ports = s.ports := rfl
@[simp] theorem State.emitOut_pollPeriod (s : State) (o : Out) : (s.emitOut o).pollPeriod = s.pollPeriod := rfl
@[simp] theorem State.emitOut_armAfter (s : State) (o : Out) : (s.emitOut o).armAfter = s.armAfter := rfl
@[simp] theorem State.emitOut_groups (s : State) (o : Out) : (s.emitOut o).groups = s.groups := rfl
@[simp] theorem State.emitOut_chans (s : State) (o : Out) : (s.emitOut o).chans = s.chans := rfl
@[simp] theorem State.emitOut_closedChans (s : State) (o : Out) : (s.emitOut o).closedChans = s.closedChans := rfl
@[simp] theorem State.emitOut_rings (s : State) (o : Out) : (s.emitOut o).rings = s.rings := rfl
@[simp] theorem State.emitOut_poolWait (s : State) (o : Out) : (s.emitOut o).poolWait = s.poolWait := rfl
@[simp] theorem State.emitOut_windows (s : State) (o : Out) : (s.emitOut o).windows = s.windows := rfl
@[simp] theorem State.emitOut_acceptHeld (s : State) (o : Out) : (s.emitOut o).acceptHeld = s.acceptHeld := rfl
@[simp] theorem State.emitOut_rotation (s : State) (o : Out) : (s.emitOut o).rotation = s.rotation := rfl
@[simp] theorem State.emitOut_owed (s : State) (o : Out) : (s.emitOut o).owed = s.owed := rfl
@[simp] theorem State.emitOut_time (s : State) (o : Out) : (s.emitOut o).time = s.time := rfl
@[simp] theorem State.emitOut_bizDate (s : State) (o : Out) : (s.emitOut o).bizDate = s.bizDate := rfl
@[simp] theorem State.emitOut_cal (s : State) (o : Out) : (s.emitOut o).cal = s.cal := rfl
@[simp] theorem State.emitOut_feats (s : State) (o : Out) : (s.emitOut o).feats = s.feats := rfl
@[simp] theorem State.emitOut_items (s : State) (o : Out) : (s.emitOut o).items = s.items := rfl
@[simp] theorem State.emitOut_dialogues (s : State) (o : Out) : (s.emitOut o).dialogues = s.dialogues := rfl
@[simp] theorem State.emitOut_remnants (s : State) (o : Out) : (s.emitOut o).remnants = s.remnants := rfl
@[simp] theorem State.emitOut_incarn (s : State) (o : Out) : (s.emitOut o).incarn = s.incarn := rfl
@[simp] theorem State.emitOut_openWait (s : State) (o : Out) : (s.emitOut o).openWait = s.openWait := rfl
@[simp] theorem State.emitOut_progs (s : State) (o : Out) : (s.emitOut o).progs = s.progs := rfl
@[simp] theorem State.emitOut_area0 (s : State) (o : Out) : (s.emitOut o).area0 = s.area0 := rfl
@[simp] theorem State.emitOut_area1 (s : State) (o : Out) : (s.emitOut o).area1 = s.area1 := rfl
@[simp] theorem State.emitOut_ownInForce (s : State) (o : Out) : (s.emitOut o).ownInForce = s.ownInForce := rfl
@[simp] theorem State.emitOut_area1Used (s : State) (o : Out) : (s.emitOut o).area1Used = s.area1Used := rfl
@[simp] theorem State.emitOut_link (s : State) (o : Out) : (s.emitOut o).link = s.link := rfl
@[simp] theorem State.emitOut_vault (s : State) (o : Out) : (s.emitOut o).vault = s.vault := rfl
@[simp] theorem State.emitOut_benches (s : State) (o : Out) : (s.emitOut o).benches = s.benches := rfl
@[simp] theorem State.emitOut_cores (s : State) (o : Out) : (s.emitOut o).cores = s.cores := rfl
@[simp] theorem State.emitOut_ucode (s : State) (o : Out) : (s.emitOut o).ucode = s.ucode := rfl
@[simp] theorem State.emitOut_mem (s : State) (o : Out) : (s.emitOut o).mem = s.mem := rfl
@[simp] theorem State.emitOut_keys (s : State) (o : Out) : (s.emitOut o).keys = s.keys := rfl
@[simp] theorem State.emitOut_poisoned (s : State) (o : Out) : (s.emitOut o).poisoned = s.poisoned := rfl
@[simp] theorem State.emitOut_gddr (s : State) (o : Out) : (s.emitOut o).gddr = s.gddr := rfl
@[simp] theorem State.emitOut_mramFailed (s : State) (o : Out) : (s.emitOut o).mramFailed = s.mramFailed := rfl
@[simp] theorem State.emitOut_bg (s : State) (o : Out) : (s.emitOut o).bg = s.bg := rfl
@[simp] theorem State.emitOut_bgDue (s : State) (o : Out) : (s.emitOut o).bgDue = s.bgDue := rfl
@[simp] theorem State.emitOut_bgLast (s : State) (o : Out) : (s.emitOut o).bgLast = s.bgLast := rfl
@[simp] theorem State.emitOut_power (s : State) (o : Out) : (s.emitOut o).power = s.power := rfl
@[simp] theorem State.emitOut_therm (s : State) (o : Out) : (s.emitOut o).therm = s.therm := rfl
@[simp] theorem State.emitOut_alert (s : State) (o : Out) : (s.emitOut o).alert = s.alert := rfl
@[simp] theorem State.emitOut_mgmtSeq (s : State) (o : Out) : (s.emitOut o).mgmtSeq = s.mgmtSeq := rfl
@[simp] theorem State.emitOut_elog (s : State) (o : Out) : (s.emitOut o).elog = s.elog := rfl
@[simp] theorem State.emitOut_elogNext (s : State) (o : Out) : (s.emitOut o).elogNext = s.elogNext := rfl
@[simp] theorem State.emitOut_counters (s : State) (o : Out) : (s.emitOut o).counters = s.counters := rfl
@[simp] theorem State.emitOut_sample (s : State) (o : Out) : (s.emitOut o).sample = s.sample := rfl
@[simp] theorem State.emitOut_sampleAt (s : State) (o : Out) : (s.emitOut o).sampleAt = s.sampleAt := rfl

/-! ### nextFree -/

@[simp] theorem State.nextFree_pending (s : State) : (s.nextFree).pending = s.pending := rfl
@[simp] theorem State.nextFree_out (s : State) : (s.nextFree).out = s.out := rfl
@[simp] theorem State.nextFree_ident (s : State) : (s.nextFree).ident = s.ident := rfl
@[simp] theorem State.nextFree_su (s : State) : (s.nextFree).su = s.su := rfl
@[simp] theorem State.nextFree_ports (s : State) : (s.nextFree).ports = s.ports := rfl
@[simp] theorem State.nextFree_pollPeriod (s : State) : (s.nextFree).pollPeriod = s.pollPeriod := rfl
@[simp] theorem State.nextFree_armAfter (s : State) : (s.nextFree).armAfter = s.armAfter := rfl
@[simp] theorem State.nextFree_groups (s : State) : (s.nextFree).groups = s.groups := rfl
@[simp] theorem State.nextFree_chans (s : State) : (s.nextFree).chans = s.chans := rfl
@[simp] theorem State.nextFree_closedChans (s : State) : (s.nextFree).closedChans = s.closedChans := rfl
@[simp] theorem State.nextFree_rings (s : State) : (s.nextFree).rings = s.rings := rfl
@[simp] theorem State.nextFree_poolWait (s : State) : (s.nextFree).poolWait = s.poolWait := rfl
@[simp] theorem State.nextFree_windows (s : State) : (s.nextFree).windows = s.windows := rfl
@[simp] theorem State.nextFree_acceptHeld (s : State) : (s.nextFree).acceptHeld = s.acceptHeld := rfl
@[simp] theorem State.nextFree_rotation (s : State) : (s.nextFree).rotation = s.rotation := rfl
@[simp] theorem State.nextFree_owed (s : State) : (s.nextFree).owed = s.owed := rfl
@[simp] theorem State.nextFree_time (s : State) : (s.nextFree).time = s.time := rfl
@[simp] theorem State.nextFree_bizDate (s : State) : (s.nextFree).bizDate = s.bizDate := rfl
@[simp] theorem State.nextFree_cal (s : State) : (s.nextFree).cal = s.cal := rfl
@[simp] theorem State.nextFree_feats (s : State) : (s.nextFree).feats = s.feats := rfl
@[simp] theorem State.nextFree_items (s : State) : (s.nextFree).items = s.items := rfl
@[simp] theorem State.nextFree_dialogues (s : State) : (s.nextFree).dialogues = s.dialogues := rfl
@[simp] theorem State.nextFree_remnants (s : State) : (s.nextFree).remnants = s.remnants := rfl
@[simp] theorem State.nextFree_incarn (s : State) : (s.nextFree).incarn = s.incarn := rfl
@[simp] theorem State.nextFree_openWait (s : State) : (s.nextFree).openWait = s.openWait := rfl
@[simp] theorem State.nextFree_progs (s : State) : (s.nextFree).progs = s.progs := rfl
@[simp] theorem State.nextFree_area0 (s : State) : (s.nextFree).area0 = s.area0 := rfl
@[simp] theorem State.nextFree_area1 (s : State) : (s.nextFree).area1 = s.area1 := rfl
@[simp] theorem State.nextFree_ownInForce (s : State) : (s.nextFree).ownInForce = s.ownInForce := rfl
@[simp] theorem State.nextFree_area1Used (s : State) : (s.nextFree).area1Used = s.area1Used := rfl
@[simp] theorem State.nextFree_link (s : State) : (s.nextFree).link = s.link := rfl
@[simp] theorem State.nextFree_vault (s : State) : (s.nextFree).vault = s.vault := rfl
@[simp] theorem State.nextFree_benches (s : State) : (s.nextFree).benches = s.benches := rfl
@[simp] theorem State.nextFree_cores (s : State) : (s.nextFree).cores = s.cores := rfl
@[simp] theorem State.nextFree_ucode (s : State) : (s.nextFree).ucode = s.ucode := rfl
@[simp] theorem State.nextFree_mem (s : State) : (s.nextFree).mem = s.mem := rfl
@[simp] theorem State.nextFree_keys (s : State) : (s.nextFree).keys = s.keys := rfl
@[simp] theorem State.nextFree_poisoned (s : State) : (s.nextFree).poisoned = s.poisoned := rfl
@[simp] theorem State.nextFree_gddr (s : State) : (s.nextFree).gddr = s.gddr := rfl
@[simp] theorem State.nextFree_mramFailed (s : State) : (s.nextFree).mramFailed = s.mramFailed := rfl
@[simp] theorem State.nextFree_bg (s : State) : (s.nextFree).bg = s.bg := rfl
@[simp] theorem State.nextFree_bgDue (s : State) : (s.nextFree).bgDue = s.bgDue := rfl
@[simp] theorem State.nextFree_bgLast (s : State) : (s.nextFree).bgLast = s.bgLast := rfl
@[simp] theorem State.nextFree_power (s : State) : (s.nextFree).power = s.power := rfl
@[simp] theorem State.nextFree_therm (s : State) : (s.nextFree).therm = s.therm := rfl
@[simp] theorem State.nextFree_alert (s : State) : (s.nextFree).alert = s.alert := rfl
@[simp] theorem State.nextFree_mgmtSeq (s : State) : (s.nextFree).mgmtSeq = s.mgmtSeq := rfl
@[simp] theorem State.nextFree_elog (s : State) : (s.nextFree).elog = s.elog := rfl
@[simp] theorem State.nextFree_elogNext (s : State) : (s.nextFree).elogNext = s.elogNext := rfl
@[simp] theorem State.nextFree_counters (s : State) : (s.nextFree).counters = s.counters := rfl
@[simp] theorem State.nextFree_sample (s : State) : (s.nextFree).sample = s.sample := rfl
@[simp] theorem State.nextFree_sampleAt (s : State) : (s.nextFree).sampleAt = s.sampleAt := rfl

/-! ### skipFree -/

@[simp] theorem State.skipFree_pending (s : State) (n : Nat) : (s.skipFree n).pending = s.pending := rfl
@[simp] theorem State.skipFree_out (s : State) (n : Nat) : (s.skipFree n).out = s.out := rfl
@[simp] theorem State.skipFree_ident (s : State) (n : Nat) : (s.skipFree n).ident = s.ident := rfl
@[simp] theorem State.skipFree_su (s : State) (n : Nat) : (s.skipFree n).su = s.su := rfl
@[simp] theorem State.skipFree_ports (s : State) (n : Nat) : (s.skipFree n).ports = s.ports := rfl
@[simp] theorem State.skipFree_pollPeriod (s : State) (n : Nat) : (s.skipFree n).pollPeriod = s.pollPeriod := rfl
@[simp] theorem State.skipFree_armAfter (s : State) (n : Nat) : (s.skipFree n).armAfter = s.armAfter := rfl
@[simp] theorem State.skipFree_groups (s : State) (n : Nat) : (s.skipFree n).groups = s.groups := rfl
@[simp] theorem State.skipFree_chans (s : State) (n : Nat) : (s.skipFree n).chans = s.chans := rfl
@[simp] theorem State.skipFree_closedChans (s : State) (n : Nat) : (s.skipFree n).closedChans = s.closedChans := rfl
@[simp] theorem State.skipFree_rings (s : State) (n : Nat) : (s.skipFree n).rings = s.rings := rfl
@[simp] theorem State.skipFree_poolWait (s : State) (n : Nat) : (s.skipFree n).poolWait = s.poolWait := rfl
@[simp] theorem State.skipFree_windows (s : State) (n : Nat) : (s.skipFree n).windows = s.windows := rfl
@[simp] theorem State.skipFree_acceptHeld (s : State) (n : Nat) : (s.skipFree n).acceptHeld = s.acceptHeld := rfl
@[simp] theorem State.skipFree_rotation (s : State) (n : Nat) : (s.skipFree n).rotation = s.rotation := rfl
@[simp] theorem State.skipFree_owed (s : State) (n : Nat) : (s.skipFree n).owed = s.owed := rfl
@[simp] theorem State.skipFree_time (s : State) (n : Nat) : (s.skipFree n).time = s.time := rfl
@[simp] theorem State.skipFree_bizDate (s : State) (n : Nat) : (s.skipFree n).bizDate = s.bizDate := rfl
@[simp] theorem State.skipFree_cal (s : State) (n : Nat) : (s.skipFree n).cal = s.cal := rfl
@[simp] theorem State.skipFree_feats (s : State) (n : Nat) : (s.skipFree n).feats = s.feats := rfl
@[simp] theorem State.skipFree_items (s : State) (n : Nat) : (s.skipFree n).items = s.items := rfl
@[simp] theorem State.skipFree_dialogues (s : State) (n : Nat) : (s.skipFree n).dialogues = s.dialogues := rfl
@[simp] theorem State.skipFree_remnants (s : State) (n : Nat) : (s.skipFree n).remnants = s.remnants := rfl
@[simp] theorem State.skipFree_incarn (s : State) (n : Nat) : (s.skipFree n).incarn = s.incarn := rfl
@[simp] theorem State.skipFree_openWait (s : State) (n : Nat) : (s.skipFree n).openWait = s.openWait := rfl
@[simp] theorem State.skipFree_progs (s : State) (n : Nat) : (s.skipFree n).progs = s.progs := rfl
@[simp] theorem State.skipFree_area0 (s : State) (n : Nat) : (s.skipFree n).area0 = s.area0 := rfl
@[simp] theorem State.skipFree_area1 (s : State) (n : Nat) : (s.skipFree n).area1 = s.area1 := rfl
@[simp] theorem State.skipFree_ownInForce (s : State) (n : Nat) : (s.skipFree n).ownInForce = s.ownInForce := rfl
@[simp] theorem State.skipFree_area1Used (s : State) (n : Nat) : (s.skipFree n).area1Used = s.area1Used := rfl
@[simp] theorem State.skipFree_link (s : State) (n : Nat) : (s.skipFree n).link = s.link := rfl
@[simp] theorem State.skipFree_vault (s : State) (n : Nat) : (s.skipFree n).vault = s.vault := rfl
@[simp] theorem State.skipFree_benches (s : State) (n : Nat) : (s.skipFree n).benches = s.benches := rfl
@[simp] theorem State.skipFree_cores (s : State) (n : Nat) : (s.skipFree n).cores = s.cores := rfl
@[simp] theorem State.skipFree_ucode (s : State) (n : Nat) : (s.skipFree n).ucode = s.ucode := rfl
@[simp] theorem State.skipFree_mem (s : State) (n : Nat) : (s.skipFree n).mem = s.mem := rfl
@[simp] theorem State.skipFree_keys (s : State) (n : Nat) : (s.skipFree n).keys = s.keys := rfl
@[simp] theorem State.skipFree_poisoned (s : State) (n : Nat) : (s.skipFree n).poisoned = s.poisoned := rfl
@[simp] theorem State.skipFree_gddr (s : State) (n : Nat) : (s.skipFree n).gddr = s.gddr := rfl
@[simp] theorem State.skipFree_mramFailed (s : State) (n : Nat) : (s.skipFree n).mramFailed = s.mramFailed := rfl
@[simp] theorem State.skipFree_bg (s : State) (n : Nat) : (s.skipFree n).bg = s.bg := rfl
@[simp] theorem State.skipFree_bgDue (s : State) (n : Nat) : (s.skipFree n).bgDue = s.bgDue := rfl
@[simp] theorem State.skipFree_bgLast (s : State) (n : Nat) : (s.skipFree n).bgLast = s.bgLast := rfl
@[simp] theorem State.skipFree_power (s : State) (n : Nat) : (s.skipFree n).power = s.power := rfl
@[simp] theorem State.skipFree_therm (s : State) (n : Nat) : (s.skipFree n).therm = s.therm := rfl
@[simp] theorem State.skipFree_alert (s : State) (n : Nat) : (s.skipFree n).alert = s.alert := rfl
@[simp] theorem State.skipFree_mgmtSeq (s : State) (n : Nat) : (s.skipFree n).mgmtSeq = s.mgmtSeq := rfl
@[simp] theorem State.skipFree_elog (s : State) (n : Nat) : (s.skipFree n).elog = s.elog := rfl
@[simp] theorem State.skipFree_elogNext (s : State) (n : Nat) : (s.skipFree n).elogNext = s.elogNext := rfl
@[simp] theorem State.skipFree_counters (s : State) (n : Nat) : (s.skipFree n).counters = s.counters := rfl
@[simp] theorem State.skipFree_sample (s : State) (n : Nat) : (s.skipFree n).sample = s.sample := rfl
@[simp] theorem State.skipFree_sampleAt (s : State) (n : Nat) : (s.skipFree n).sampleAt = s.sampleAt := rfl

/-! ### advanceTo -/

@[simp] theorem State.advanceTo_pending (s : State) (x : Nat) : (s.advanceTo x).pending = s.pending := by
  rw [State.advanceTo]
@[simp] theorem State.advanceTo_out (s : State) (x : Nat) : (s.advanceTo x).out = s.out := by
  rw [State.advanceTo]
@[simp] theorem State.advanceTo_free (s : State) (x : Nat) : (s.advanceTo x).free = s.free := by
  rw [State.advanceTo]
@[simp] theorem State.advanceTo_ident (s : State) (x : Nat) : (s.advanceTo x).ident = s.ident := by
  rw [State.advanceTo]
@[simp] theorem State.advanceTo_su (s : State) (x : Nat) : (s.advanceTo x).su = s.su := by
  rw [State.advanceTo]
@[simp] theorem State.advanceTo_ports (s : State) (x : Nat) : (s.advanceTo x).ports = s.ports := by
  rw [State.advanceTo]
@[simp] theorem State.advanceTo_pollPeriod (s : State) (x : Nat) : (s.advanceTo x).pollPeriod = s.pollPeriod := by
  rw [State.advanceTo]
@[simp] theorem State.advanceTo_armAfter (s : State) (x : Nat) : (s.advanceTo x).armAfter = s.armAfter := by
  rw [State.advanceTo]
@[simp] theorem State.advanceTo_groups (s : State) (x : Nat) : (s.advanceTo x).groups = s.groups := by
  rw [State.advanceTo]
@[simp] theorem State.advanceTo_chans (s : State) (x : Nat) : (s.advanceTo x).chans = s.chans := by
  rw [State.advanceTo]
@[simp] theorem State.advanceTo_closedChans (s : State) (x : Nat) : (s.advanceTo x).closedChans = s.closedChans := by
  rw [State.advanceTo]
@[simp] theorem State.advanceTo_rings (s : State) (x : Nat) : (s.advanceTo x).rings = s.rings := by
  rw [State.advanceTo]
@[simp] theorem State.advanceTo_poolWait (s : State) (x : Nat) : (s.advanceTo x).poolWait = s.poolWait := by
  rw [State.advanceTo]
@[simp] theorem State.advanceTo_windows (s : State) (x : Nat) : (s.advanceTo x).windows = s.windows := by
  rw [State.advanceTo]
@[simp] theorem State.advanceTo_acceptHeld (s : State) (x : Nat) : (s.advanceTo x).acceptHeld = s.acceptHeld := by
  rw [State.advanceTo]
@[simp] theorem State.advanceTo_rotation (s : State) (x : Nat) : (s.advanceTo x).rotation = s.rotation := by
  rw [State.advanceTo]
@[simp] theorem State.advanceTo_owed (s : State) (x : Nat) : (s.advanceTo x).owed = s.owed := by
  rw [State.advanceTo]
@[simp] theorem State.advanceTo_bizDate (s : State) (x : Nat) : (s.advanceTo x).bizDate = s.bizDate := by
  rw [State.advanceTo]
@[simp] theorem State.advanceTo_cal (s : State) (x : Nat) : (s.advanceTo x).cal = s.cal := by
  rw [State.advanceTo]
@[simp] theorem State.advanceTo_feats (s : State) (x : Nat) : (s.advanceTo x).feats = s.feats := by
  rw [State.advanceTo]
@[simp] theorem State.advanceTo_items (s : State) (x : Nat) : (s.advanceTo x).items = s.items := by
  rw [State.advanceTo]
@[simp] theorem State.advanceTo_dialogues (s : State) (x : Nat) : (s.advanceTo x).dialogues = s.dialogues := by
  rw [State.advanceTo]
@[simp] theorem State.advanceTo_remnants (s : State) (x : Nat) : (s.advanceTo x).remnants = s.remnants := by
  rw [State.advanceTo]
@[simp] theorem State.advanceTo_incarn (s : State) (x : Nat) : (s.advanceTo x).incarn = s.incarn := by
  rw [State.advanceTo]
@[simp] theorem State.advanceTo_openWait (s : State) (x : Nat) : (s.advanceTo x).openWait = s.openWait := by
  rw [State.advanceTo]
@[simp] theorem State.advanceTo_progs (s : State) (x : Nat) : (s.advanceTo x).progs = s.progs := by
  rw [State.advanceTo]
@[simp] theorem State.advanceTo_area0 (s : State) (x : Nat) : (s.advanceTo x).area0 = s.area0 := by
  rw [State.advanceTo]
@[simp] theorem State.advanceTo_area1 (s : State) (x : Nat) : (s.advanceTo x).area1 = s.area1 := by
  rw [State.advanceTo]
@[simp] theorem State.advanceTo_ownInForce (s : State) (x : Nat) : (s.advanceTo x).ownInForce = s.ownInForce := by
  rw [State.advanceTo]
@[simp] theorem State.advanceTo_area1Used (s : State) (x : Nat) : (s.advanceTo x).area1Used = s.area1Used := by
  rw [State.advanceTo]
@[simp] theorem State.advanceTo_link (s : State) (x : Nat) : (s.advanceTo x).link = s.link := by
  rw [State.advanceTo]
@[simp] theorem State.advanceTo_vault (s : State) (x : Nat) : (s.advanceTo x).vault = s.vault := by
  rw [State.advanceTo]
@[simp] theorem State.advanceTo_benches (s : State) (x : Nat) : (s.advanceTo x).benches = s.benches := by
  rw [State.advanceTo]
@[simp] theorem State.advanceTo_cores (s : State) (x : Nat) : (s.advanceTo x).cores = s.cores := by
  rw [State.advanceTo]
@[simp] theorem State.advanceTo_ucode (s : State) (x : Nat) : (s.advanceTo x).ucode = s.ucode := by
  rw [State.advanceTo]
@[simp] theorem State.advanceTo_mem (s : State) (x : Nat) : (s.advanceTo x).mem = s.mem := by
  rw [State.advanceTo]
@[simp] theorem State.advanceTo_keys (s : State) (x : Nat) : (s.advanceTo x).keys = s.keys := by
  rw [State.advanceTo]
@[simp] theorem State.advanceTo_poisoned (s : State) (x : Nat) : (s.advanceTo x).poisoned = s.poisoned := by
  rw [State.advanceTo]
@[simp] theorem State.advanceTo_gddr (s : State) (x : Nat) : (s.advanceTo x).gddr = s.gddr := by
  rw [State.advanceTo]
@[simp] theorem State.advanceTo_mramFailed (s : State) (x : Nat) : (s.advanceTo x).mramFailed = s.mramFailed := by
  rw [State.advanceTo]
@[simp] theorem State.advanceTo_bg (s : State) (x : Nat) : (s.advanceTo x).bg = s.bg := by
  rw [State.advanceTo]
@[simp] theorem State.advanceTo_bgDue (s : State) (x : Nat) : (s.advanceTo x).bgDue = s.bgDue := by
  rw [State.advanceTo]
@[simp] theorem State.advanceTo_bgLast (s : State) (x : Nat) : (s.advanceTo x).bgLast = s.bgLast := by
  rw [State.advanceTo]
@[simp] theorem State.advanceTo_power (s : State) (x : Nat) : (s.advanceTo x).power = s.power := by
  rw [State.advanceTo]
@[simp] theorem State.advanceTo_therm (s : State) (x : Nat) : (s.advanceTo x).therm = s.therm := by
  rw [State.advanceTo]
@[simp] theorem State.advanceTo_alert (s : State) (x : Nat) : (s.advanceTo x).alert = s.alert := by
  rw [State.advanceTo]
@[simp] theorem State.advanceTo_mgmtSeq (s : State) (x : Nat) : (s.advanceTo x).mgmtSeq = s.mgmtSeq := by
  rw [State.advanceTo]
@[simp] theorem State.advanceTo_elog (s : State) (x : Nat) : (s.advanceTo x).elog = s.elog := by
  rw [State.advanceTo]
@[simp] theorem State.advanceTo_elogNext (s : State) (x : Nat) : (s.advanceTo x).elogNext = s.elogNext := by
  rw [State.advanceTo]
@[simp] theorem State.advanceTo_counters (s : State) (x : Nat) : (s.advanceTo x).counters = s.counters := by
  rw [State.advanceTo]
@[simp] theorem State.advanceTo_sample (s : State) (x : Nat) : (s.advanceTo x).sample = s.sample := by
  rw [State.advanceTo]
@[simp] theorem State.advanceTo_sampleAt (s : State) (x : Nat) : (s.advanceTo x).sampleAt = s.sampleAt := by
  rw [State.advanceTo]

/-! ### tick -/

@[simp] theorem State.tick_pending (s : State) (n : Nat) : (s.tick n).pending = s.pending := by
  rw [State.tick]
@[simp] theorem State.tick_out (s : State) (n : Nat) : (s.tick n).out = s.out := by
  rw [State.tick]
@[simp] theorem State.tick_free (s : State) (n : Nat) : (s.tick n).free = s.free := by
  rw [State.tick]
@[simp] theorem State.tick_ident (s : State) (n : Nat) : (s.tick n).ident = s.ident := by
  rw [State.tick]
@[simp] theorem State.tick_su (s : State) (n : Nat) : (s.tick n).su = s.su := by
  rw [State.tick]
@[simp] theorem State.tick_ports (s : State) (n : Nat) : (s.tick n).ports = s.ports := by
  rw [State.tick]
@[simp] theorem State.tick_pollPeriod (s : State) (n : Nat) : (s.tick n).pollPeriod = s.pollPeriod := by
  rw [State.tick]
@[simp] theorem State.tick_armAfter (s : State) (n : Nat) : (s.tick n).armAfter = s.armAfter := by
  rw [State.tick]
@[simp] theorem State.tick_groups (s : State) (n : Nat) : (s.tick n).groups = s.groups := by
  rw [State.tick]
@[simp] theorem State.tick_chans (s : State) (n : Nat) : (s.tick n).chans = s.chans := by
  rw [State.tick]
@[simp] theorem State.tick_closedChans (s : State) (n : Nat) : (s.tick n).closedChans = s.closedChans := by
  rw [State.tick]
@[simp] theorem State.tick_rings (s : State) (n : Nat) : (s.tick n).rings = s.rings := by
  rw [State.tick]
@[simp] theorem State.tick_poolWait (s : State) (n : Nat) : (s.tick n).poolWait = s.poolWait := by
  rw [State.tick]
@[simp] theorem State.tick_windows (s : State) (n : Nat) : (s.tick n).windows = s.windows := by
  rw [State.tick]
@[simp] theorem State.tick_acceptHeld (s : State) (n : Nat) : (s.tick n).acceptHeld = s.acceptHeld := by
  rw [State.tick]
@[simp] theorem State.tick_rotation (s : State) (n : Nat) : (s.tick n).rotation = s.rotation := by
  rw [State.tick]
@[simp] theorem State.tick_owed (s : State) (n : Nat) : (s.tick n).owed = s.owed := by
  rw [State.tick]
@[simp] theorem State.tick_bizDate (s : State) (n : Nat) : (s.tick n).bizDate = s.bizDate := by
  rw [State.tick]
@[simp] theorem State.tick_cal (s : State) (n : Nat) : (s.tick n).cal = s.cal := by
  rw [State.tick]
@[simp] theorem State.tick_feats (s : State) (n : Nat) : (s.tick n).feats = s.feats := by
  rw [State.tick]
@[simp] theorem State.tick_items (s : State) (n : Nat) : (s.tick n).items = s.items := by
  rw [State.tick]
@[simp] theorem State.tick_dialogues (s : State) (n : Nat) : (s.tick n).dialogues = s.dialogues := by
  rw [State.tick]
@[simp] theorem State.tick_remnants (s : State) (n : Nat) : (s.tick n).remnants = s.remnants := by
  rw [State.tick]
@[simp] theorem State.tick_incarn (s : State) (n : Nat) : (s.tick n).incarn = s.incarn := by
  rw [State.tick]
@[simp] theorem State.tick_openWait (s : State) (n : Nat) : (s.tick n).openWait = s.openWait := by
  rw [State.tick]
@[simp] theorem State.tick_progs (s : State) (n : Nat) : (s.tick n).progs = s.progs := by
  rw [State.tick]
@[simp] theorem State.tick_area0 (s : State) (n : Nat) : (s.tick n).area0 = s.area0 := by
  rw [State.tick]
@[simp] theorem State.tick_area1 (s : State) (n : Nat) : (s.tick n).area1 = s.area1 := by
  rw [State.tick]
@[simp] theorem State.tick_ownInForce (s : State) (n : Nat) : (s.tick n).ownInForce = s.ownInForce := by
  rw [State.tick]
@[simp] theorem State.tick_area1Used (s : State) (n : Nat) : (s.tick n).area1Used = s.area1Used := by
  rw [State.tick]
@[simp] theorem State.tick_link (s : State) (n : Nat) : (s.tick n).link = s.link := by
  rw [State.tick]
@[simp] theorem State.tick_vault (s : State) (n : Nat) : (s.tick n).vault = s.vault := by
  rw [State.tick]
@[simp] theorem State.tick_benches (s : State) (n : Nat) : (s.tick n).benches = s.benches := by
  rw [State.tick]
@[simp] theorem State.tick_cores (s : State) (n : Nat) : (s.tick n).cores = s.cores := by
  rw [State.tick]
@[simp] theorem State.tick_ucode (s : State) (n : Nat) : (s.tick n).ucode = s.ucode := by
  rw [State.tick]
@[simp] theorem State.tick_mem (s : State) (n : Nat) : (s.tick n).mem = s.mem := by
  rw [State.tick]
@[simp] theorem State.tick_keys (s : State) (n : Nat) : (s.tick n).keys = s.keys := by
  rw [State.tick]
@[simp] theorem State.tick_poisoned (s : State) (n : Nat) : (s.tick n).poisoned = s.poisoned := by
  rw [State.tick]
@[simp] theorem State.tick_gddr (s : State) (n : Nat) : (s.tick n).gddr = s.gddr := by
  rw [State.tick]
@[simp] theorem State.tick_mramFailed (s : State) (n : Nat) : (s.tick n).mramFailed = s.mramFailed := by
  rw [State.tick]
@[simp] theorem State.tick_bg (s : State) (n : Nat) : (s.tick n).bg = s.bg := by
  rw [State.tick]
@[simp] theorem State.tick_bgDue (s : State) (n : Nat) : (s.tick n).bgDue = s.bgDue := by
  rw [State.tick]
@[simp] theorem State.tick_bgLast (s : State) (n : Nat) : (s.tick n).bgLast = s.bgLast := by
  rw [State.tick]
@[simp] theorem State.tick_power (s : State) (n : Nat) : (s.tick n).power = s.power := by
  rw [State.tick]
@[simp] theorem State.tick_therm (s : State) (n : Nat) : (s.tick n).therm = s.therm := by
  rw [State.tick]
@[simp] theorem State.tick_alert (s : State) (n : Nat) : (s.tick n).alert = s.alert := by
  rw [State.tick]
@[simp] theorem State.tick_mgmtSeq (s : State) (n : Nat) : (s.tick n).mgmtSeq = s.mgmtSeq := by
  rw [State.tick]
@[simp] theorem State.tick_elog (s : State) (n : Nat) : (s.tick n).elog = s.elog := by
  rw [State.tick]
@[simp] theorem State.tick_elogNext (s : State) (n : Nat) : (s.tick n).elogNext = s.elogNext := by
  rw [State.tick]
@[simp] theorem State.tick_counters (s : State) (n : Nat) : (s.tick n).counters = s.counters := by
  rw [State.tick]
@[simp] theorem State.tick_sample (s : State) (n : Nat) : (s.tick n).sample = s.sample := by
  rw [State.tick]
@[simp] theorem State.tick_sampleAt (s : State) (n : Nat) : (s.tick n).sampleAt = s.sampleAt := by
  rw [State.tick]

/-! ### setArea -/

@[simp] theorem State.setArea_pending (s : State) (a : Nat) (x : Option Stream) : (s.setArea a x).pending = s.pending := by
  unfold State.setArea; split <;> rfl
@[simp] theorem State.setArea_out (s : State) (a : Nat) (x : Option Stream) : (s.setArea a x).out = s.out := by
  unfold State.setArea; split <;> rfl
@[simp] theorem State.setArea_free (s : State) (a : Nat) (x : Option Stream) : (s.setArea a x).free = s.free := by
  unfold State.setArea; split <;> rfl
@[simp] theorem State.setArea_ident (s : State) (a : Nat) (x : Option Stream) : (s.setArea a x).ident = s.ident := by
  unfold State.setArea; split <;> rfl
@[simp] theorem State.setArea_su (s : State) (a : Nat) (x : Option Stream) : (s.setArea a x).su = s.su := by
  unfold State.setArea; split <;> rfl
@[simp] theorem State.setArea_ports (s : State) (a : Nat) (x : Option Stream) : (s.setArea a x).ports = s.ports := by
  unfold State.setArea; split <;> rfl
@[simp] theorem State.setArea_pollPeriod (s : State) (a : Nat) (x : Option Stream) : (s.setArea a x).pollPeriod = s.pollPeriod := by
  unfold State.setArea; split <;> rfl
@[simp] theorem State.setArea_armAfter (s : State) (a : Nat) (x : Option Stream) : (s.setArea a x).armAfter = s.armAfter := by
  unfold State.setArea; split <;> rfl
@[simp] theorem State.setArea_groups (s : State) (a : Nat) (x : Option Stream) : (s.setArea a x).groups = s.groups := by
  unfold State.setArea; split <;> rfl
@[simp] theorem State.setArea_chans (s : State) (a : Nat) (x : Option Stream) : (s.setArea a x).chans = s.chans := by
  unfold State.setArea; split <;> rfl
@[simp] theorem State.setArea_closedChans (s : State) (a : Nat) (x : Option Stream) : (s.setArea a x).closedChans = s.closedChans := by
  unfold State.setArea; split <;> rfl
@[simp] theorem State.setArea_rings (s : State) (a : Nat) (x : Option Stream) : (s.setArea a x).rings = s.rings := by
  unfold State.setArea; split <;> rfl
@[simp] theorem State.setArea_poolWait (s : State) (a : Nat) (x : Option Stream) : (s.setArea a x).poolWait = s.poolWait := by
  unfold State.setArea; split <;> rfl
@[simp] theorem State.setArea_windows (s : State) (a : Nat) (x : Option Stream) : (s.setArea a x).windows = s.windows := by
  unfold State.setArea; split <;> rfl
@[simp] theorem State.setArea_acceptHeld (s : State) (a : Nat) (x : Option Stream) : (s.setArea a x).acceptHeld = s.acceptHeld := by
  unfold State.setArea; split <;> rfl
@[simp] theorem State.setArea_rotation (s : State) (a : Nat) (x : Option Stream) : (s.setArea a x).rotation = s.rotation := by
  unfold State.setArea; split <;> rfl
@[simp] theorem State.setArea_owed (s : State) (a : Nat) (x : Option Stream) : (s.setArea a x).owed = s.owed := by
  unfold State.setArea; split <;> rfl
@[simp] theorem State.setArea_time (s : State) (a : Nat) (x : Option Stream) : (s.setArea a x).time = s.time := by
  unfold State.setArea; split <;> rfl
@[simp] theorem State.setArea_bizDate (s : State) (a : Nat) (x : Option Stream) : (s.setArea a x).bizDate = s.bizDate := by
  unfold State.setArea; split <;> rfl
@[simp] theorem State.setArea_cal (s : State) (a : Nat) (x : Option Stream) : (s.setArea a x).cal = s.cal := by
  unfold State.setArea; split <;> rfl
@[simp] theorem State.setArea_feats (s : State) (a : Nat) (x : Option Stream) : (s.setArea a x).feats = s.feats := by
  unfold State.setArea; split <;> rfl
@[simp] theorem State.setArea_items (s : State) (a : Nat) (x : Option Stream) : (s.setArea a x).items = s.items := by
  unfold State.setArea; split <;> rfl
@[simp] theorem State.setArea_dialogues (s : State) (a : Nat) (x : Option Stream) : (s.setArea a x).dialogues = s.dialogues := by
  unfold State.setArea; split <;> rfl
@[simp] theorem State.setArea_remnants (s : State) (a : Nat) (x : Option Stream) : (s.setArea a x).remnants = s.remnants := by
  unfold State.setArea; split <;> rfl
@[simp] theorem State.setArea_incarn (s : State) (a : Nat) (x : Option Stream) : (s.setArea a x).incarn = s.incarn := by
  unfold State.setArea; split <;> rfl
@[simp] theorem State.setArea_openWait (s : State) (a : Nat) (x : Option Stream) : (s.setArea a x).openWait = s.openWait := by
  unfold State.setArea; split <;> rfl
@[simp] theorem State.setArea_progs (s : State) (a : Nat) (x : Option Stream) : (s.setArea a x).progs = s.progs := by
  unfold State.setArea; split <;> rfl
@[simp] theorem State.setArea_ownInForce (s : State) (a : Nat) (x : Option Stream) : (s.setArea a x).ownInForce = s.ownInForce := by
  unfold State.setArea; split <;> rfl
@[simp] theorem State.setArea_area1Used (s : State) (a : Nat) (x : Option Stream) : (s.setArea a x).area1Used = s.area1Used := by
  unfold State.setArea; split <;> rfl
@[simp] theorem State.setArea_link (s : State) (a : Nat) (x : Option Stream) : (s.setArea a x).link = s.link := by
  unfold State.setArea; split <;> rfl
@[simp] theorem State.setArea_vault (s : State) (a : Nat) (x : Option Stream) : (s.setArea a x).vault = s.vault := by
  unfold State.setArea; split <;> rfl
@[simp] theorem State.setArea_benches (s : State) (a : Nat) (x : Option Stream) : (s.setArea a x).benches = s.benches := by
  unfold State.setArea; split <;> rfl
@[simp] theorem State.setArea_cores (s : State) (a : Nat) (x : Option Stream) : (s.setArea a x).cores = s.cores := by
  unfold State.setArea; split <;> rfl
@[simp] theorem State.setArea_ucode (s : State) (a : Nat) (x : Option Stream) : (s.setArea a x).ucode = s.ucode := by
  unfold State.setArea; split <;> rfl
@[simp] theorem State.setArea_mem (s : State) (a : Nat) (x : Option Stream) : (s.setArea a x).mem = s.mem := by
  unfold State.setArea; split <;> rfl
@[simp] theorem State.setArea_keys (s : State) (a : Nat) (x : Option Stream) : (s.setArea a x).keys = s.keys := by
  unfold State.setArea; split <;> rfl
@[simp] theorem State.setArea_poisoned (s : State) (a : Nat) (x : Option Stream) : (s.setArea a x).poisoned = s.poisoned := by
  unfold State.setArea; split <;> rfl
@[simp] theorem State.setArea_gddr (s : State) (a : Nat) (x : Option Stream) : (s.setArea a x).gddr = s.gddr := by
  unfold State.setArea; split <;> rfl
@[simp] theorem State.setArea_mramFailed (s : State) (a : Nat) (x : Option Stream) : (s.setArea a x).mramFailed = s.mramFailed := by
  unfold State.setArea; split <;> rfl
@[simp] theorem State.setArea_bg (s : State) (a : Nat) (x : Option Stream) : (s.setArea a x).bg = s.bg := by
  unfold State.setArea; split <;> rfl
@[simp] theorem State.setArea_bgDue (s : State) (a : Nat) (x : Option Stream) : (s.setArea a x).bgDue = s.bgDue := by
  unfold State.setArea; split <;> rfl
@[simp] theorem State.setArea_bgLast (s : State) (a : Nat) (x : Option Stream) : (s.setArea a x).bgLast = s.bgLast := by
  unfold State.setArea; split <;> rfl
@[simp] theorem State.setArea_power (s : State) (a : Nat) (x : Option Stream) : (s.setArea a x).power = s.power := by
  unfold State.setArea; split <;> rfl
@[simp] theorem State.setArea_therm (s : State) (a : Nat) (x : Option Stream) : (s.setArea a x).therm = s.therm := by
  unfold State.setArea; split <;> rfl
@[simp] theorem State.setArea_alert (s : State) (a : Nat) (x : Option Stream) : (s.setArea a x).alert = s.alert := by
  unfold State.setArea; split <;> rfl
@[simp] theorem State.setArea_mgmtSeq (s : State) (a : Nat) (x : Option Stream) : (s.setArea a x).mgmtSeq = s.mgmtSeq := by
  unfold State.setArea; split <;> rfl
@[simp] theorem State.setArea_elog (s : State) (a : Nat) (x : Option Stream) : (s.setArea a x).elog = s.elog := by
  unfold State.setArea; split <;> rfl
@[simp] theorem State.setArea_elogNext (s : State) (a : Nat) (x : Option Stream) : (s.setArea a x).elogNext = s.elogNext := by
  unfold State.setArea; split <;> rfl
@[simp] theorem State.setArea_counters (s : State) (a : Nat) (x : Option Stream) : (s.setArea a x).counters = s.counters := by
  unfold State.setArea; split <;> rfl
@[simp] theorem State.setArea_sample (s : State) (a : Nat) (x : Option Stream) : (s.setArea a x).sample = s.sample := by
  unfold State.setArea; split <;> rfl
@[simp] theorem State.setArea_sampleAt (s : State) (a : Nat) (x : Option Stream) : (s.setArea a x).sampleAt = s.sampleAt := by
  unfold State.setArea; split <;> rfl

/-! ### What the updates write -/

@[simp] theorem State.setCore_cores (s : State) (c : Nat) (k : Core) : (s.setCore c k).cores = tset s.cores c k := rfl
@[simp] theorem State.modCore_cores (s : State) (c : Nat) (f : Core → Core) :
    (s.modCore c f).cores = tset s.cores c (f (s.core c)) := rfl
@[simp] theorem State.setPort_ports (s : State) (p : Nat) (x : Port) : (s.setPort p x).ports = s.ports.setIfInBounds p x := rfl
@[simp] theorem State.modPort_ports (s : State) (p : Nat) (f : Port → Port) :
    (s.modPort p f).ports = s.ports.setIfInBounds p (f (s.port p)) := rfl
@[simp] theorem State.modChan_chans (s : State) (n : Nat) (f : Channel → Channel) :
    (s.modChan n f).chans = tmod s.chans n f := rfl
@[simp] theorem State.modRing_rings (s : State) (n : Nat) (f : Ring → Ring) : (s.modRing n f).rings = tmod s.rings n f := rfl
@[simp] theorem State.setFrame_keys (s : State) (n : Nat) (w : FrameWord) : (s.setFrame n w).keys = tset s.keys n w := rfl
@[simp] theorem State.emitOut_out (s : State) (o : Out) : (s.emitOut o).out = o :: s.out := rfl
@[simp] theorem State.nextFree_free (s : State) : s.nextFree.free = s.free + 1 := rfl
@[simp] theorem State.advanceTo_time (s : State) (x : Nat) : (s.advanceTo x).time = s.time.advanceTo x := rfl
@[simp] theorem State.tick_time (s : State) (n : Nat) : (s.tick n).time = s.time.tick n := rfl

/-! ### Tables by number -/

/-- A table reads back what was set. -/
theorem tget_tset_same {α : Type} (t : Tbl α) (k : Nat) (v : α) : tget (tset t k v) k = some v := by
  induction t with
  | nil => simp [tget, tset]
  | cons e t ih =>
    obtain ⟨k', v'⟩ := e
    simp only [tset]
    split
    · simp [tget]
    · split
      · simp [tget]
      · next h1 h2 =>
        have h3 : (k == k') = false := by simp; omega
        simp only [tget, List.lookup_cons, h3]
        exact ih

/-- Setting a key leaves every other key's entry. -/
theorem tget_tset_ne {α : Type} (t : Tbl α) (k j : Nat) (v : α) (h : j ≠ k) : tget (tset t k v) j = tget t j := by
  induction t with
  | nil =>
    have h1 : (j == k) = false := by simp [h]
    simp [tget, tset, List.lookup_cons, h1]
  | cons e t ih =>
    obtain ⟨k', v'⟩ := e
    have h1 : (j == k) = false := by simp [h]
    simp only [tset]
    split
    · simp [tget, List.lookup_cons, h1]
    · split
      · next h2 h3 =>
        subst h3
        simp [tget, List.lookup_cons, h1]
      · simp only [tget, List.lookup_cons]
        split
        · rfl
        · exact ih

/-- A core reads back what was set. -/
@[simp] theorem State.core_setCore (s : State) (c : Nat) (k : Core) : (s.setCore c k).core c = k := by
  simp [State.core, tget_tset_same]

/-- Setting a core leaves every other core. -/
theorem State.core_setCore_ne (s : State) (c d : Nat) (k : Core) (h : d ≠ c) : (s.setCore c k).core d = s.core d := by
  simp [State.core, tget_tset_ne _ _ _ _ h]

/-- A core changed reads back changed. -/
@[simp] theorem State.core_modCore (s : State) (c : Nat) (f : Core → Core) : (s.modCore c f).core c = f (s.core c) := by
  simp [State.modCore]

/-- Changing a core leaves every other core. -/
theorem State.core_modCore_ne (s : State) (c d : Nat) (f : Core → Core) (h : d ≠ c) : (s.modCore c f).core d = s.core d := by
  simp [State.modCore, State.core_setCore_ne _ _ _ _ h]

/-- A key-array entry reads back what was set. -/
@[simp] theorem State.frameWord_setFrame (s : State) (n : Nat) (w : FrameWord) : (s.setFrame n w).frameWord n = w := by
  simp [State.frameWord, tget_tset_same]

/-- Setting an entry leaves every other frame's. -/
theorem State.frameWord_setFrame_ne (s : State) (n m : Nat) (w : FrameWord) (h : m ≠ n) :
    (s.setFrame n w).frameWord m = s.frameWord m := by
  simp [State.frameWord, tget_tset_ne _ _ _ _ h]

/-- Both ports: setting one reads back on it, and leaves the other. -/
theorem State.port_setPort (s : State) (p q : Nat) (x : Port) (hq : q < 2) :
    (s.setPort p x).port q = if p = q then x else s.port q := by
  simp only [State.port, State.setPort]
  simp [Array.getD, Vector.setIfInBounds, hq, Array.getElem_setIfInBounds]

end Sys2Proof.Machine
end

