-- ==== Sys2Proof/Laws/Instr.lean ====
section
/-!
SUPPORT. What issuing an instruction comes to: the one lemma that the proofs about a core's instructions cite, and what
fetching leaves alone.
-/

namespace Sys2Proof.Machine

/-- Marking the frames of an access writes the key array alone. -/
theorem State.touch_keys_only (s : State) (a n : Nat) (w : Bool) : ∃ keys, s.touch a n w = { s with keys := keys } := by
  unfold State.touch State.setFrame
  split
  · dsimp only
    split
    · exact ⟨_, rfl⟩
    · exact ⟨_, rfl⟩
  · dsimp only
    split
    · exact ⟨_, rfl⟩
    · exact ⟨_, rfl⟩
  · dsimp only
    split
    · exact ⟨_, rfl⟩
    · exact ⟨_, rfl⟩
  · exact ⟨s.keys, rfl⟩

/-- Marking many accesses writes the key array alone. -/
theorem State.fold_touch_keys_only (l : List Nat) (f : Nat → Nat) (s : State) :
    ∃ keys, l.foldl (fun t i => t.touch (f i) 1 false) s = { s with keys := keys } := by
  induction l generalizing s with
  | nil => exact ⟨s.keys, rfl⟩
  | cons i l ih =>
    obtain ⟨k1, h1⟩ := s.touch_keys_only (f i) 1 false
    obtain ⟨k2, h2⟩ := ih { s with keys := k1 }
    exact ⟨k2, by rw [List.foldl_cons, h1, h2]⟩

/-- Reading bytes writes the key array alone (R297). -/
theorem State.touchRead_keys_only (s : State) (a n : Nat) : ∃ keys, s.touchRead a n = { s with keys := keys } :=
  State.fold_touch_keys_only _ (fun i => if i = 0 then a else a - a % 4096 + 4096 * i) s

/-- Reading bytes leaves every core as it was. -/
theorem State.touchRead_core (s : State) (a n c : Nat) : (s.touchRead a n).core c = s.core c := by
  obtain ⟨k, h⟩ := s.touchRead_keys_only a n
  rw [h]; rfl

/-- Fetching an instruction leaves every core as it was. -/
theorem State.fetched_core (u : State) (c c' : Nat) (px : List Pfx) (d : Desc) : (u.fetched c px d).core c' = u.core c' :=
  u.touchRead_core _ _ _

/-- An entry set twice holds what was set last. -/
theorem tset_tset {α : Type} (t : Tbl α) (k : Nat) (v v' : α) : tset (tset t k v) k v' = tset t k v' := by
  induction t with
  | nil => simp [tset]
  | cons e t ih =>
    obtain ⟨k', x⟩ := e
    by_cases h1 : k < k'
    · simp [tset, h1]
    · by_cases h2 : k = k'
      · subst h2; simp [tset]
      · simp [tset, h1, h2, ih]

/-- A core replaced twice is as it was replaced last. -/
theorem State.setCore_setCore (s : State) (c : Nat) (k k' : Core) : (s.setCore c k).setCore c k' = s.setCore c k' := by
  unfold State.setCore
  simp only [tset_tset]

/-- An instruction that issues comes to what its effect on the fetched state resolves to. -/
theorem State.instr_of_issues {s u : State} {c : Nat} {px : List Pfx} {d : Desc} (h : Issues s u c px d)
    (body : State → Nat → Eff) :
    s.instr c px d body = .next ((u.fetched c px d).resolve c (u.pcOf c) (u.nextOf c px d)
      (body (u.fetched c px d) (u.nextOf c px d))) := by
  obtain ⟨hc, hr, hb, ht, he, hd⟩ := h
  unfold State.instr State.instrStep
  rw [if_pos hc]
  simp only [hr, hb, ht, he, hd, Bool.not_true, Bool.false_eq_true, if_false]
  rfl

/-- An instruction that issues and whose effect is on its core's registers alone completes. -/
theorem State.regInstr_of_issues {s u : State} {c : Nat} {px : List Pfx} {d : Desc} (h : Issues s u c px d)
    (f : Core → Core) : s.regInstr c px d f = .next (u.after c px d (f (u.core c))) := by
  unfold State.regInstr
  rw [State.instr_of_issues h]
  simp only [State.resolve, State.after, State.modCore, State.fetched_core, core_setCore, Core.ended]
  rw [State.setCore_setCore]

end Sys2Proof.Machine
end

