-- ==== Sys2Proof/Laws/Memory.lean ====
section
/-!
SUPPORT. Memory: every operation keeps the canonical form, a byte written reads back, and a write leaves every other
address.
-/

namespace Sys2Proof.Machine

/-- Every cell listed lies above an address. -/
def Memory.above (m : List Host.Cell) (a : Nat) : Prop := ∀ c ∈ m, a < c.1

/-- The canonical form, cell by cell. -/
theorem Memory.wf_cons (c : Host.Cell) (m : List Host.Cell) :
    Memory.wf (c :: m) = true ↔ c.2 ≠ 0 ∧ Memory.above m c.1 ∧ Memory.wf m = true := by
  induction m generalizing c with
  | nil => simp [Memory.wf, Memory.above]
  | cons d m ih =>
    constructor
    · intro h
      simp only [Memory.wf, Bool.and_eq_true, bne_iff_ne, decide_eq_true_eq] at h
      obtain ⟨⟨h1, h2⟩, h3⟩ := h
      refine ⟨h1, ?_, h3⟩
      have h4 := ((ih d).1 h3).2.1
      intro x hx
      rcases List.mem_cons.1 hx with rfl | hx
      · exact h2
      · exact Nat.lt_trans h2 (h4 x hx)
    · rintro ⟨h1, h2, h3⟩
      simp only [Memory.wf, Bool.and_eq_true, bne_iff_ne, decide_eq_true_eq]
      exact ⟨⟨h1, h2 d List.mem_cons_self⟩, h3⟩

/-- What lies above an address still does after a write above it. -/
theorem Memory.above_write (m : List Host.Cell) (l a : Nat) (b : Byte) (h : Memory.above m l) (hl : l < a) :
    Memory.above (Memory.write m a b) l := by
  induction m with
  | nil =>
    simp only [Memory.write]
    split
    · exact h
    · intro c hc
      simp only [List.mem_singleton] at hc
      subst hc
      exact hl
  | cons d m ih =>
    have hd : l < d.1 := h d List.mem_cons_self
    have hm : Memory.above m l := fun c hc => h c (List.mem_cons_of_mem _ hc)
    have push (x : Host.Cell) (y : List Host.Cell) (hx : l < x.1) (hy : Memory.above y l) : Memory.above (x :: y) l := by
      intro c hc
      rcases List.mem_cons.1 hc with rfl | hc
      · exact hx
      · exact hy c hc
    simp only [Memory.write]
    split
    · split
      · exact h
      · exact push _ _ hl h
    · split
      · split
        · exact hm
        · exact push _ _ hl hm
      · exact push _ _ hd (ih hm)

/-- A write keeps the canonical form. -/
theorem Memory.wf_write (m : List Host.Cell) (a : Nat) (b : Byte) (h : Memory.wf m = true) :
    Memory.wf (Memory.write m a b) = true := by
  induction m with
  | nil =>
    simp only [Memory.write]
    split
    · exact h
    · next hb => simpa [Memory.wf] using hb
  | cons d m ih =>
    obtain ⟨h1, h2, h3⟩ := (Memory.wf_cons d m).1 h
    simp only [Memory.write]
    split
    · next ha =>
      split
      · exact h
      · next hb =>
        refine (Memory.wf_cons _ _).2 ⟨hb, ?_, h⟩
        intro c hc
        rcases List.mem_cons.1 hc with rfl | hc
        · exact ha
        · exact Nat.lt_trans ha (h2 c hc)
    · split
      · next ha =>
        split
        · exact h3
        · next hb => exact (Memory.wf_cons _ _).2 ⟨hb, ha ▸ h2, h3⟩
      · next hlt hne =>
        exact (Memory.wf_cons _ _).2 ⟨h1, Memory.above_write m d.1 a b h2 (by omega), ih h3⟩

/-- Bytes written keep the canonical form. -/
theorem Memory.wf_writeN (bs : Bytes) (m : List Host.Cell) (a : Nat) (h : Memory.wf m = true) :
    Memory.wf (Memory.writeN m a bs) = true := by
  induction bs generalizing m a with
  | nil => exact h
  | cons b bs ih => exact ih _ _ (Memory.wf_write m a b h)

/-- Leaving out cells keeps the canonical form. -/
theorem Memory.wf_filter (m : List Host.Cell) (p : Host.Cell → Bool) (h : Memory.wf m = true) :
    Memory.wf (m.filter p) = true := by
  induction m with
  | nil => exact h
  | cons d m ih =>
    obtain ⟨h1, h2, h3⟩ := (Memory.wf_cons d m).1 h
    simp only [List.filter_cons]
    split
    · exact (Memory.wf_cons _ _).2 ⟨h1, fun c hc => h2 c (List.mem_filter.1 hc).1, ih h3⟩
    · exact ih h3

/-- Bytes cleared keep the canonical form. -/
theorem Memory.wf_clear (m : List Host.Cell) (a n : Nat) (h : Memory.wf m = true) :
    Memory.wf (Memory.clear m a n) = true := Memory.wf_filter m _ h

/-- Nothing listed above an address means that the address reads 0. -/
theorem Memory.read_above (m : List Host.Cell) (a : Nat) (h : Memory.above m a) : Memory.read m a = 0 := by
  induction m with
  | nil => rfl
  | cons d m ih =>
    have hd : (a == d.1) = false := by
      have := h d List.mem_cons_self
      simp; omega
    have := ih (fun c hc => h c (List.mem_cons_of_mem _ hc))
    obtain ⟨x, y⟩ := d
    simpa [Memory.read, List.lookup_cons, hd] using this

/-- A byte written reads back (the memory in canonical form). -/
theorem Memory.read_write_same (m : List Host.Cell) (a : Nat) (b : Byte) (h : Memory.wf m = true) :
    Memory.read (Memory.write m a b) a = b := by
  induction m with
  | nil =>
    simp only [Memory.write]
    split
    · next hb => rw [hb]; rfl
    · simp [Memory.read]
  | cons d m ih =>
    obtain ⟨h1, h2, h3⟩ := (Memory.wf_cons d m).1 h
    obtain ⟨x, y⟩ := d
    simp only [Memory.write]
    split
    · next ha =>
      split
      · next hb =>
        rw [hb]
        refine Memory.read_above _ _ ?_
        intro c hc
        rcases List.mem_cons.1 hc with rfl | hc
        · exact ha
        · exact Nat.lt_trans ha (h2 c hc)
      · simp [Memory.read]
    · split
      · next ha =>
        split
        · next hb => rw [hb, ha]; exact Memory.read_above _ _ h2
        · simp [Memory.read]
      · next hlt hne =>
        have hf : (a == x) = false := by simpa using hne
        have := ih h3
        simpa [Memory.read, List.lookup_cons, hf] using this

/-- A write leaves every other address. -/
theorem Memory.read_write_ne (m : List Host.Cell) (a x : Nat) (b : Byte) (hx : x ≠ a) :
    Memory.read (Memory.write m a b) x = Memory.read m x := by
  have hf : (x == a) = false := by simpa using hx
  induction m with
  | nil =>
    simp only [Memory.write]
    split
    · rfl
    · simp [Memory.read, List.lookup_cons, hf]
  | cons d m ih =>
    obtain ⟨c, v⟩ := d
    simp only [Memory.write]
    split
    · split
      · rfl
      · simp [Memory.read, List.lookup_cons, hf]
    · split
      · next ha =>
        have ha' : a = c := ha
        subst ha'
        split
        · simp [Memory.read, List.lookup_cons, hf]
        · simp [Memory.read, List.lookup_cons, hf]
      · simp only [Memory.read, List.lookup_cons]
        split
        · rfl
        · simpa [Memory.read] using ih

/-- Bytes written leave every address outside them. -/
theorem Memory.read_writeN_outside (bs : Bytes) (m : List Host.Cell) (a x : Nat) (hx : x < a ∨ a + bs.length ≤ x) :
    Memory.read (Memory.writeN m a bs) x = Memory.read m x := by
  induction bs generalizing m a with
  | nil => rfl
  | cons b bs ih =>
    simp only [List.length_cons] at hx
    rw [Memory.writeN, ih _ _ (by omega), Memory.read_write_ne _ _ _ _ (by omega)]

/-- Bytes written read back. -/
theorem Memory.read_writeN (bs : Bytes) (m : List Host.Cell) (a i : Nat) (h : Memory.wf m = true) (hi : i < bs.length) :
    Memory.read (Memory.writeN m a bs) (a + i) = bs[i] := by
  induction bs generalizing m a i with
  | nil => simp at hi
  | cons b bs ih =>
    cases i with
    | zero =>
      rw [Memory.writeN, Memory.read_writeN_outside _ _ _ _ (by omega)]
      simpa using Memory.read_write_same m a b h
    | succ i =>
      have := ih (Memory.write m a b) (a + 1) i (Memory.wf_write m a b h) (by simpa using hi)
      rw [Memory.writeN]
      simpa [Nat.add_assoc, Nat.add_comm 1 i] using this

/-- The memory of the state after reset is in canonical form. -/
theorem Memory.wf_reset : Memory.wf State.reset.mem = true := rfl

end Sys2Proof.Machine
end

