-- ==== Sys2Proof/Tests/Slice0.lean ====
section
/-!
SUPPORT. The model's own tests: witnesses that the hypotheses of the statements can be met, the well-formedness checks
refusing an ill-formed command each, and worked examples of the manual.
-/

open Sys2Proof Sys2Proof.Machine

namespace Sys2Proof.Tests

-- One theorem after another: a theorem that waits for the kernel would hold a thread of its own.
set_option Elab.async false

/-! ### Small states -/

/-- A part in service: SYS_RESET_N high, start-up at step 7, READY. -/
def inService : State := { su := { step := 7, ready := true, sysResetLow := false } }

/-- A part in service whose core 0 is `k`. -/
def served (k : Core) : State := { inService with cores := [(0, k)] }

/-- A core at machine level about to execute at 0x1_0000. -/
def machineCore : Core := { pc := 0x10000 }

/-- The same core with G1 = 1, G2 = 2, G3 = 3 and G4 = the most negative number. -/
def countCore : Core :=
  { machineCore with g := ((machineCore.g.setIfInBounds 1 1).setIfInBounds 2 2).setIfInBounds 3 3 |>.setIfInBounds 4 0x8000000000000000 }

/-- A part in service whose core 0 is at machine level. -/
def running : State := served machineCore

/-- Whether `Issues` holds, as a check. -/
def issuesNow (s u : State) (c : Nat) (px : List Pfx) (d : Desc) : Bool :=
  decide (c < 96) && s.coreRuns c && decide (s.beforeIssue c d = (u, true)) && !(d.delivers && (u.core c).trap.isSome) &&
    !((u.core c).eventDue && !(u.core c).staged) && (u.decodeCheck c px d).1.isNone

theorem issues_of_check {s u : State} {c : Nat} {px : List Pfx} {d : Desc} (h : issuesNow s u c px d = true) :
    Issues s u c px d := by
  simp only [issuesNow, Bool.and_eq_true, decide_eq_true_eq, Bool.not_eq_true', Option.isNone_iff_eq_none] at h
  exact ⟨h.1.1.1.1.1, h.1.1.1.1.2, h.1.1.1.2, h.1.1.2, h.1.2, h.2⟩

theorem issues_of_checks {s u : State} {c : Nat} {px : List Pfx} {l : List Desc} (h : l.all (issuesNow s u c px) = true) :
    ∀ d ∈ l, Issues s u c px d := fun d hd => issues_of_check (List.all_eq_true.mp h d hd)

/-! ### Witnesses: a core's instructions -/

theorem witness_IntegerSumsAndDifferences :
    (∀ d ∈ [fmtR3 0x20 31 0 31, fmtR3 0x21 1 2 3, fmtR2I32 0x30 1 31, fmtR3 0x22 1 1 1, fmtR3 0x23 1 2 3, fmtR2I32 0x31 0 1, fmtR2 0x29 1 1,
      fmtR2 0x2B 1 31, { op := 0x35, len := 6, ok := [okG 31], fl := true }, { op := 0x39, len := 3, ok := [okG 31], fl := true }],
      Issues running running 0 [] d) ∧
    Issues running running 0 [.osz] (fmtR3 0x20 1 2 3) := ⟨issues_of_checks (by decide +kernel), issues_of_check (by decide +kernel)⟩

theorem witness_LogicAndBitFields :
    (∀ d ∈ [fmtR3 0x24 1 2 3, fmtR3 0x25 1 2 3, fmtR3 0x26 1 2 3, fmtR3 0x27 1 2 3, fmtR2 0x2A 1 2, fmtR2I32 0x32 1 2, fmtR2I32 0x33 1 2,
      fmtR2I32 0x34 1 2, fmtR2 0x2C 1 2, { op := 0x36, len := 6, ok := [okG 2], fl := true },
      { op := 0x4A, len := 5, ok := [okG 1, okG 2], fl := true }, { op := 0x4B, len := 5, ok := [okG 1, okG 2], fl := true }],
      Issues running running 0 [] d) ∧
    -- INS: the field may reach bit 63, and not bit 64; it may be 1 bit, and not 0
    (decide (1 ≤ (1 : Byte).toNat ∧ (63 : Byte).toNat + (1 : Byte).toNat ≤ 64) = true ∧
      decide (1 ≤ (0 : Byte).toNat ∧ (63 : Byte).toNat + (0 : Byte).toNat ≤ 64) = false ∧
      decide (1 ≤ (1 : Byte).toNat ∧ (64 : Byte).toNat + (1 : Byte).toNat ≤ 64) = false) :=
  ⟨issues_of_checks (by decide +kernel), by decide +kernel⟩

theorem witness_MovesSelectionsAndCounts :
    (∀ d ∈ [{ fmtR2 0x28 1 2 with fl := false }, { op := 0x37, len := 6, ok := [okG 1] }, { op := 0x38, len := 10, ok := [okG 1] }, { fmtR3 0x2D 1 2 3 with fl := false },
      { fmtR3 0x2E 1 2 3 with fl := false }, { fmtR2 0x4C 1 2 with fl := false }, fmtR2 0x4D 1 2, fmtR2 0x4E 1 2, fmtR2 0x4F 1 2, { op := 0x01, len := 1 }], Issues running running 0 [] d) ∧
    running.coreRuns 0 = true ∧ running.beforeIssue 0 { op := 0x00, len := 1, undef := some 2 } = (running, true) ∧
    (running.core 0).eventDue = false ∧ running.fetchCheck 0 1 = none ∧ misusedAt [] = none ∧ misusedAt [.osz, .osz] = some 2 :=
  ⟨issues_of_checks (by decide +kernel), by decide +kernel, by decide +kernel, by decide +kernel, by decide +kernel, by decide +kernel, by decide +kernel⟩

theorem witness_ShiftsAndRotates :
    (∀ d ∈ [fmtR3 0x40 1 2 3, fmtR3 0x41 1 2 3, fmtR3 0x42 1 2 3, fmtR3 0x43 1 2 3, fmtR3 0x44 1 2 3, fmtRRI8 0x45 1 2, fmtRRI8 0x46 1 2,
      fmtRRI8 0x47 1 2, fmtRRI8 0x48 1 2, fmtRRI8 0x49 1 2], Issues running running 0 [] d) := issues_of_checks (by decide +kernel)

theorem witness_BranchesAndCalls :
    (∀ d ∈ ([{ op := 0x02, len := 2 }, { op := 0x03, len := 5 }, { op := 0x04, len := 3, ok := [decide ((15 : Byte).toNat < 16)], fl := true },
      { op := 0x05, len := 6, ok := [decide ((0 : Byte).toNat < 16)], fl := true }, { op := 0x06, len := 6, ok := [okG 31] },
      { op := 0x07, len := 2, ok := [okG 31] }, { op := 0x08, len := 3, ok := [okG 1, okG 2] }] : List Desc), Issues running running 0 [] d) :=
  issues_of_checks (by decide +kernel)

/-- A core in loop level 0, whose body ends at 0x1_0010. -/
def loopCore (count : BitVec 32) : Core :=
  machineCore.wl 0 { ls := 0x10008, le := 0x10010, lc := count, lf := 1 }

theorem witness_HardwareLoops :
    (∀ d ∈ ([{ op := 0x09, len := 4, ok := [okG 1] }, { op := 0x0A, len := 7 }, { op := 0x0B, len := 1 }] : List Desc), Issues running running 0 [] d) ∧
    machineCore.topLoop = none ∧ (loopCore 2).topLoop = some 0 ∧
    -- inside the body; the last instruction with a pass left, and with none
    ¬(0x10008 < ((loopCore 2).lvl 0).le.toNat ∧ ((loopCore 2).lvl 0).le.toNat ≤ 0x1000F) ∧
    (0x1000F < ((loopCore 2).lvl 0).le.toNat ∧ ((loopCore 2).lvl 0).le.toNat ≤ 0x10010 ∧ 1 < ((loopCore 2).lvl 0).lc.toNat) ∧
    ((loopCore 1).lvl 0).lc.toNat ≤ 1 :=
  ⟨issues_of_checks (by decide +kernel), by decide +kernel, by decide +kernel, by decide +kernel, by decide +kernel, by decide +kernel⟩

/-- [disp32] with the data register 2. -/
def absSpec (disp : BitVec 32) : MemSpec := ⟨2, 0x80, 0, disp⟩

/-- A core whose address units are as given, with G1 = 3. -/
def auCore (u : AddrUnit) : Core := { machineCore with aus := Vector.replicate 4 u, g := machineCore.g.setIfInBounds 1 3 }

theorem witness_LoadsComplete :
    (∀ d ∈ [fmtM 0x10 [] (absSpec 0x2000), fmtM 0x11 [] (absSpec 0x2000), fmtM 0x12 [] (absSpec 0x2000), fmtM 0x13 [] (absSpec 0x2000),
      fmtM 0x14 [] (absSpec 0x2000), fmtM 0x15 [] (absSpec 0x2000), fmtM 0x16 [] (absSpec 0x2000), fmtMPair 0x1C [] (absSpec 0x2000),
      fmtFM 0x7B [] (absSpec 0x2000), fmtM 0x17 [] (absSpec 0x2000)], Issues running running 0 [] d) ∧
    memEa machineCore [] (absSpec 0x2001) 0x10008 = .ok (0x2001, none) ∧
    running.checkAccess (whoOf 0 machineCore []) 0x2001 8 .read = none ∧
    -- past external memory no access is allowed
    memEa machineCore [] (absSpec 0x80000000) 0x10008 = .ok (0xFFFFFFFF80000000, none) ∧
    running.checkAccess (whoOf 0 machineCore []) 0xFFFFFFFF80000000 1 .read = some { vec := 3, cause := 2, g2 := 0xFFFFFFFF80000000 } ∧
    -- an address unit of kind 3
    (Issues (served (auCore { mode := 3 })) (served (auCore { mode := 3 })) 0 [.au 0] (fmtM 0x10 [.au 0] ⟨2, 0, 0, 0⟩) ∧
      ∃ e, memEa (auCore { mode := 3 }) [.au 0] ⟨2, 0, 0, 0⟩ 0x10006 = .error e) :=
  ⟨issues_of_checks (by decide +kernel), rfl, by decide +kernel, rfl, by decide +kernel, issues_of_check (by decide +kernel), _, rfl⟩

/-- A core whose LD.D of 0x2000 is outstanding. -/
def loadCore : Core := { machineCore with load := some { op := .d, px := [], m := absSpec 0x2000 } }

theorem witness_LoadsComplete_late :
    (served loadCore).coreRuns 0 = true ∧ ((served loadCore).core 0).load = some { op := .d, px := [], m := absSpec 0x2000 } ∧
    memEa { loadCore with load := none } [] (absSpec 0x2000) (0x10000 + 8) = .ok (0x2000, none) ∧
    ((served loadCore).setCore 0 { loadCore with load := none }).checkAccess (whoOf 0 { loadCore with load := none } []) 0x2000 8 .read = none :=
  ⟨by decide +kernel, by decide +kernel, rfl, by decide +kernel⟩

theorem witness_StoresAndAtomics :
    (∀ d ∈ [fmtM 0x18 [] (absSpec 0x2000), fmtM 0x19 [] (absSpec 0x2000), fmtM 0x1A [] (absSpec 0x2000), fmtM 0x1B [] (absSpec 0x2000),
      fmtMPair 0x1D [] (absSpec 0x2000), fmtFM 0x7C [] (absSpec 0x2000), fmtM 0x1E [] (absSpec 0x2000),
      { op := 0x1F, len := 2 + (absSpec 0x2000).len, ok := [okG 1, okG 2] ++ (absSpec 0x2000).oks false, fl := true, spec := true }],
      Issues running running 0 [] d) ∧
    memEa machineCore [] (absSpec 0x2000) 0x10008 = .ok (0x2000, none) ∧
    running.checkAccess (whoOf 0 machineCore []) 0x2000 8 .write = none ∧
    running.checkAccess (whoOf 0 machineCore []) 0x2000 8 .rmw = none ∧
    running.checkAccess (whoOf 0 machineCore []) 0xFFFFFFFF80000000 1 .write = some { vec := 3, cause := 2, g2 := 0xFFFFFFFF80000000 } ∧
    -- the last 16 bytes of firmware's region, and the first past them
    (∀ i, i < 16 → regionOf ((0x51FFFFFF0 + i) % 2 ^ 64) ∈ [Region.ext, Region.fw, Region.pool]) ∧
    regionOf 0x520000000 ∉ [Region.ext, Region.fw, Region.pool] :=
  ⟨issues_of_checks (by decide +kernel), rfl, by decide +kernel, by decide +kernel, by decide +kernel, by decide +kernel, by decide +kernel⟩

theorem witness_EffectiveAddressesAndUnits :
    pxAu [.osz] = none ∧ (absSpec 0).amode ≤ 5 ∧ pxAu [.au 3] = some 3 ∧
    -- legal: linear at SHIFT 4; modulo with INDEX and STEP just below LENGTH; bit-reversed with LENGTH 2
    (let u : AddrUnit := { mode := 0x10 }; u.mode.toNat % 4 = 0 ∧ u.mode.toNat / 4 % 16 = 4 ∧ u.mode.toNat / 64 = 0 ∧ u.base.toNat < 2 ^ 48) ∧
    (let u : AddrUnit := { mode := 1, length := 8, index := 7, step := 7 }; u.index.toNat < u.length.toNat ∧ u.step.toInt.natAbs < u.length.toNat) ∧
    (let u : AddrUnit := { mode := 2, length := 2, index := 1 }; u.length.toNat = 2 ^ 1 ∧ u.index.toNat < u.length.toNat) ∧
    -- illegal: kind 3, SHIFT 5, a reserved bit, LENGTH 0, INDEX at LENGTH
    ((3 : BitVec 32).toNat % 4 = 3 ∧ 4 < (0x14 : BitVec 32).toNat / 4 % 16 ∧ (0x40 : BitVec 32).toNat / 64 ≠ 0) := by
  decide +kernel

theorem witness_BitSpaceInstructions :
    -- the last flag, the first bit of memory, and bit addresses that BASEB carries past 2^48
    (65535 < 2 ^ 32 ∧ bitPlace machineCore 65535 = .ok (.flag 0x21FFF 7) ∧ bitPlace machineCore 65536 = .ok (.mem 0 0)) ∧
    bitPlace { machineCore with baseb := 0xFFFFFFFFFFFF } 65544 = .error { vec := 11, cause := 2, g2 := 65544 } ∧
    (∀ d ∈ [fmtBit 0x60 1, fmtBit 0x61 1, fmtBit 0x62 1, fmtBit 0x63 1, fmtBit 0x66 1, fmtBit 0x67 1, { op := 0x64, len := 4, ok := [okG 1] },
      { op := 0x65, len := 4, ok := [okG 1] }, fmtR3 0x68 1 2 3], Issues running running 0 [] d) ∧
    running.bitOperand 0 [] 65536 true = .ok (.mem 0 0) ∧ running.bitOperand 0 [] 7 false = .ok (.flag 0x20000 7) ∧
    running.bffsCheck 0 [] 0 0 4096 = none :=
  ⟨⟨by decide +kernel, rfl, rfl⟩, rfl, issues_of_checks (by decide +kernel), rfl, rfl, by decide +kernel⟩

/-- A core with a multiply under way. -/
def mulCore (v : Option Bool) : Core := { machineCore with muldiv := some { lo := 6, hi := 0, v := v, cyc := 2, borrowed := false } }

theorem witness_MultiplyAndDivide :
    (∀ d ∈ ([fmtMul 0x50 1 2 false, fmtMul 0x51 1 2 false, fmtMul 0x54 1 2 false, fmtMul 0x55 1 2 true, { op := 0x52, len := 2, ok := [okG 1], ml := true },
      { op := 0x53, len := 2, ok := [okG 1], ml := true }, { op := 0x56, len := 2, ok := [okG 1], ml := true },
      { op := 0x57, len := 2, ok := [okG 1], ml := true }] : List Desc), Issues running running 0 [] d) ∧
    -- a divisor of 0 and one of 2, and a core with a result outstanding
    (machineCore.rg 0).toNat % 2 ^ 64 = 0 ∧ (countCore.rg 2).toNat % 2 ^ 64 ≠ 0 ∧
    (∀ d ∈ [fmtMul 0x54 1 2 false, fmtMul 0x55 4 2 true], Issues (served countCore) (served countCore) 0 [] d) ∧
    ((served (mulCore none)).core 0).muldiv ≠ none ∧ ((served (mulCore (some true))).core 0).muldiv ≠ none :=
  ⟨issues_of_checks (by decide +kernel), by decide +kernel, by decide +kernel, issues_of_checks (by decide +kernel), by decide +kernel, by decide +kernel⟩

theorem witness_FloatArithmeticCompletes :
    (let tri := [okF 15, okF 0, okF 1];
      ∀ d ∈ [fmtF 0x70 4 tri, fmtF 0x71 4 tri, fmtF 0x72 4 tri, fmtF 0x73 4 tri, fmtF 0x74 3 [okF 15, okF 0], fmtF 0x75 5 (tri ++ [okF 14]),
        { fmtF 0x76 3 [okF 15, okF 0] with fl := true }, fmtF 0x77 4 tri, fmtF 0x78 4 tri, fmtF 0x79 4 (fcvtOk 7 1 2),
        fmtF 0x79 4 (fcvtOk 0 1 2)], Issues running running 0 [] d) ∧
    (fcvtOk 8 1 2).all id = false ∧ (fcvtOk 2 1 16).all id = true ∧ (fcvtOk 0 1 16).all id = false :=
  ⟨issues_of_checks (by decide +kernel), by decide +kernel, by decide +kernel, by decide +kernel⟩

theorem witness_FloatRoundingAndSpecials :
    f64 ∈ [f64, f32] ∧ (1 : Nat) ≠ 0 ∧
    -- overflow, an underflow, an exact and an inexact result
    (f64.round 0 false 1 2000 false).flags.testBit 2 = true ∧ (f64.round 0 false 1 (-2000) false).tiny = true ∧
    (f64.round 0 false 3 0 false).flags = 0 ∧ (f64.round 3 true (2 ^ 60 + 1) 0 false).flags = 16 ∧
    (f64.round 0 false (2 ^ 60 + 1) 0 false).tiny = false := by
  decide +kernel

theorem witness_FloatMovesAndFbar :
    (∀ d ∈ [fmtF 0x7A 4 [true, okF 1, okF 2], fmtF 0x7D 5 [true, okF 1, okF 2, okF 15], { fmtFC 2 [] 0 [] with delivers := true }], Issues running running 0 [] d) ∧
    (∀ sub : Byte, sub = 0 ∨ sub = 2 → (decide (sub.toNat ≤ 2) && (if sub = 2 then okG 1 else okF 1) && (if sub = 1 then okG 2 else okF 2)) = true) ∧
    (let t := served { machineCore with trap := some (1, 0x10000) };
      t.coreRuns 0 = true ∧ t.beforeIssue 0 { fmtFC 2 [] 0 [] with delivers := true } = (t, true)) := by
  refine ⟨issues_of_checks (by decide +kernel), ?_, by decide +kernel⟩
  rintro sub (rfl | rfl) <;> decide +kernel

/-- `s` with the bytes `bs` at the physical address `a`. -/
def withMem (s : State) (a : Nat) (bs : Bytes) : State := { s with mem := Memory.writeN s.mem a bs }

/-- A core with DR0 = +12, DR1 = -3, DR2 = +0, and DR3 invalid (all zeros: its sign nibble is 0). -/
def decCore : Core := { machineCore with dr := ((machineCore.dr.setIfInBounds 0 0x12C).setIfInBounds 1 0x3D).setIfInBounds 2 0xC }

theorem witness_DecimalArithmetic :
    validDr (decCore.rd 0) ∧ validDr (decCore.rd 1) ∧ validDr (decCore.rd 2) ∧ ¬validDr (decCore.rd 3) ∧
    drValue (decCore.rd 2) = 0 ∧ drValue (decCore.rd 1) = -3 ∧
    (∀ d ∈ ([{ op := 0x80, len := 4, ok := [okF 4, okF 0, okF 1], fl := true }, { op := 0x81, len := 4, ok := [okF 15, okF 0, okF 1], fl := true },
      { op := 0x82, len := 4, ok := [okF 4, okF 0, okF 1], fl := true }, { op := 0x84, len := 3, ok := [okF 0, okF 1], fl := true },
      { op := 0x83, len := 4, ok := [okF 4 && decide ((4 : Byte).toNat % 2 = 0), okF 0, okF 1], fl := true },
      { op := 0x85, len := 3, ok := [okF 4, okF 0], fl := true },
      { op := 0x86, len := 5, ok := [okF 4, okF 0, decide ((-31 : Byte).toInt.natAbs ≤ 31), decide ((2 : Byte).toNat ≤ 2)], fl := true },
      { op := 0x8B, len := 3, ok := [okF 4, okG 31], fl := true }, { op := 0x8C, len := 3, ok := [okG 31, okF 0], fl := true }] : List Desc),
      Issues (served decCore) (served decCore) 0 [] d) ∧
    -- one digit: 12 overflows it, 9 does not; with DLEN 31 nothing here does
    (pxDlen [.dlen 1]).getD 31 = 1 ∧ 10 ^ 1 ≤ (drValue (decCore.rd 0)).natAbs ∧ (drValue (decCore.rd 1)).natAbs < 10 ^ 1 ∧
    ({ decCore with mode := 0xF202 } : Core).doe = true ∧ decCore.doe = false ∧
    (served decCore).coreRuns 0 = true := by
  refine ⟨?_, ?_, ?_, ?_, by decide +kernel, by decide +kernel, issues_of_checks (by decide +kernel), by decide +kernel, by decide +kernel,
    by decide +kernel, by decide +kernel, by decide +kernel, by decide +kernel⟩ <;> unfold validDr <;> decide +kernel

/-- 0x2000 holds the packed field 1 2 +, and 0x3000 the zoned field 1 2 in ASCII. -/
def fieldState : State := withMem (withMem (served decCore) 0x2000 [0x01, 0x2C]) 0x3000 [0x31, 0x32]

theorem witness_DecimalFieldsInMemory :
    (∀ d ∈ ([fmtDM 0x87 (hasPx [.dlen 2] 5) (absSpec 0x2000), fmtDM 0x88 (hasPx [.dlen 2] 5) (absSpec 0x2000), fmtDM 0x89 false (absSpec 0x3000),
      fmtDM 0x8A false (absSpec 0x3000)] : List Desc),
      Issues fieldState fieldState 0 [.dlen 2] d) ∧
    memEa decCore [.dlen 2] (absSpec 0x2000) 0x10008 = .ok (0x2000, none) ∧
    fieldState.checkBytes (whoOf 0 decCore [.dlen 2]) 0x2000 2 false = none ∧
    fieldState.checkBytes (whoOf 0 decCore [.dlen 2]) 0x3000 2 true = none ∧
    -- the packed field is valid with its pad 0; 31 digits leave no pad; the zones 3 and 15 are legal and 4 is not
    (fieldState.readByte 0 0x2000).toNat = 0x01 ∧ (fieldState.readByte 0 0x2001).toNat = 0x2C ∧
    (fieldState.readByte 0 0x3000).toNat / 16 ∈ [3, 15] ∧ ¬(4 ∈ [3, 15]) ∧ (31 : Nat) % 2 ≠ 0 :=
  ⟨issues_of_checks (by decide +kernel), rfl, by decide +kernel, by decide +kernel, by decide +kernel, by decide +kernel, by decide +kernel,
    by decide +kernel, by decide +kernel⟩

/-- "12" at 0x2000, G1 = 0x2000 and G2 = `n`. -/
def luhnState (n : Nat) : State :=
  withMem (served { machineCore with g := (machineCore.g.setIfInBounds 1 0x2000).setIfInBounds 2 (BitVec.ofNat 64 n) }) 0x2000 [0x31, 0x32]

/-- A core with DNRM of DR0 outstanding. -/
def decOutCore : Core := { decCore with dec := some { op := .nrm, px := [], d := 4, a := 0, b := 0, e := 0, m := absSpec 0 } }

theorem witness_DecimalAdjustLuhnMoveComplete :
    (∀ d ∈ ([{ op := 0x8D, len := 3, ok := [okG 1, okG 2], fl := true }, { op := 0x8F, len := 3, ok := [okF 4, okF 0] }] : List Desc),
      Issues (served decCore) (served decCore) 0 [] d) ∧
    -- LUHN of 0, 1, 64 and 65 digits; a digit and a byte that is none
    (∀ n ∈ [0, 1, 64, 65], Issues (luhnState n) (luhnState n) 0 [] (fmtR3 0x8E 3 1 2) ∧ (((luhnState n).core 0).rg 2).toNat = n) ∧
    (luhnState 1).checkBytes (whoOf 0 ((luhnState 1).core 0) []) 0x2000 64 false = none ∧
    ((luhnState 1).readByte 0 0x2000).toNat = 0x31 ∧ ((luhnState 1).readByte 0 0x2002).toNat = 0 ∧
    -- DECIMAL_COMPLETE, and both its outcomes
    (served decOutCore).coreRuns 0 = true ∧ decOutCore.dec ≠ none ∧
    (∃ t', decBody 0 { op := .nrm, px := [], d := 4, a := 0, b := 0, e := 0, m := absSpec 0 } (served decCore) 0x10003 = .next t') ∧
    (∃ e, decBody 0 { op := .nrm, px := [], d := 4, a := 3, b := 0, e := 0, m := absSpec 0 } (served decCore) 0x10003 = .exc e) :=
  ⟨issues_of_checks (by decide +kernel), fun n hn => ⟨issues_of_check (by revert n; decide +kernel), by revert n; decide +kernel⟩, by decide +kernel,
    by decide +kernel, by decide +kernel, by decide +kernel, by decide +kernel, ⟨_, rfl⟩, ⟨_, rfl⟩⟩

/-- G1 = 0x2000, G2 = 0x3000, G3 = `n`: destination or first, source or table, and length. -/
def strState (n : Nat) (at_ : W := 0x2000) : State :=
  served { machineCore with g := ((machineCore.g.setIfInBounds 1 at_).setIfInBounds 2 0x3000).setIfInBounds 3 (BitVec.ofNat 64 n) }

theorem witness_StringInstructions :
    (∀ n ∈ [0, 1, 100], (((strState n).core 0).rg 3).toNat = n ∧
      ∀ d ∈ ([{ fmtStr 0xA0 1 2 3 with fl := false }, fmtStr 0xA1 1 2 3, { fmtStr 0xA2 1 2 3 with fl := false },
        { op := 0xA3, len := 5, fl := true, ok := [okG 1, okG 2 && (1 : Byte) != 2, okG 3 && (1 : Byte) != 3 && (2 : Byte) != 3,
            okG 4 && (4 : Byte) != 1 && (4 : Byte) != 2 && (4 : Byte) != 3] }, fmtStr 0xA4 1 2 3] : List Desc),
      Issues (strState n) (strState n) 0 [] d) ∧
    tableCheck 0 [] 2 3 (strState 1) = none ∧
    -- a unit of 64 bytes with more to come; the first byte past external memory fails at once
    min (64 - (0x2000 : Nat) % 64) 100 = 64 ∧ 64 < 100 ∧
    (smovOp 0 [] (whoOf 0 machineCore []) 1 2 3).check (strState 1) 0 = none ∧
    (smovOp 0 [] (whoOf 0 machineCore []) 1 2 3).check (strState 1 0x520000000) 0 ≠ none :=
  ⟨fun n hn => ⟨by revert n; decide +kernel, issues_of_checks (by revert n; decide +kernel)⟩, by decide +kernel, by decide +kernel, by decide +kernel,
    by decide +kernel, by decide +kernel⟩

/-- A pattern at 0x3000 whose first byte is `n` and whose codes are DIGIT and END, DR0 = `src`, G1 = 0x2000, G2 = 0x3000. -/
def editState (n : Byte) (src : BitVec 128) : State :=
  withMem (served { decCore with g := (machineCore.g.setIfInBounds 1 0x2000).setIfInBounds 2 0x3000, dr := decCore.dr.setIfInBounds 0 src })
    0x3000 [n, 1, 0]

theorem witness_EditInstruction :
    (∀ n ∈ ([0, 1, 31, 32] : List Byte), Issues (editState n 0x1C) (editState n 0x1C) 0 []
      { op := 0xA5, len := 4, ok := [okG 1, okG 2 && (1 : Byte) != 2, okF 0], fl := true }) ∧
    validDr 0x1C ∧ (editState 1 0x1C).checkBytes (whoOf 0 ((editState 1 0x1C).core 0) []) 0x3000 1 false = none ∧
    ((editState 1 0x1C).core 0).ssr.getLsbD 0 = false ∧
    -- a source of one digit fits N = 1, one of two does not
    ¬(10 ^ 1 ≤ (drValue 0x1C).natAbs) ∧ 10 ^ 1 ≤ (drValue 0x12C).natAbs ∧
    -- the edit ends; an event after its first unit stops it
    (∃ t' e', editRun 0 (whoOf 0 ((editState 1 0x1C).core 0) []) 1 2 0x1C 1025 none
      ((editState 1 0x1C).modCore 0 (fun k => k.wg 2 0x3001))
      { left := 1, sig := false, floatSet := false, floatDone := false, ovf := false, fill := 0x20, floatC := 0, count := 1 } = (.done t', e')) ∧
    (∃ t' e', editRun 0 (whoOf 0 ((editState 1 0x1C).core 0) []) 1 2 0x1C 1025 (some 1)
      ((editState 1 0x1C).modCore 0 (fun k => k.wg 2 0x3001))
      { left := 1, sig := false, floatSet := false, floatDone := false, ovf := false, fill := 0x20, floatC := 0, count := 1 } = (.more t', e')) ∧
    ((7 : Nat) ≤ 0x1F ∧ 0x1F < 0x20) := by
  refine ⟨fun n hn => issues_of_check (by revert n; decide +kernel), by unfold validDr; decide +kernel, by decide +kernel, by decide +kernel,
    by decide +kernel, by decide +kernel, ⟨_, _, rfl⟩, ⟨_, _, rfl⟩, by decide⟩

/-- A core at task level. -/
def taskCore : Core := { machineCore with mode := 0xF000 }

theorem witness_SystemRegistersKeysAndFences :
    (∀ n ∈ ([0, 4, 8, 9, 10, 11, 12, 13, 0x10, 0x1F, 0x20, 0x3C] : List Byte), Issues running running 0 [] (fmtSys [okG 1, sysNamed n.toNat] n.toNat [])) ∧
    (∀ n ∈ ([0, 1, 2, 3, 5, 7, 8, 9, 10, 0x10, 0x1F, 0x20, 0x3C] : List Byte),
      Issues running running 0 [] (fmtSys [okG 1, sysWritable n.toNat] n.toNat [])) ∧
    machineCore.mode.toNat % 4 = 2 ∧ ({ machineCore with mode := 0xF001 } : Core).mode.toNat % 4 = 1 ∧
    -- KSET and KGET: the last byte of external memory, the first past it, the pool, firmware's region, and past 2^48
    Issues running running 0 [] (fmtFC 4 [okG 1, okG 2] 1 []) ∧
    regionOf 0x4FFFFFFFF = .ext ∧ regionOf 0x520000000 = .nothing ∧ regionOf 0x1000000000 = .pool ∧
    regionOf 0x500000000 = .fw ∧ ¬((2 : Nat) ^ 48 ≤ 0x400000000) ∧
    (∀ ty ∈ ([0, 4] : List Byte), Issues running running 0 [] (fmtFC 3 [decide (ty.toNat ≤ 4)] 0 [])) ∧
    Issues running running 0 [] (fmtFC 2 [] 0 []) :=
  ⟨fun n hn => issues_of_check (by revert n; decide +kernel), fun n hn => issues_of_check (by revert n; decide +kernel), by decide +kernel,
    by decide +kernel, issues_of_check (by decide +kernel), by decide +kernel, by decide +kernel, by decide +kernel, by decide +kernel,
    by decide +kernel, fun n hn => issues_of_check (by revert n; decide +kernel), issues_of_check (by decide +kernel)⟩

/-! ### Witnesses: exceptions and a channel program's instructions -/

/-- Vector 1's entry at 0x2008 names the template at 0x4000, whose PC is 0x2_0000 and whose MODE says level S. VTB is 0x2000. -/
def entryState : State :=
  withMem (withMem (withMem (served { machineCore with vtb := 0x2000 }) 0x2008 [0x01, 0x40]) 0x4360 [0, 0, 2]) 0x4370 [1]

theorem witness_ExceptionEntry :
    Quiet entryState 0 ∧ EntryReady entryState 0 1 1 (entryState.rawRead 0 0x4000 0x3A0) :=
  ⟨⟨rfl, rfl, rfl, rfl, by decide +kernel, rfl, rfl, by decide +kernel, rfl⟩,
    ⟨by decide +kernel, by decide +kernel, by decide +kernel, by decide +kernel, rfl, by decide +kernel, by decide +kernel, by decide +kernel,
      by decide +kernel, by decide +kernel, by decide +kernel, by decide +kernel, by decide +kernel, by decide +kernel, by decide +kernel⟩⟩

/-- A core at level S, event level 1, whose TSB at 0x2000004400 holds the PC `pc` and the MODE `mode`. -/
def handlerState (mode pc tsb : Nat) : State :=
  served { machineCore with mode := 0x100F001, tsbp := BitVec.ofNat 64 tsb, loc := Memory.writeN (Memory.writeN [] 0x4760 (leBytes 8 pc)) 0x4770 (leBytes 8 mode) }

/-- A core with a queued record of level 2. -/
def recordCore : Core := { machineCore with queue := [⟨0, 2, 0, 5, 0, 0, 0⟩] }

theorem witness_TrapReturnAndEventEntry :
    (∀ n ∈ ([0, 15] : List Byte), Issues running running 0 [] (fmtFC 3 [decide (n.toNat ≤ 15)] 0 [])) ∧
    machineCore.trap = none ∧ machineCore.floats = [] ∧ machineCore.muldiv = none ∧
    -- RETT: to task level, to a reserved MODE, to level M, to a PC past 2^48, and with a TSB in no region
    (∀ p ∈ [(0, 0x20000), (0x4, 0x20000), (3, 0x20000), (2, 0x20000), (1, 2 ^ 48)],
      let s := handlerState p.1 p.2 0x2000004400
      Issues s s 0 [] (fmtRett []) ∧ (∀ o ∈ [0, 0x100, 0x200, 0x300], s.checkAt 0 0 1 (0x2000004400 + o) false = none) ∧
      tsbField (s.rawRead 0 0x2000004400 0x3A0) 0x370 8 = p.1 ∧ tsbField (s.rawRead 0 0x2000004400 0x3A0) 0x360 8 = p.2 ∧
      s.poisoned = [] ∧ (s.core 0).queue = [] ∧ (s.evc 0).order = []) ∧
    (∀ i, 0x2000004400 ≠ 0x002000008000 + 0x3000 * i) ∧ regionOf 0x2000022000 = .nothing ∧
    (handlerState 0 0 0x500000000).checkAt 0 0 1 0x500000000 false ≠ none ∧
    -- an event entry with a record and without one
    (served recordCore).coreRuns 0 = true ∧ recordCore.eventDue = true ∧ recordCore.staged = false ∧ machineCore.eventDue = false := by
  refine ⟨fun n hn => issues_of_check (by revert n; decide +kernel), rfl, rfl, rfl, fun p hp => ⟨issues_of_check (by revert p; decide +kernel), ?_⟩,
    fun i => by omega, by decide +kernel, by decide +kernel, by decide +kernel, by decide +kernel, by decide +kernel, by decide +kernel⟩
  revert p; decide +kernel

/-- Item (1, 5) of channel 7, which runs. -/
def someItem : Item :=
  { stream := 1, jsn := 5, kind := .message, channel := 7, stamp := 1000, deadline := 9000, orderKey := 0, progArg := 0, userTag := 0, idx := 0
    date := 0, adopted := false, len := 64, win := 0x1000000000, granules := 1, program := 3, gen := some 1, state := .running }

/-- The primary stream 1, its log of 16 MiB empty. -/
def someStream : Stream := { id := 1, serial := 0, adoption := 1, role := .primary, nextJsn := 6, logSz := 0x1000000 }

/-- A generation of program 3. -/
def someGen : Gen :=
  { gen := 1, key := 1, serial := false, mask := 1, entry := 0, codeLen := 64, dataLen := 64, pages := 1, turn := 1000, share := 1, sha := 0, codeAt := 0x30000 }

/-- A core in the turn of item (1, 5) in slot 0: level T, access key 1, code at 0x1_0000, with the registers `g`. -/
def turnCore (g : List (Nat × W)) : Core :=
  { pc := 0x10000, mode := 0xF010, tsbp := 0x2000008000, g := g.foldl (fun v p => v.setIfInBounds p.1 p.2) machineCore.g
    slots := machineCore.slots.setIfInBounds 0 { st := .running, item := some (1, 5), turnLimit := 1000 } }

/-- A part in which core 0 runs item (1, 5) of channel 7. -/
def turnState (k : Core) : State :=
  { inService with
    cores := [(0, k)], keys := [(16, { key := 1 })], items := [someItem], windows := [(0x1000000000, ⟨1, 7, [1, 0, 0, 0]⟩)], area0 := some someStream
    area1Used := false, chans := [(7, { stream := 1, program := 3 })], progs := [(3, { gens := [someGen], key := 1, dataAt := 0x40000, pages := 1 })] }

/-- A part in which item (1, 5) waits for a core, and core 0 is at level S with G1 = `n`. -/
def takeState (n : Nat) : State :=
  { turnState { machineCore with mode := 0xF001, g := machineCore.g.setIfInBounds 1 (BitVec.ofNat 64 n) } with
    items := [{ someItem with state := .accepted, ready := true }] }

theorem witness_TakePostEmit :
    -- TAKE: slots 0, 7 and 8, with an item ready and with none, and a generation
    (∀ n ∈ [0, 7, 8], Issues (takeState n) (takeState n) 0 [] (fmtWorkAt 1 []) ∧ (((takeState n).core 0).rg 1).toNat = n) ∧
    ((takeState 7).core 0).slots.toArray.getD 7 {} = {} ∧ ((takeState 0).core 0).parkFrom = none ∧
    (takeState 0).itemGen someItem = some someGen ∧ Issues running running 0 [] (fmtWorkAt 1 []) ∧ running.items = [] ∧
    -- the dispatcher's choices: the queue's head, and a READY slot before it at the same deadline
    (takeState 0).dispatchPick 0 = some (.take 0) ∧ running.dispatchPick 0 = none ∧
    (let k : Core := { machineCore with slots := machineCore.slots.setIfInBounds 3 { st := .ready, item := some (1, 5) } };
      ({ takeState 0 with cores := [(0, k)] } : State).dispatchPick 0 = some (.slot 3)) ∧
    -- POST and EMIT of a running item
    (let s := turnState (turnCore [(1, 0)]);
      Issues s s 0 [] (fmtWork s 0 []) ∧ s.openSlot = s ∧ s.runningItem 0 = some someItem ∧ s.appendOk 1 64 true = true ∧
      (s.core 0).runningSlot.any (fun n => ((s.core 0).slot n).tags != 0) = false) ∧
    (∀ n ∈ [1, 262144],
      let k : Core := { turnCore [(1, 7), (2, 0x1000000000), (3, BitVec.ofNat 64 n)] with grant := some ((n + 255) / 256) }
      let s := { turnState k with keys := [(16, { key := 1 })] }
      Issues s s 0 [] (fmtWork s 0 []) ∧ s.windowFits (if n = 1 then 0x1000000400 else 0x1300000000) ((n + 255) / 256) 0 = true ∧
      s.appendOk 1 (64 + 64 * ((n + 63) / 64)) false = true ∧ s.poolWait = [] ∧ s.closing 7 = false) ∧
    (∃ x, (turnState (turnCore [])).chan 7 = some x ∧ (turnState (turnCore [])).holds x.stream = true) ∧ (turnState (turnCore [])).chan 8 = none ∧
    (let s := turnState (turnCore [(1, 7), (2, 0x2000008480), (3, 64)]);
      s.checkBytes { core := 0, key := 1, level := 0 } 0x2000008480 64 false = none) := by
  refine ⟨fun n hn => ⟨issues_of_check (by revert n; decide +kernel), by revert n; decide +kernel⟩, by decide +kernel, rfl, by decide +kernel,
    issues_of_check (by decide +kernel), rfl, by decide +kernel, by decide +kernel, by decide +kernel,
    ⟨issues_of_check (by decide +kernel), by decide +kernel, by decide +kernel, by decide +kernel, by decide +kernel⟩,
    fun n hn => ⟨issues_of_check (by revert n; decide +kernel), ?_⟩, ⟨_, rfl, rfl⟩, by decide +kernel, by decide +kernel⟩
  revert n; decide +kernel

/-- A context at 0x2000008480: its EXPIRY 10,000, BUDGET `b`, PEER 7; G1 names it and G2 another place. -/
def openState (b : Nat) : State :=
  turnState { turnCore [(1, 0x2000008480), (2, 0x2000008500)] with
    loc := Memory.writeN (Memory.writeN [] 0x8490 (leBytes 8 10000)) 0x8498 (leBytes 4 b ++ leBytes 2 7) }

/-- An open dialogue of channel 7 with the key 0. -/
def someDialogue : Dialogue :=
  { stream := 1, handle := 0x200000, openJsn := 3, opener := 2, context := 0, expiry := 5000, budget := 1000, channel := 7, key := 0, state := .open_ }

/-- What is left of a dialogue of channel 7 with the key 0. -/
def someRemnant : Remnant :=
  { stream := 1, handle := 0x200000, channel := 7, key := 0, context := 0, expiry := 900, at_ := 950, openJsn := 3 }

theorem witness_OpenMatchClose :
    (∀ b ∈ [0, 1000], let s := openState b
      Issues s s 0 [] (fmtWork s 0 []) ∧ s.openSlot = s ∧ s.runningItem 0 = some someItem ∧ s.outsideOpen 0 0x2000008480 = none ∧
      s.checkBytes { core := 0, key := 1, level := 0 } 0x2000008480 64 false = none ∧ (s.readBytes 0 0x2000008480 64).length = 64 ∧
      W512.fld (W512.ofBytes (s.readBytes 0 0x2000008480 64)) 24 4 = b ∧ W512.fld (W512.ofBytes (s.readBytes 0 0x2000008480 64)) 28 2 = 7 ∧
      s.failing = false ∧ s.freeContext = some 0 ∧ s.appendOk 1 128 false = true ∧
      s.checkBytes { core := 0, key := 1, level := 0 } 0x2000008500 64 true = none) ∧
    ({ openState 0 with feats := { unsync := 1 } } : State).failing = true ∧ (openState 0).chan 8 = none ∧
    -- MATCH: a fresh dialogue, none, and a remnant; the item's stamp lies before the dialogue's EXPIRY
    someItem.stamp < someDialogue.expiry ∧ someItem.claims.length < 16 ∧ (openState 0).dialogues = [] ∧ (openState 0).remnants = [] ∧
    ({ openState 0 with remnants := [someRemnant] } : State).expiredFor someItem 0 = [(0x200000, 0, 3)] ∧
    -- CLOSE: a claimed dialogue, an unknown handle, an expired one, and a number past 32 bits
    ({ openState 0 with dialogues := [{ someDialogue with state := .claimed 1 5 }] } : State).closable someItem 0x200000 =
      some { someDialogue with state := .claimed 1 5 } ∧
    (openState 0).closable someItem 0x200000 = none ∧ (openState 0).closeExpired someItem 0x200000 = false ∧
    ({ openState 0 with remnants := [someRemnant] } : State).closeExpired someItem 0x200000 = true ∧
    (2 : Nat) ^ 32 ≤ (((openState 0).core 0).rg 1).toNat := by
  refine ⟨fun b hb => ⟨issues_of_check (by revert b; decide +kernel), ?_⟩, by decide +kernel, by decide +kernel, by decide +kernel, by decide +kernel, rfl, rfl,
    by decide +kernel, by decide +kernel, by decide +kernel, by decide +kernel, by decide +kernel, by decide +kernel⟩
  revert b; decide +kernel

/-- A RANDOM block at 0x2000008480 (OUT_LEN 16, OUT in the scratch area); G1 names it, G2 is the tag. -/
def submitState (tag : Nat) (op : Nat) : State :=
  turnState { turnCore [(1, 0x2000008480), (2, BitVec.ofNat 64 tag)] with
    loc := Memory.writeN [] 0x8480 (leBytes 8 op ++ leBytes 8 0 ++ leBytes 8 0 ++ leBytes 8 0 ++ leBytes 4 0 ++ leBytes 4 16 ++ leBytes 8 0x2000008500) }

/-- A core in an EWAIT for tag 0, or for work, with the limit `l`. -/
def ewaitState (mode l : Nat) : State :=
  let k := turnCore [(1, if mode = 0xF010 then 1 else 0x1000000), (2, BitVec.ofNat 64 l)]
  { turnState { k with mode := BitVec.ofNat 64 mode, ewaitFrom := some 0, pc := 0x10000 } with items := [someItem] }

theorem witness_SubmitEwaitYieldTurn :
    (∀ t ∈ [0, 15, 16], let s := submitState t 6
      Issues s s 0 [] (fmtWork s 0 []) ∧ (s.core 0).runningSlot = some 0 ∧ ((s.core 0).rg 2).toNat = t ∧
      s.checkBytes { core := 0, key := 1, level := 0 } 0x2000008480 64 false = none ∧
      s.rangesBad { core := 0, key := 1, level := 0 } 0x2000008480 (W512.ofBytes (s.readBytes 0 0x2000008480 64)) = none) ∧
    blockLegal (W512.ofBytes ((submitState 0 6).readBytes 0 0x2000008480 64)) = true ∧
    blockLegal (W512.ofBytes ((submitState 0 8).readBytes 0 0x2000008480 64)) = false ∧
    -- EWAIT: limit 0, a limit not reached, and none
    (∀ l ∈ [0, 10, 0xFFFFFFFFFFFFFFFF], ∀ m ∈ [0xF010, 0xF001], let s := ewaitState m l
      Issues s s 0 [] (fmtWorkAt 0 []) ∧ (s.core 0).ewaitFrom = some 0 ∧ ((s.core 0).rg 2).toNat = l ∧ s.ewaitMet 0 ((s.core 0).rg 1).toNat = 0) ∧
    -- YIELD: reasons 0, 1, 2 and 3
    (∀ r ∈ [0, 1, 2, 3], let s := turnState (turnCore [(1, BitVec.ofNat 64 r)])
      Issues s s 0 [] (fmtWork s 0 []) ∧ (s.core 0).runningSlot = some 0 ∧ (s.core 0).floats = [] ∧ (s.core 0).trap = none ∧ (s.core 0).muldiv = none) ∧
    -- a slot whose item has ended
    (((turnState (turnCore [])).core 0).slot 0).item.any
      (fun p => (({ turnState (turnCore []) with items := [{ someItem with state := .ended }] } : State).item p.1 p.2).all (fun i => i.state == .ended)) = true ∧
    -- the turn timer of a turn, of a core with none, and raised already
    (let s := turnState (turnCore []); s.coreRuns 0 = true ∧ (s.core 0).mode.toNat % 4 = 0 ∧ (s.core 0).turnRaised = false ∧
      ((s.core 0).slot 0).turnLimit ≠ 0) ∧ (running.core 0).runningSlot = none := by
  refine ⟨fun t ht => ⟨issues_of_check (by revert t; decide +kernel), ?_⟩, by decide +kernel, by decide +kernel,
    fun l hl m hm => ⟨issues_of_check (by revert m; revert l; decide +kernel), ?_⟩,
    fun r hr => ⟨issues_of_check (by revert r; decide +kernel), ?_⟩, by decide +kernel, by decide +kernel, by decide +kernel⟩
  · revert t; decide +kernel
  · revert m; revert l; decide +kernel
  · revert r; decide +kernel

/-- R218: the slot of an item that misses its deadline is ENDED, and the item is kept while the slot holds it. -/
theorem test_missed_slot_ended :
    let t := (turnState (turnCore [])).endItem 1 5 0x0301 0
    ((t.core 0).slot 0).st = .ended ∧ ((t.core 0).slot 0).item = some (1, 5) ∧ t.isHeld someItem = true := by decide +kernel

/-- An END word: SEQUENCE 7 and nothing else. -/
def endWord : BitVec 144 := 0x1C

/-- A part whose customer opcode 5 is one END word, without operands, legal at every level. -/
def customState (ssr : W) : State :=
  { served { machineCore with ssr := ssr } with
    ucode := { id := 0x101, loaded := true, binds := [⟨5, 0, 0, 7, false, 24576⟩], words := [endWord] } }

/-- A core whose routine waits, its next commit `cyc` core cycles away from the last. -/
def waitCore (cyc : Nat) : Core := { machineCore with uwait := some { op := 5, pc := 0x10000, addr := 24576, cyc := cyc } }

theorem witness_CustomerMicrocode :
    (∀ ssr ∈ [0, 0x0105E001, 0x0205E001], Issues (customState (BitVec.ofNat 64 ssr)) (customState (BitVec.ofNat 64 ssr)) 0 []
      (fmtCustomer (customState (BitVec.ofNat 64 ssr)) 0 [] 5 {})) ∧
    -- SSR names the opcode under this image, and under another
    ssrNames ((customState 0x0105E001).core 0) 5 = true ∧ ssrNames ((customState 0x0205E001).core 0) 5 = true ∧ ssrNames machineCore 5 = false ∧
    (customState 0).ubind 5 = some ⟨5, 0, 0, 7, false, 24576⟩ ∧ custMem 0 = false ∧ custMem 0xA = true ∧
    (uSeq endWord = 7 ∧ uMem endWord = 0 ∧ uCnt endWord = 0 ∧ uWait endWord = 0 ∧ uA endWord ≠ 0x12 ∧ uB endWord ≠ 0x12 ∧ uA endWord ≠ 0x17 ∧
      uB endWord ≠ 0x17) ∧ (customState 0).uWord 24576 = endWord ∧ (∀ x ∈ (customState 0).ident.fusedOps, x.op ≠ 5) ∧
    -- a wait that its limit does not reach, one that the watchdog ends, and none
    ((served (waitCore 0)).coreRuns 0 = true ∧ (waitCore 0).uwait ≠ none ∧ machineCore.uwait = none) ∧
    (⟨5, 0, 0, 7, false, 24576⟩ : UBind).limit < 1000000 := by
  refine ⟨fun ssr h => issues_of_check (by revert ssr; decide +kernel), ?_⟩
  decide +kernel

/-- The same part with an error in the first word of the routine. -/
def brokenWord (e : WordErr) : State := (customState 0).modBench 0 (fun b => { b with wordErr := [(24576, e)] })

/-- A routine of that part, as `customerStart` takes it. -/
def endRoutine : UInst := { c := 0, px := [], b := ⟨5, 0, 0, 7, false, 24576⟩, tag := 1, ops := [], imm := 0, next := 0x10002 }

theorem witness_MicrowordErrors :
    tget ((brokenWord .single).bench 0).wordErr 24576 = some .single ∧ tget ((customState 0).bench 0).wordErr 24576 = none ∧
    (let s := brokenWord (.double 1 0);
      Issues s s 0 [] (fmtCustomer s 0 [] 5 {}) ∧ s.ubind 5 = some ⟨5, 0, 0, 7, false, 24576⟩ ∧ ssrNames (s.core 0) 5 = false ∧ s.su.fault = false ∧
      tget (s.bench 0).wordErr 24576 = some (.double 1 0) ∧
      ∃ r, customerStart endRoutine {} none ((s.wordFailed 0 24576).modCore 0 (fun k => { k with uwait := none })) = .ok r) ∧
    -- the third failure in succession, and a word that was good again
    ((brokenWord (.double 1 2)).wordFailed 0 24576).su.fault = true ∧ ((brokenWord (.double 1 1)).wordFailed 0 24576).su.fault = false ∧
    tget ((brokenWord (.double 0 1)).bench 0).wordErr 24576 = some (.double 0 1) :=
  ⟨by decide +kernel, by decide +kernel, ⟨issues_of_check (by decide +kernel), by decide +kernel, by decide +kernel, by decide +kernel,
    by decide +kernel, ⟨_, rfl⟩⟩, by decide +kernel, by decide +kernel, by decide +kernel⟩

/-! ### Witnesses: event controller, engines, ports -/

/-- Source 5 of bench 0 pending at level 3 for every core. -/
def raisedState : State :=
  running.setEvc 0 { srcs := [(5, { level := 3, affinity := 0xFFFFFF, pending := true })] }

theorem witness_EventRegisters :
    -- EVC_RAISE names: below the software sources, the first, the last, and past them
    ([127, 128, 159, 160].map (fun n => decide (128 ≤ n ∧ n ≤ 159)) = [false, true, true, false]) ∧
    srcNamed 0 = true ∧ srcNamed 255 = false ∧ ((running.evc 0).src 200).level = 0 ∧
    (∀ m, ((running.evc 0).src m).pending = false) ∧ (0x878 = 0x800 + 8 * 15) ∧ (0x9B8 = 0x900 + 8 * 23) :=
  ⟨by decide +kernel, by decide +kernel, by decide +kernel, by decide +kernel, fun _ => rfl, rfl, rfl⟩

theorem witness_EventPresentation :
    (let x := (raisedState.evc 0).src 5; x.pending = true ∧ x.level ≠ 0 ∧ x.affinity ≠ 0 ∧
      ((raisedState.evc 0).group 0).until_ ≤ raisedState.time.ns ∧
      -- a core that may take it with room in its queue
      (0 < 24 ∧ x.affinity.getLsbD 0 = true ∧ (raisedState.core 0).run = .active ∧ (raisedState.core 0).esc = false ∧
        (raisedState.core 0).threshold < x.level ∧ (raisedState.core 0).elevel < x.level ∧
        ∀ q ∈ (raisedState.core 0).queue, q.slot ≠ (raisedState.core 0).tail)) ∧
    -- a core at the threshold of the level may not
    ¬((3 : Nat) < 3) := by decide +kernel

/-- An engine command of tag 2 of core 0. -/
def someCmd (op : Nat) : EngCmd := { core := 0, slot := 0, tag := 2, block := 0x2000008480, channel := 7, deadline := 9000, blk := BitVec.ofNat 512 op }

theorem witness_EngineCommands :
    (∀ op ∈ [1, 2, 3, 4, 5, 6, 7], let s := running.modBench 0 (fun b => { b with cipherQ := [someCmd op] });
      s.engineRuns 0 false = true ∧ (s.bench 0).cipherQ ++ (s.bench 0).sigQ = [] ++ someCmd op :: [] ∧ bkOp (someCmd op).blk = op ∧
        ((s.takeCmd (someCmd op)).countDone (someCmd op)).readsPoison (someCmd op) = none) ∧
    (∀ op ∈ [0x10, 0x11], let s := running.modBench 0 (fun b => { b with sigQ := [someCmd op] });
      s.engineRuns 0 true = true ∧ bkOp (someCmd op).blk = op) ∧
    (State.reset).engineRuns 0 false = false ∧
    -- a token and a narrower copy of it
    (let t : Bytes := List.replicate 48 0; tkFormat t = 0) := by decide +kernel

theorem witness_TokensFaultsTamper :
    running.timeRuns = true ∧ State.reset.timeRuns = false ∧ (∀ b, b < 4 → (running.bench b).reseedDue = 0) ∧
    ((running.modBench 1 (fun b => { b with reseedDue := 5 })).bench 1).reseedDue ≠ 0 ∧ running.su.fault = false ∧
    (∀ d ∈ running.ident.deconf, d.1 ≠ PartRef.cipher 3 3) := by decide +kernel

/-- Port 0 of a part in service, its link up; the registers that COMMIT needs are written. -/
def setUpPort : Port :=
  { linkUp := true, inReset := false, busMaster := true, sqBase := 0x40, cqBase := 0x20, ringSize := 0x0C04, sqTailAddr := 8, cqHeadAddr := 8
    doorbellBase := 0x1000, armBase := 0x1000 }

/-- A part in service with that port. -/
def portState (x : Port) : State := running.setPort 0 x

/-- The port once committed. -/
def committedPort : Port := { setUpPort with committed := true }

theorem witness_SetupRegistersAndKicks :
    (portState setUpPort).reaches setUpPort = true ∧ running.reaches (running.port 0) = false ∧
    -- the register offsets at the ends of their ranges and outside them
    ((0x57 < 0x58 ∧ 0x57 % 8 ≠ 0) ∧ (0x58 ≤ 0x58 ∧ 0x58 < 0x1000) ∧ (0x1007 < 0x1008 ∧ 0x1007 ≠ 0x1000) ∧ (0x1008 ≤ 0xFFFF ∧ 0xFFFF < 0x10000) ∧ ¬(0x1008 ≤ 0x1000) ∧ (0x18 ≤ 0x50 ∧ 0x50 < 0x58 ∧ 0x50 % 8 = 0)) ∧
    -- ring sizes 4 and 12, 3 and 13
    (4 ≤ (0x0C04 : W).toNat % 16 ∧ (0x0C04 : W).toNat / 256 % 16 ≤ 12 ∧ ¬(4 ≤ (0x0C03 : W).toNat % 16) ∧ ¬((0x0D04 : W).toNat / 256 % 16 ≤ 12)) ∧
    ((0x0C04 : W) &&& 0xFFFFFFFFFFFFF0F0 = 0 ∧ (0x10 : W) &&& 0xFFFFFFFFFFFFF0F0 ≠ 0) ∧
    -- COMMIT: ready, complete, and with the other port's bases apart
    ((portState setUpPort).su.ready = true ∧ (portState setUpPort).chans = [] ∧ (portState setUpPort).rings = [] ∧
      setUpPort.committed = false ∧ ((portState setUpPort).port 1).committed = false) ∧
    -- kicks: groups 0, 63, the admin ring, 64, and 0x101
    ((0 : Nat) < 64 ∧ (63 : Nat) < 64 ∧ ¬((64 : Nat) < 64 ∨ (64 : Nat) = 0x100) ∧ ¬((0x101 : Nat) < 64 ∨ (0x101 : Nat) = 0x100)) ∧
    ((portState committedPort).polls = true ∧ committedPort.masters = true ∧ committedPort.acur = none ∧ committedPort.aheld = none ∧
      committedPort.adone = none ∧ (committedPort.acqTail - committedPort.acqHead).toNat < committedPort.acqSize ∧
      opcodeAssigned 0x10 = true ∧ opcodeAssigned 0xFF = false ∧ committedPort.asqSize = 16) := by
  decide +kernel

theorem witness_PortLinksAndResets :
    (State.reset.port 0).inReset = true ∧ setUpPort.inReset = false ∧ running.su.sysResetLow = false ∧ running.su.halted = false ∧ running.su.testEn = false ∧
    setUpPort.linkUp = true ∧ (portState setUpPort).reaches ((portState setUpPort).port 0) = true ∧
    (let x : Port := { committedPort with msixEnable := true, unmasked := [0, 527], pbits := [0] };
      x.msixEnable = true ∧ x.msixMask = false ∧ x.masters = true ∧ (portState x).sends = true ∧ 0 ∈ x.pbits ∧ 0 ∈ x.unmasked ∧ (527 : Nat) < 528) ∧
    ({ committedPort with dstate := .d3hot } : Port).dstate ≠ .d0 ∧ committedPort.dstate = .d0 := by decide +kernel

/-! ### Witnesses: admin commands, pairing and the journal -/

/-- An admin entry: the opcode and fields as offset and value. -/
def entryOf (op : Nat) (l : List (Nat × Nat)) : W512 := BitVec.ofNat 512 (l.foldl (fun n p => n + p.2 * 256 ^ p.1) op)

/-- A part that runs item (1, 5), port 0 committed and holding the admin command `e`. -/
def adminState (e : W512) : State := (turnState (turnCore [])).setPort 0 { committedPort with acur := some e }

/-- Entries that pass every check of their command on such a part, and entries that fail one. -/
def goodIdentify : W512 := entryOf 1 [(16, 4096)]
def goodFeature : W512 := entryOf 2 [(24, 10)]

theorem witness_AdminReads :
    (0 < (adminState goodIdentify).pageCount) ∧
    (∀ p ∈ ([(1, [(16, 4096)]), (2, [(24, 10)]), (0x70, [(16, 4096), (40, 1)]), (0x71, [(16, 128), (4, 7)]), (0x72, [(16, 4096), (24, 1)]),
        (0x73, [(16, 64)])] : List (Nat × List (Nat × Nat))), let e := entryOf p.1 p.2;
      ((adminState e).port 0).acur = some e ∧ (adminState e).adminRuns 0 e = true ∧ commonOk e = true) ∧
    (W512.fld goodIdentify 24 2 = 0 ∧ W512.fld (entryOf 1 [(16, 64)]) 16 4 ≠ 4096) ∧
    (W512.fld goodFeature 24 2 = 10 ∧ W512.fld (entryOf 2 [(24, 11)]) 24 2 = 11) ∧
    journalReadFields (entryOf 0x70 [(16, 4096), (40, 1)]) = true ∧ journalReadFields (entryOf 0x70 [(16, 4096)]) = false ∧
    (adminState 0).readStream 1 = (adminState 0).area0 ∧ (adminState 0).readStream 9 = none ∧
    groupIndices 1 = 1 ∧ (adminState 0).elog = [] ∧
    -- the completion rows
    (let x : Port := { committedPort with adone := some ⟨1, 0, 0, 0⟩ }; x.adone = some ⟨1, 0, 0, 0⟩ ∧ (x.acqTail - x.acqHead).toNat < 2 ^ (x.ringSize.toNat / 256 % 16) ∧
      x.masters = true ∧ x.committed = true) ∧
    (adminState 0).su.ready = true ∧ (adminState 0).su.halted = false ∧ (adminState 0).su.flushing = false := by
  refine ⟨?_, by decide +kernel⟩
  unfold State.pageCount; omega

/-- CREATE_CQ of ring 3: base 0x1000, head word 0x2000, 2^6 entries, port 0. -/
def goodRing : W512 := entryOf 0x10 [(4, 3), (24, 0x1000), (32, 0x2000), (40, 6)]

theorem witness_AdminChanges :
    ((adminState goodRing).port 0).acur = some goodRing ∧ (adminState goodRing).adminRuns 0 goodRing = true ∧
    (adminState goodRing).su.fault = false ∧ W512.fld goodRing 0 1 = 0x10 ∧ (adminState goodRing).createCqBad goodRing = none ∧
    (adminState goodRing).createCqBad (entryOf 0x10 [(4, 512)]) = some 0x0602 ∧ (adminState goodRing).homeActs = true ∧
    -- SET_FEATURE and its checks, LOAD_PROGRAM and its places
    (adminState 0).featBad (entryOf 3 [(24, 8), (32, 1)]) = none ∧ (adminState 0).featBad (entryOf 3 [(24, 11)]) = some 0x0602 ∧
    (let e := entryOf 0x20 [(8, 0x4000), (16, 64), (4, 1), (24, 2), (28, 1), (36, 64), (40, 1)];
      (adminState e).loadProgramBad e none = some 0x0107 ∧ (adminState e).placeOk e 0x100000 0x200000 = true ∧
      (adminState e).placeOk e 0x100000 0x100000 = false) ∧
    -- room for the record, a stream that the package acts for, and none
    20 ≤ (adminState 0).freeSpace 1000 ∧ (adminState 0).home = some 1 ∧ (adminState 0).noStream = false ∧ running.noStream = true ∧
    (adminState goodRing).openSlot = adminState goodRing ∧ (adminState goodRing).appendOk 1 128 false = true := by decide +kernel

theorem witness_RingChannelProgramEffects :
    (let s := { adminState 0 with rings := [(3, { port := 0, stream := 1 }), (4, { port := 1, stream := 1 })] };
      s.ring 3 ≠ none ∧ ((s.ring 3).map (fun r => r.port)) = some 0 ∧ (s.port 0).committed = true ∧ (s.port 0).linkUp = true ∧ (s.port 1).committed = false) ∧
    Memory.wf (adminState 0).mem = true ∧ (adminState 0).genOf 3 1 = some someGen ∧ (adminState 0).mayRetire 3 someGen = false ∧
    ({ adminState 0 with items := [], time := { ns := 5 }, progs := [(3, { gens := [{ someGen with switch := some 0 }, { someGen with gen := 2, switch := some 3 }] })] } : State).mayRetire 3
      { someGen with switch := some 0 } = true := by decide +kernel

theorem witness_FeatureTimePowerEffects :
    (∀ n ∈ [1, 2, 3, 4, 5, 6, 7, 8, 9, 10], W512.fld (entryOf 3 [(24, n)]) 24 2 = n) ∧
    (adminState 0).link.pair = 0 ∧ (adminState 0).link.prop = none ∧ (adminState 0).feats.coreClock = 0 ∧
    (W512.fld (entryOf 0x50 [(24, 3)]) 24 1 = 3 ∧ (adminState 0).power.state < 2) ∧
    -- the mask of SET_POWER on an occupied core, a free one and a parked one
    ((turnCore []).run = .active ∧ (turnCore []).occupied = true ∧ machineCore.occupied = false ∧
      ({ machineCore with run := .parked } : Core).run = .parked ∧ (1 : BitVec 96).getLsbD 0 = true ∧ (1 : BitVec 96).getLsbD 95 = false) ∧
    -- a retraining unit that is due exactly now, and one that is not
    (let s : State := { adminState 0 with time := { ns := 100000000 }, bgLast := [(130, 0), (131, 1)] };
      s.unitDue 2 2 ≤ s.time.ns ∧ tget s.bgLast (64 * 2 + 2) = some 0 ∧ ¬ s.unitDue 2 3 ≤ s.time.ns ∧
      (s.keepDue [2]).bgDue = [⟨2, 2, 100000000, 150000000⟩]) := by decide +kernel

theorem witness_KeyTokenMicrocodeEffects :
    (∀ k ∈ [0, 1, 2], W512.fld (entryOf 0x31 [(24, k)]) 24 1 = k) ∧ (∀ k ∈ [0, 1, 2, 4], W512.fld (entryOf 0x32 [(24, k)]) 24 1 = k) ∧
    ((adminState 0).port 0).masters = true ∧ ((adminState 0).port 1).masters = false ∧
    ({ adminState 0 with vault := { sealKeys := [(1, 7)] } } : State).sealKey 1 = some 7 := by decide +kernel

/-- An image of one END word and no binding. -/
def someImage : Bytes :=
  [0x4F, 0x4C, 0x46, 0x55, 0x43, 0x4F, 0x44, 0x45] ++ leBytes 2 1 ++ leBytes 2 0 ++ leBytes 4 7 ++ leBytes 2 0 ++ leBytes 2 1 ++ leBytes 1 0 ++
    List.replicate 3 0 ++ leBytes 4 96 ++ leBytes 4 96 ++ List.replicate 224 0 ++ leBytes 18 0x1C ++ List.replicate 192 0

theorem witness_KeyTokenMicrocodeEffects_image : (imageOf someImage).isSome = true := by decide +kernel

/-- A part paired with a twin, its link up, holding a mirror of stream 9 in area 1. -/
def pairedState (e : W512) : State :=
  { adminState e with
    link := { sub0 := { up := true }, pair := 3, twinSerial := 5 }, area1Used := true
    area1 := some { id := 9, serial := 5, adoption := 1, role := .mirror, nextJsn := 4, rxStaged := 3, logSz := 0x1000000 } }

theorem witness_PairTwinAndAdoption :
    (let e := entryOf 0x60 [(24, 1), (32, 5)]; let s : State := { adminState e with link := { sub0 := { up := true }, twin := { serial := 5 } } };
      (s.port 0).acur = some e ∧ s.adminRuns 0 e = true ∧ s.su.fault = false ∧ s.pairBad e = none ∧ s.joining = false ∧
      (adminState e).pairBad e ≠ none) ∧
    (running.linkUp = false) ∧
    (let e := entryOf 0x61 [(24, 1), (32, 9)]; let s := pairedState e;
      s.adoptBad e = none ∧ s.link.adopting = none ∧ (s.stream 9).isSome = true ∧ s.areaOf 9 = some 1 ∧ s.adoptBad (entryOf 0x61 [(24, 2)]) = some 0x0602 ∧
      s.adoptBad (entryOf 0x61 [(24, 1), (32, 1)]) = some 0x0603 ∧ s.adminRuns 0 e = true) ∧
    -- an adoption after a failure: the link down, 100,000 ns past and not
    (let e := entryOf 0x61 [(32, 9)]; let s : State := { pairedState e with link := { pair := 4, downAt := 0 } };
      ({ s with time := { ns := 100000 } } : State).adoptBad e = none ∧ ({ s with time := { ns := 99999 } } : State).adoptBad e = some 0x0603) := by
  decide +kernel

/-- A frame of type `t` with the payload `p`. -/
def frameOf (t : Nat) (p : Bytes) : Frame := { ftype := BitVec.ofNat 8 t, fseq := 1, ack := 1, payload := p }

theorem witness_FramesReceived :
    (pairedState 0).linkRuns = true ∧ State.reset.linkRuns = false ∧ ((pairedState 0).link.sub 0).up = true ∧ ((pairedState 0).link.sub 1).up = false ∧
    (∀ t ∈ [0, 1, 2, 3, 4, 5, 6, 7], (frameOf t []).good = true ∧ (frameOf t []).ftype.toNat ≤ 9) ∧ bfld (frameOf 8 [5]).payload 0 1 = 5 ∧
    ¬(1 ≤ bfld (frameOf 8 [6]).payload 0 1 ∧ bfld (frameOf 8 [6]).payload 0 1 ≤ 5) ∧
    (pairedState 0).link.txWait = [] ∧ (frameOf 1 []).fseq = (pairedState 0).link.rxNext ∧
    (let l : Link := { unacked := [(0, frameOf 1 [])], txSeq := 2 }; (2 - l.peerAck).toNat ≤ (l.txSeq - l.peerAck).toNat) ∧
    (pairedState 0).actsFor 1 = true ∧ (pairedState 0).link.release = none := by decide +kernel

theorem witness_FrameBytes :
    (frameOf 4 (List.replicate 4096 0)).payload.length = 4096 ∧ (frameOf 0 []).payload.length ≤ 4096 := by decide +kernel

theorem witness_LinkTimersAndSublinks :
    (pairedState 0).linkRuns = true ∧ (pairedState 0).linkUp = true ∧ running.linkUp = false ∧ (pairedState 0).mirrors ≠ [] ∧
    (pairedState 0).mirroring = true ∧ running.mirrors = [] ∧
    ({ pairedState 0 with link := { (pairedState 0).link with pair := 2 } } : State).link.sentDone = false ∧
    (pairedState 0).appendOk 1 128 true = true ∧ ({ pairedState 0 with items := [] } : State).openSlot = { pairedState 0 with items := [] } ∧
    ((pairedState 0).time.source = .pps ∧ (pairedState 0).link.pair = 3) ∧
    (let s : State := { adminState 0 with link := { sub0 := { up := true }, prop := some { mode := 1, twin := 5, own := 8, at_ := 0 } } };
      s.link.pair = 0 ∧ s.linkUp = true ∧ s.confined = true ∧ s.link.rxProp = none) := by decide +kernel

/-- A part whose stream 1 holds one record, of JSN 5. -/
def journalState (x : Stream) : State := { adminState 0 with vault := { working := true }, area0 := some x }

theorem witness_JournalCommands :
    (let st : Stream := { someStream with log := [{ off := 0, record := { jsn := 5, stamp := 1, rtype := 1, itemJsn := 5 } }], head := 64 };
      (journalState st).linkRuns = true ∧ st.role = .primary ∧ st.released = none ∧ (journalState st).appendOk 1 3776 true = true ∧
      (journalState st).power.state ≠ 3 ∧ (journalState st).areaOf 1 = some 0 ∧ (journalState st).mirroring = false ∧
      (journalState st).retired st { jsn := 5, stamp := 1, rtype := 1, itemJsn := 5 } = false ∧
      (journalState st).retired st { jsn := 3, stamp := 1, rtype := 3, itemJsn := 2 } = true ∧
      ¬(st.logSz ≤ st.used + 64 ∨ 0x800000 < st.stagedBytes + 64)) ∧
    (65535 ≤ ({ someStream with sinceSeal := 65535 } : Stream).sinceSeal ∧ someStream.sinceSeal < 65535 ∧ 16384 ≤ ({ someStream with sinceCkpt := 16384 } : Stream).sinceCkpt) ∧
    ({ running with su := { running.su with flushing := true } } : State).su.flushing = true ∧ running.area 1 = none := by decide +kernel

theorem witness_JournalAppend :
    (adminState 0).areaOf 1 = some 0 ∧ (adminState 0).area 0 = some someStream ∧ (adminState 0).areaOf 2 = none ∧
    ({ someStream with heads := List.replicate 8 0 } : Stream).heads.length = 8 ∧
    -- a held append with room for it, and with none
    (let o : Owed := .seal 1;
      let s : State := { adminState 0 with owed := [o] };
      s.holds o.stream = true ∧ s.canAppend o.stream o.size o.exempt = true ∧ s.appendOk o.stream o.size o.exempt = false ∧
        ({ s with area0 := some { someStream with logSz := 64 } } : State).canAppend o.stream o.size o.exempt = false) ∧
    (let r : Record := { jsn := 2 ^ 64 - 1, stamp := 2 ^ 64 - 1, rtype := 255, flags := 255, channel := 65535, itemJsn := 2 ^ 64 - 1, body := [1] };
      r.jsn < 2 ^ 64 ∧ r.rtype < 2 ^ 8 ∧ r.channel < 2 ^ 16 ∧ r.body.length < 2 ^ 32) := by decide +kernel

/-! ### Witnesses: time, background work, power, start-up, management, intake, rings, and the step -/

/-- A part whose time unit is `t`. -/
def timedState (t : TimeUnit) : State := { adminState 0 with time := t }

/-- A time unit in quality LOCKED, ten good edges behind it, the next one due at 11 s. -/
def lockedUnit (ns : Nat) : TimeUnit :=
  { ns := ns, applied := true, good := 10, goods := 10, lastGood := some 10000000000, nextEdge := 11000000000, secMark := 10000000000, quality := 2 }

theorem witness_TimeUnitRows :
    running.timeRuns = true ∧ State.reset.timeRuns = false ∧ ({ inService with su := { inService.su with step := 5 } } : State).timeRuns = false ∧
    -- an armed SET_TIME just ripe, and just lapsing
    ((0 : Nat) + 10000000 ≤ 10000000 ∧ (2000000000 : Nat) ≤ 0 + 2000000000) ∧
    -- an edge: good, an outlier one second after another, and one that comes early
    (let t := lockedUnit 11000000000; t.armed = none ∧ t.jumped = false ∧ t.lastGood = some 10000000000 ∧
      (10000000000 + 1 * 1000000000 ≤ t.ns + 500000000 ∧ t.ns + 500000000 < 10000000000 + 2 * 1000000000) ∧
      ((0 : Int).natAbs * 1000000000 ≤ (timedState t).errorE9 + 1000000000000)) ∧
    (timedState (lockedUnit 11400000000)).errorE9 + 1000000000000 < (400000000 : Int).natAbs * 1000000000 ∧
    ((lockedUnit 10400000000).ns < 10000000000 + 500000000) ∧
    -- quality in all three, and the PPS output high
    (timedState (lockedUnit 11000000000)).judgeQuality ≠ 0 ∧ running.judgeQuality = 0 ∧ running.time.quality = 0 ∧
    ({ lockedUnit 11000000000 with ppsOut := true } : TimeUnit).ppsOut = true ∧
    (timedState (lockedUnit 11000000000)).failing = false := by decide +kernel

/-- A part with a cut-off at 500, a key rollover of slot 4 at 600 and a window of 100 ns at 700, at the ledger time `ns`. -/
def calState (ns : Nat) : State :=
  { timedState { ns := ns } with cal := { cut := [(3, ⟨20260101, 500, 0⟩)], key := [(2, ⟨4, 600, 0⟩)], win := [(1, { duration := 100, instant := 700, period := 0 })] } }

theorem witness_InstantsDeadlinesDialogues :
    tget (calState 0).cal.cut 3 = some ⟨20260101, 500, 0⟩ ∧ tget (calState 0).cal.cut 0 = none ∧ tget (calState 0).cal.key 2 ≠ none ∧
    -- the window: not over, over by one ns, and periodic
    ((699 : Nat) < 700 + 100 ∧ (700 : Nat) + 100 ≤ 800) ∧ (calState 499).dues true = [] ∧ (calState 500).dues false = [(500, .cut 3)] ∧ (calState 600).dues false ≠ [] ∧
    (calState 0).home = some 1 ∧ (calState 0).item 1 5 = some someItem ∧ someItem.state ≠ .ended ∧ (calState 0).chan 7 ≠ none ∧
    (calState 0).vslot 4 = {} ∧ ({ calState 9000 with cal := {} } : State).dues true = [(9000, .miss 1 5)] ∧
    -- a dialogue that may fire: its item ended, and not before
    (let s : State := { calState 5000 with dialogues := [someDialogue], cal := {}, items := [] };
      s.mayFire someDialogue = true ∧ s.failing = false ∧ 20 ≤ s.freeSpace 1000 ∧ s.power.state ≠ 3 ∧ s.openSlot = s ∧ s.appendOk 1 128 false = true) ∧
    ({ calState 5000 with dialogues := [someDialogue], cal := {} } : State).mayFire someDialogue = false ∧
    ({ openState 0 with openWait := [0] } : State).openWait = [0] ∧
    -- a window that MRAM scrubbing is bound to, its unit due and not
    (let s : State := { calState 800 with bg := [(6, { period := 1000, latest := 5000, window := 1 })] };
      s.windowUnits 1 = [(6, 0)] ∧ s.windowUnits 0 = [] ∧ ({ s with bgLast := [(384, 800)] } : State).windowUnits 1 = []) ∧
    -- what a step of time passes over: an instant, a deadline and a dialogue, and what a forward step alone passes
    (let s : State := { calState 9000 with dialogues := [someDialogue], items := [] };
      s.dueDialogue = some someDialogue ∧ (s.dues true).length = 3 ∧ (s.dues false).length = 2) := by decide +kernel

theorem witness_BackgroundAndMemoryFaults :
    running.bgRuns 4 = true ∧ State.reset.bgRuns 4 = false ∧ ({ running with power := { state := 3 } } : State).bgRuns 4 = false ∧
    ({ running with power := { state := 3 } } : State).bgRuns 6 = true ∧ (running.gddrCh 23).retired = false ∧
    ({ running with gddr := [(5, { retired := true })] } : State).gddrCh 5 = { retired := true } ∧
    -- CRC retries 4 and 5, temperature steps of 3 and 4, the third die, the third channel
    (¬((4 : Nat) < 4) ∧ (4 : Nat) < 5) ∧ ((3 : Int).natAbs ≤ 3 ∧ 3 < (4 : Int).natAbs) ∧
    ({ running with mramFailed := [1, 2] } : State).mramFailed.length = 2 ∧ 3 ∉ ({ running with mramFailed := [1, 2] } : State).mramFailed ∧
    (running.gddrCh 0).moving = false ∧ ({ running with gddr := [(5, { moving := true })] } : State).gddrCh 5 = { moving := true } ∧
    (running.core 95).run ≠ .deconfigured ∧ running.spareCore 3 = true := by decide +kernel

theorem witness_PowerThermalClocks :
    running.su.step ≠ 0 ∧ running.therm.warning = false ∧ running.therm.tripped = false ∧ (125 : Int) ≤ 125 ∧ ¬((125 : Int) ≤ 124) ∧
    ({ running with therm := { warning := true, temps := [100] } } : State).therm.temps = [100] ∧
    running.su.clkTimeLost = false ∧ (turnCore []).parkFrom = none ∧ ({ turnCore [] with parkFrom := some 5 } : Core).parkFrom = some 5 ∧
    -- a wake from P2: an item ready and the core parked
    (let s : State := { takeState 0 with power := { state := 2 }, cores := [(0, { machineCore with run := .parked })] };
      s.readyOn 0 ≠ [] ∧ (s.core 0).run = .parked ∧ s.timeRuns = true) ∧
    ({ running with power := { target := some 3, state := 2 } } : State).power.target = some 3 ∧
    ({ running with power := { fwSwitch := some 0 }, ident := { fwStaged := some ⟨2, 1, true⟩ } } : State).ident.fwStaged ≠ none := by decide +kernel

theorem witness_ResetsAndStartUp :
    running.su.fault = false ∧ running.su.sysResetLow = false ∧ State.reset.su.sysResetLow = true ∧ State.reset.su.flushing = false ∧
    State.reset.su.pwrFailLow = false ∧ State.reset.therm.tripped = false ∧ State.reset.su.fault = false ∧ State.reset.bestSlot = some 0 ∧
    ({ ident := { fwSlots := [] } } : State).bestSlot = none ∧ State.reset.ident.deconf = [] ∧ State.reset.su.extKept = false ∧
    -- held commands: one with a record, and one without
    (let h (jsn : Nat) : AdminHeld := ⟨.createCq 0, 0, 1, jsn⟩;
      (portState { committedPort with aheld := some (h 5) }).heldRecords = [h 5] ∧
      (portState { committedPort with aheld := some (h 0) }).heldRecords = []) ∧
    (let b : BootFacts := {}; b.romOk = true ∧ b.flashOk = true ∧ b.identityOk = true ∧ b.tamperLow = false ∧ b.trainFail = [] ∧ b.mramLost = [] ∧
      b.selfTestFail = [] ∧ b.recordBad = false ∧ b.testEn = false) ∧
    (running.vslot 3).st ≠ .loaded ∧ ({ running with vault := { slots := [(3, { st := .loaded })] } } : State).vslot 3 = { st := .loaded } ∧
    (14 < 15 ∧ ¬(15 < 15)) := by decide +kernel

theorem witness_ManagementAndJtag :
    running.mgmtRuns = true ∧ State.reset.mgmtRuns = false ∧ running.elog = [] ∧ (running.logErr 2 9 0xFFFF 0).elog ≠ [] ∧
    ({ running with alert := 1 } : State).alert ≠ 0 := by decide +kernel

/-- A part whose channel 7 has a descriptor to fetch: the doorbell one past the consumed index, ring 2 on port 0. -/
def intakeState (x : Channel) : State :=
  { adminState 0 with
    chans := [(7, { x with stream := 1, program := 3, cq := 2, sqLog2 := 4, doorbell := 1 })]
    rings := [(2, { stream := 1, log2 := 4 })], groups := [(0, { live := true })] }

/-- A MSG_IN of 64 bytes in a buffer of 64, its DEADLINE 9,000. -/
def someMsg : W512 := entryOf 1 [(4, 64), (16, 64), (24, 9000)]

theorem witness_IntakeCommands :
    (let s := intakeState {}; s.polls = true ∧ (s.group 0).live = true ∧ s.groupChans 0 ≠ [] ∧ (s.group 1).live = false ∧
      (s.chan 7).any (fun x => s.fetches x) = true ∧ s.groupPorts 0 = [0]) ∧
    -- a doorbell one queue ahead, and one more
    (¬((2 : Nat) ^ 4 < ((16 : BitVec 32) - 0).toNat) ∧ (2 : Nat) ^ 4 < ((17 : BitVec 32) - 0).toNat) ∧
    -- the checks of MSG_IN in order, on both sides of each
    (W512.fld someMsg 0 1 = 1 ∧ W512.fld someMsg 2 2 = 0 ∧ W512.fld someMsg 4 3 = 64 ∧ W512.fld someMsg 16 4 = 64 ∧
      W512.fld (entryOf 1 [(4, 65), (16, 64)]) 16 4 < W512.fld (entryOf 1 [(4, 65), (16, 64)]) 4 3) ∧
    (W512.fld (entryOf 2 [(4, 262144)]) 4 4 = 262144 ∧ W512.fld (entryOf 3 [(1, 4)]) 1 1 = 4 ∧ W512.fld (entryOf 3 [(1, 5)]) 1 1 = 5) ∧
    -- an acceptance that completes
    (let s : State := { intakeState { cur := some ⟨someMsg, 0, 1, true⟩ } with progs := [(3, { gens := [{ someGen with switch := some 0 }] })], items := [] };
      (s.chan 7).any (fun x => s.accepts x) = true ∧ s.openSlot = s ∧ (s.genAt 3 0).isSome = true ∧ s.windowFits 0x1000001000 1 1 = true ∧
      s.appendOk 1 192 false = true ∧ s.failing = false ∧ s.time.ns < 9000 ∧ Memory.wf s.mem = true ∧ s.areaOf 1 = some 0) ∧
    (PoolReq.msg 7 1).part = (7, 1) ∧ (intakeState {}).poolWait = [] ∧ (intakeState {}).mayArm 0 = true ∧
    -- turns: the first, one more descriptor, the ninth with another channel waiting, and with none
    (intakeState {}).turnFor 7 = some ⟨some (7, 1), [7]⟩ ∧
    ({ intakeState {} with rotation := ⟨some (7, 7), [7]⟩ } : State).turnFor 7 = some ⟨some (7, 8), [7]⟩ ∧
    ({ intakeState {} with rotation := ⟨some (7, 8), [7]⟩ } : State).turnFor 7 = some ⟨some (7, 1), [7]⟩ ∧
    (let s := intakeState {};
      let two : State := { s with chans := s.chans ++ s.chans.map (fun c => (8, c.2)), rotation := ⟨some (7, 8), [7]⟩ };
      two.turnFor 7 = none ∧ two.turnFor 8 = some ⟨some (8, 1), [8, 7]⟩) ∧
    -- a message to be put back into the pool, in the line, and charged with a window free
    (let i : Item := { someItem with state := .accepted, granules := 0 };
      i.unplaced = true ∧ ({ i with paid := 1 } : Item).paid ≠ 0 ∧
      PoolReq.rerun 1 5 7 1 ∈ ({ intakeState {} with poolWait := [.rerun 1 5 7 1] } : State).poolWait ∧
      ({ intakeState {} with windows := [] } : State).lowestWindow 1 1 = some 0x1000000000) ∧
    -- physical granules: bench 2 has the fewest items, with a slice that suffices and one that has a single granule left
    (let busy (b : Nat) : Item := { someItem with bench := b };
      let s : State := { intakeState {} with items := [busy 0, busy 1, busy 3], windows := [] };
      (∀ e, e < 4 → e ≠ 2 → s.benchLoad 2 < s.benchLoad e) ∧ s.takeSlices 4 = [0, 0, 4, 0] ∧ s.sliceFree 2 = 163840 ∧
      ({ s with windows := [(0x1000000000, ⟨1, 7, [0, 0, 163839, 0]⟩)] } : State).takeSlices 4 = [3, 0, 1, 0]) := by decide +kernel

/-- An INTAKE_REJECT waiting on ring 2. -/
def ringState (e : CEntry) : State :=
  { intakeState {} with rings := [(2, { stream := 1, log2 := 4, queue := [e], irq := true, holdoff := 32, count := 32 })] }

theorem witness_PostingHeadWordsRecovery :
    (let e : CEntry := { kind := 1, status := 0x0101, channel := 7, jsn := 0, body := 0 }; let s := ringState e;
      (s.ring 2).any (fun r => s.mayPost r) = true ∧ (s.port 0).masters = true ∧ (s.port 0).committed = true ∧ e.needsBuffer = false ∧ s.actsFor 1 = true ∧
      s.power.quiesced = false) ∧
    -- a full ring and one with a single place; a head word at the posted count and past it
    (¬((16 : BitVec 32) - 0).toNat < 2 ^ 4 ∧ ((15 : BitVec 32) - 0).toNat < 2 ^ 4) ∧
    (((15 : BitVec 32) - 0).toNat ≤ ((15 : BitVec 32) - 0).toNat ∧ ¬((16 : BitVec 32) - 0).toNat ≤ ((15 : BitVec 32) - 0).toNat) ∧
    -- replays in turn and out of it: an item with a message not posted, and with all of them posted
    (let m (posted : Bool) : Emit := { idx := 0, ch := 7, jsn := 6, len := 64, win := 0, granules := 0, posted := posted };
      let s (posted : Bool) : State := { adminState 0 with items := [{ someItem with state := .ended, emits := [m posted] }] };
      let e : CEntry := { kind := 1, status := 1, channel := 7, jsn := 8, body := 0, item := some (1, 5) };
      (s false).inTurn e = false ∧ (s true).inTurn e = true ∧ (s false).inTurn { e with kind := 2, jsn := 6 } = true ∧
        (s false).inTurn { e with item := none } = true) ∧
    -- rings that an adoption recovers: with entries made from the records, and with none
    ((0 : Nat) ≤ ({ stream := 1 } : Ring).fromLog ∧ (1 : Nat) ≤ ({ stream := 1, fromLog := 1 } : Ring).fromLog) := by decide +kernel

theorem witness_StepRunsFrontCommand :
    ({ running with pending := [.jtagIdcode] } : State).pending = [.jtagIdcode] ∧ running.pending = [] ∧ running.timeRuns = true :=
  ⟨rfl, rfl, by decide +kernel⟩

theorem witness_CommandsStopOnlyOnAbsentUnits :
    (Instr.identify 1 true).units.all UnitRef.ok = true ∧ (Instr.identify 2 true).units.all UnitRef.ok = false := by decide +kernel

theorem witness_InvariantsOverSteps :
    Memory.wf State.reset.mem = true ∧ Memory.wf (withMem running 0x2000 [1, 0, 2]).mem = true ∧
    (∃ t, step ({ running with pending := [.pwrFail] } : State) = .next t) ∧ (∃ t, exec .pwrFail running = .next t) :=
  ⟨by decide +kernel, by decide +kernel, ⟨_, rfl⟩, ⟨_, rfl⟩⟩

/-! ### Ill-formed commands -/

/-- One ill-formed command for each check of `Instr.wf`; each is refused, and the well-formed command beside it is not. -/
theorem test_wellformed_units :
    (Instr.identify 2 true).wf = false ∧ (Instr.identify 1 true).wf = true ∧ (Instr.iNop 96 []).wf = false ∧ (Instr.iNop 95 []).wf = true ∧
    (Instr.macGen 4).wf = false ∧ (Instr.p2BenchWake 1 23).wf = false ∧ (Instr.p2BenchWake 1 24).wf = true ∧ (Instr.descriptorReadFault 4096).wf = false ∧
    (Instr.completionPost 512).wf = false ∧ (Instr.doorbellPoll 64 ⟨none, none⟩).wf = false ∧ (Instr.sublinkTrained 2).wf = false ∧
    (Instr.checkpoint 2).wf = false ∧ (Instr.refresh 24 []).wf = false ∧ (Instr.sramScrub 5 0 .none []).wf = false := by decide +kernel

theorem test_wellformed_more_units :
    (Instr.mramDieFail 18).wf = false ∧ (Instr.engineFault 0 (.signature 32)).wf = false ∧ (Instr.engineFault 0 (.cipher 4)).wf = false ∧
    (Instr.engineFault 0 (.cipher 3)).wf = true ∧ (Instr.railUndervoltage 15).wf = false ∧ (Instr.entropyHealthFail 2).wf = false ∧
    (Instr.evcTurnRestart 0 24 0).wf = false ∧ (Instr.iCustomer 0 [] 4096 {} none).wf = false := by decide +kernel

theorem test_wellformed_contents :
    (Instr.doorbellPoll 0 ⟨some [0], none⟩).wf = false ∧ (Instr.doorbellPoll 0 ⟨some (List.replicate 64 0), none⟩).wf = true ∧
    (Instr.ackFrame 0 (frameOf 4 (List.replicate 4097 0))).wf = false ∧ (Instr.ackFrame 0 (frameOf 4 (List.replicate 4096 0))).wf = true := by
  decide +kernel

/-! ### Worked examples of the manual -/

/-- What core 0 holds after a command, by a function of it; `dflt` where the command stops. -/
def coreAfter {α : Type} (i : Instr) (s : State) (f : State → Core → α) (dflt : α) : α :=
  match exec i s with
  | .next t => f t (t.core 0)
  | _ => dflt

/-- Example after R305: address unit 1 over a table of 8 entries, at the given INDEX. -/
def auState (length index : W) : State :=
  served { machineCore with
    mode := 0xF001, aus := machineCore.aus.setIfInBounds 1 { base := 0x240000000, length := length, index := index, step := 4, mode := 0xE } }

/-- Source: the example of 08_ledger_core_model after R305: the offsets 0x00, 0x20, 0x10 and 0x38 of the executions read in bit-reversed order. -/
theorem test_bit_reversed_table :
    memEa ((auState 8 0).core 0) [.au 1] ⟨5, 0, 0, 0⟩ 0x10006 = .ok (0x240000000, some 1) ∧
    coreAfter (.iLdD 0 [.au 1] ⟨5, 0, 0, 0⟩ false) (auState 8 0) (fun _ k => (k.au 1).index) 0 = 4 ∧
    memEa ((auState 8 4).core 0) [.au 1] ⟨5, 0, 0, 0⟩ 0x10006 = .ok (0x240000020, some 1) ∧
    coreAfter (.iLdD 0 [.au 1] ⟨5, 0, 0, 0⟩ false) (auState 8 4) (fun _ k => (k.au 1).index) 0 = 2 ∧
    coreAfter (.iLdD 0 [.au 1] ⟨5, 0, 0, 0⟩ false) (auState 8 7) (fun _ k => (k.au 1).index) 9 = 0 :=
  ⟨rfl, by decide +kernel, rfl, by decide +kernel, by decide +kernel⟩

/-- Source: the same example: with LENGTH 6 vector 12 is raised. -/
theorem test_bit_reversed_length : ∃ e, memEa ((auState 6 0).core 0) [.au 1] ⟨5, 0, 0, 0⟩ 0x10006 = .error e ∧ e.vec = 12 := ⟨_, rfl, rfl⟩

/-- Source: the example of 09_binary_instructions after R335: LOOPI 0x10, 8 at 0x2_0000_0100. -/
theorem test_loopi :
    coreAfter (.iLoopi 0 [] 0x10 8) (served { machineCore with pc := 0x200000100 })
      (fun _ k => ((k.lvl 0).ls, (k.lvl 0).le, (k.lvl 0).lc, k.pc)) (0, 0, 0, 0) = (0x200000107, 0x20000010F, 16, 0x200000107) := by decide +kernel

/-- Source: the same example: AND, the last instruction of the body, with LC at 2 and at 1. -/
theorem test_loop_end :
    let s (lc : BitVec 32) : State := served ({ machineCore with pc := 0x20000010B }.wl 0 { ls := 0x200000107, le := 0x20000010F, lc := lc, lf := 1 })
    coreAfter (.iAnd 0 [] 7 7 8) (s 2) (fun _ k => ((k.lvl 0).lc, k.pc)) (0, 0) = (1, 0x200000107) ∧
    coreAfter (.iAnd 0 [] 7 7 8) (s 1) (fun _ k => ((k.lvl 0).lf, k.pc)) (9, 0) = (0, 0x20000010F) := by decide +kernel

/-- The bitmap 70 20 00 00 00 00 00 01 at 0x10_0002_3404 in a window of 2 granules, BASEB there, G1 and G2 as given. -/
def bitmapState (a n : Nat) : State :=
  withMem { served { machineCore with
    baseb := 0x1000023404, g := (machineCore.g.setIfInBounds 1 (BitVec.ofNat 64 a)).setIfInBounds 2 (BitVec.ofNat 64 n) } with
      windows := [(0x1000023400, ⟨2, 7, [2, 0, 0, 0]⟩)] }
    0x1000023404 [0x70, 0x20, 0, 0, 0, 0, 0, 1]

/-- Source: the example of 09_binary_instructions after R340: the fields found from f = 1, 5 and 12. -/
theorem test_bitmap_walk :
    coreAfter (.iBffs 0 [] 3 1 2) (bitmapState 65543 64) (fun _ k => (k.rg 3, k.fZ)) (99, true) = (1, false) ∧
    coreAfter (.iBffs 0 [] 3 1 2) (bitmapState 65539 60) (fun _ k => (k.rg 3, k.fZ)) (99, true) = (6, false) ∧
    coreAfter (.iBffs 0 [] 3 1 2) (bitmapState 65548 53) (fun _ k => (k.rg 3, k.fZ)) (99, true) = (52, false) := by decide +kernel

/-- Source: the example of 10_decimal_and_string_instructions after R361: -1,234,567 in a packed field of 9 digits. -/
theorem test_dld :
    coreAfter (.iDld 0 [.dlen 9] ⟨3, 0x80, 0, 0x2000⟩ false) (withMem running 0x2000 [0x00, 0x12, 0x34, 0x56, 0x7D])
      (fun _ k => (k.rd 3, k.fN)) (0, false) = (0x1234567D, true) := by decide +kernel

/-- Source: the example after R374: 0x99 and 0x99 with C 1. -/
theorem test_adc_dadj :
    coreAfter (.iAdc 0 [] 7 5 6) (served { machineCore with fl := 1, g := (machineCore.g.setIfInBounds 5 0x99).setIfInBounds 6 0x99 })
      (fun _ k => (k.rg 7, k.fH)) (0, false) = (0x133, true) ∧
    coreAfter (.iDadj 0 [] 7 7) (served { machineCore with fl := 0x10, g := machineCore.g.setIfInBounds 7 0x133 })
      (fun _ k => (k.rg 7, k.fC)) (0, false) = (0x99, true) := by decide +kernel

/-- The edit of the example after R391: DR3, the pattern at 0x1_8000_0400, G5 and G6, and SSR. -/
def exampleEdit (g5 g6 ssr : W) (loc : List Host.Cell) : State :=
  withMem (served { machineCore with
    dr := machineCore.dr.setIfInBounds 3 0x1234567D, g := (machineCore.g.setIfInBounds 5 g5).setIfInBounds 6 g6, ssr := ssr, loc := loc })
    0x180000400 [0x09, 0x05, 0x24, 0x01, 0x2C, 0x01, 0x01, 0x01, 0x2C, 0x01, 0x01, 0x02, 0x2E, 0x01, 0x01, 0x04, 0x20, 0x2D, 0x00]

/-- Source: step 8 of the example after R391: an event after the sixth unit. -/
theorem test_sedt_stopped :
    coreAfter (.iSedt 0 [] 5 6 3 (some 6)) (exampleEdit 0x200000E700 0x180000400 0 []) (fun _ k => (k.rg 5, k.rg 6, k.ssr)) (0, 0, 0) =
      (0x200000E706, 0x180000408, 0x0008242000E5A501) := by decide +kernel

/-- Source: steps 11 to 14 of the same example: the edit resumed reads "   $12,345.67-" in the end, with N 1 and SSR 0. -/
theorem test_sedt_resumed :
    coreAfter (.iSedt 0 [] 5 6 3 none)
      (exampleEdit 0x200000E706 0x180000408 0x0008242000E5A501 (Memory.writeN [] 0xE700 [0x20, 0x20, 0x20, 0x24, 0x31, 0x32]))
      (fun t k => (t.readBytes 0 0x200000E700 14, k.rg 5, k.rg 6, k.ssr, k.fN, k.fZ)) ([], 0, 0, 1, false, true) =
      ([0x20, 0x20, 0x20, 0x24, 0x31, 0x32, 0x2C, 0x33, 0x34, 0x35, 0x2E, 0x36, 0x37, 0x2D], 0x200000E70E, 0x180000413, 0, true, false) := by
  decide +kernel

/-- Source: the table after R325: LOCK LEA is refused with the cause for prefix misuse. -/
theorem test_lock_lea :
    (running.decodeCheck 0 [.lock] (fmtM 0x17 [.lock] ⟨1, 0x35, 0, 0x40⟩)).1 = some { vec := 1, cause := 1 } ∧
    pxLen [.lock] + (fmtM 0x17 [.lock] ⟨1, 0x35, 0, 0x40⟩).len = 6 := by decide +kernel

/-- Source: the example of 02_host_attachment: 0x060D in ADMIN_RING_SIZE is refused, and SETUP_STATUS reads 0x0001_0700_0028_0205. -/
theorem test_ring_size_refused :
    (match exec (.setupRegisterWrite 0 0x28 8 0x60D) (running.setPort 0 { linkUp := true, inReset := false }) with
      | .next t => (t.setupStatus 0, (t.port 0).ringSize, (t.port 0).pbits)
      | _ => (0, 1, [])) = (0x0001070000280205, 0, [519]) := by decide +kernel

/-- Source: the example after R111: entry 77,823 of a ring of 1,024 lies in slot 1,023 with phase 0, and 77,824 in slot 0 with phase 1. -/
theorem test_posting_phase :
    let e : CEntry := { kind := 2, status := 0x0106, channel := 3017, jsn := 0xB39C08477, body := 0 }
    let wrote (n : BitVec 32) : Option (W × Bytes) :=
      match ((({ adminState 0 with rings := [(47, { stream := 1, log2 := 10, addr := 0x100000, posted := n })] } : State).putEntry 47 e).out).head? with
      | some (.hostWrite _ a bs _) => some (a, bs.take 4)
      | _ => none
    wrote 77823 = some (0x107FE0, [2, 0, 0x06, 0x01]) ∧ wrote 77824 = some (0x100000, [2, 1, 0x06, 0x01]) := by decide +kernel

/-- Source: R525: IDCODE is 0x1960_0A3F. -/
theorem test_idcode : (match exec .jtagIdcode State.reset with | .next t => t.out | _ => []) = [.jtag 1 (some 0x19600A3F)] := by decide +kernel

end Sys2Proof.Tests
end

section
/-!
PROOFS. BAR0 writes in the order of R56, SETUP_STATUS, set-up commit and kicks.
-/

namespace Sys2Proof.Machine

/-! ### Bit fields -/

theorem nbits_eq_div_mod (x lo len : Nat) : nbits x lo len = x / 2 ^ lo % 2 ^ len := by
  rw [nbits, Nat.shiftRight_eq_div_pow]

/-- A legal ring size, as the comparisons that the statements spell out. -/
theorem legalLog2_eq_true (n : Nat) : legalLog2 n = true ↔ 4 ≤ n ∧ n ≤ 12 := by simp [legalLog2]

/-- The bits of a word above bit 0 are all 0 exactly where the word is 0 or 1. -/
theorem and_allButBitZero_eq_zero (v : W) : v &&& 0xFFFFFFFFFFFFFFFE = 0 ↔ v.toNat < 2 := by
  have hmask : (0xFFFFFFFFFFFFFFFE : W) = BitVec.allOnes 64 <<< 1 := by decide
  rw [hmask, ← BitVec.shiftLeft_ushiftRight, ← BitVec.toNat_inj]
  have := v.isLt
  simp only [BitVec.toNat_shiftLeft, BitVec.toNat_ushiftRight, Nat.shiftRight_eq_div_pow, Nat.shiftLeft_eq]
  change v.toNat / 2 * 2 % 2 ^ 64 = 0 ↔ v.toNat < 2
  omega

/-- The value a KICK carries, as a number (R56). -/
theorem toNat_kickValue (size : Nat) (v : W) :
    (kickValue size v).toNat = if size = 4 then v.toNat % 2 ^ 32 else v.toNat := by
  unfold kickValue
  split
  · rw [BitVec.toNat_and]
    exact Nat.and_two_pow_sub_one_eq_mod v.toNat 32
  · rfl

/-! ### Ports and groups -/

theorem State.port_setPort_same (s : State) {p : Nat} (x : Port) (hp : p < 2) : (s.setPort p x).port p = x := by
  rw [State.port_setPort s p p x hp, if_pos rfl]

/-- A port replaced twice is as it was replaced last. -/
theorem State.setPort_setPort (s : State) (p : Nat) (x y : Port) : (s.setPort p x).setPort p y = s.setPort p y := by
  have hv : (s.ports.setIfInBounds p x).setIfInBounds p y = s.ports.setIfInBounds p y := by
    apply Vector.toArray_inj.1
    simp
  simp only [State.setPort, hv]

theorem State.modPort_eq_setPort (s : State) (p : Nat) (f : Port → Port) : s.modPort p f = s.setPort p (f (s.port p)) := rfl

theorem State.group_modGroup (s : State) (g : Nat) (f : Group → Group) : (s.modGroup g f).group g = f (s.group g) := by
  simp [State.group, State.modGroup, tget_tset_same]

theorem State.group_modGroup_ne (s : State) {g h : Nat} (f : Group → Group) (hne : h ≠ g) :
    (s.modGroup g f).group h = s.group h := by
  simp [State.group, State.modGroup, tget_tset_ne _ _ _ _ hne]

/-- Writing an arm word changes the outputs alone. -/
theorem State.writeArm_out_only (s : State) (g p : Nat) (armed : Bool) :
    ∃ out, s.writeArm g p armed = { s with out := out } := by
  unfold State.writeArm
  dsimp only
  split
  · exact ⟨_, rfl⟩
  · exact ⟨s.out, rfl⟩

/-- A group changed and its arm word written: only the groups and the outputs change. -/
theorem State.writeArm_modGroup (s : State) (g p : Nat) (armed : Bool) (f : Group → Group) :
    ∃ groups out, (s.modGroup g f).writeArm g p armed = { s with groups := groups, out := out } := by
  obtain ⟨out, h⟩ := (s.modGroup g f).writeArm_out_only g p armed
  exact ⟨_, out, h⟩

@[simp] theorem State.writeArm_group (s : State) (g p h : Nat) (armed : Bool) :
    (s.writeArm g p armed).group h = s.group h := by
  obtain ⟨out, e⟩ := s.writeArm_out_only g p armed
  rw [e]; rfl

/-- Groups changed one after another, each with its arm word written: those of the list change, and no other. -/
theorem State.group_foldl_modGroup (l : List Nat) (f : Group → Group) (p : Nat) (hl : l.Nodup) (s : State) (h : Nat) :
    (l.foldl (fun t g => (t.modGroup g f).writeArm g p false) s).group h = if h ∈ l then f (s.group h) else s.group h := by
  induction l generalizing s with
  | nil => simp
  | cons g l ih =>
    obtain ⟨hg, hl⟩ := List.nodup_cons.1 hl
    rw [List.foldl_cons, ih hl, State.writeArm_group]
    by_cases hgh : h = g
    · subst hgh
      simp [hg, State.group_modGroup]
    · simp [hgh, State.group_modGroup_ne _ _ hgh]

/-- At the first commit every group becomes live with ARMED 0 (R85). -/
theorem State.group_allLive (s : State) (p : Nat) {g : Nat} (hg : g < 64) :
    (s.allLive p).group g = { s.group g with live := true, armed := false, lastChange := s.time.ns } := by
  rw [State.allLive, State.group_foldl_modGroup _ _ _ List.nodup_range, if_pos (List.mem_range.2 hg)]

/-- Making every group live changes the groups and the outputs alone. -/
theorem State.allLive_frame {α : Type} (get : State → α)
    (hget : ∀ (t : State) groups out, get { t with groups := groups, out := out } = get t) (s : State) (p : Nat) :
    get (s.allLive p) = get s := by
  refine List.foldlRecOn (motive := fun t => get t = get s) _ _ rfl fun t ht g _ => ?_
  obtain ⟨groups, out, h⟩ := t.writeArm_modGroup g p false
    (fun x => { x with live := true, armed := false, lastChange := s.time.ns })
  exact (congrArg get h).trans ((hget t groups out).trans ht)

@[simp] theorem State.allLive_mem (s : State) (p : Nat) : (s.allLive p).mem = s.mem :=
  State.allLive_frame State.mem (fun _ _ _ => rfl) s p
@[simp] theorem State.allLive_chans (s : State) (p : Nat) : (s.allLive p).chans = s.chans :=
  State.allLive_frame State.chans (fun _ _ _ => rfl) s p
@[simp] theorem State.allLive_rings (s : State) (p : Nat) : (s.allLive p).rings = s.rings :=
  State.allLive_frame State.rings (fun _ _ _ => rfl) s p

/-! ### A command on a port (R42, R54) -/

theorem exec_setupRegisterWrite (p off size : Nat) (v : W) (s : State) :
    exec (.setupRegisterWrite p off size v) s = execSetupRegisterWrite p off size v s := rfl
theorem exec_setupStatusClear (p size : Nat) (v : W) (s : State) :
    exec (.setupStatusClear p size v) s = execSetupStatusClear p size v s := rfl
theorem exec_setupCommit (p size : Nat) (v : W) (heads : List (Nat × Option W)) (s : State) :
    exec (.setupCommit p size v heads) s = execSetupCommit p size v heads s := rfl
theorem exec_kickDoorbellGroup (p size : Nat) (v : W) (rd : GroupRead) (s : State) :
    exec (.kickDoorbellGroup p size v rd) s = execKickDoorbellGroup p size v rd s := rfl
theorem exec_kickAdminRing (p size : Nat) (v : W) (tail : Option W) (entry : Option W512) (s : State) :
    exec (.kickAdminRing p size v tail entry) s = execKickAdminRing p size v tail entry s := rfl

theorem onPort_of_lt {p : Nat} (hp : p < 2) (s : State) (f : State → Port → State) :
    onPort p s f = .next (f s (s.port p)) := if_pos hp

theorem onPort_of_le {p : Nat} (hp : 2 ≤ p) (s : State) (f : State → Port → State) :
    onPort p s f = .fault .noSuchUnit := if_neg (Nat.not_lt.2 hp)

theorem onBar_of_reaches {p : Nat} {s : State} (hp : p < 2) (hr : s.reaches (s.port p) = true)
    (f : State → Port → State) : onBar p s f = .next (f s (s.port p)) := by
  rw [onBar, onPort_of_lt hp, if_pos hr]

theorem onBar_of_not_reaches {p : Nat} {s : State} (hp : p < 2) (hr : s.reaches (s.port p) = false)
    (f : State → Port → State) : onBar p s f = .next s := by
  rw [onBar, onPort_of_lt hp, hr, if_neg Bool.false_ne_true]

theorem onBar_of_le {p : Nat} (hp : 2 ≤ p) (s : State) (f : State → Port → State) :
    onBar p s f = .fault .noSuchUnit := onPort_of_le hp s _

/-! ### Refusal (R15, R56) -/

/-- Signalling a vector changes, of its port, the pending bits alone (R53). -/
theorem State.port_msix (s : State) {p : Nat} (vec : Nat) (hp : p < 2) :
    ∃ bits, (s.msix p vec).port p = { s.port p with pbits := bits } := by
  unfold State.msix
  dsimp only
  split
  · exact ⟨(s.port p).pbits, rfl⟩
  · exact ⟨_, State.port_setPort_same s _ hp⟩

@[simp] theorem State.msix_mem (s : State) (p vec : Nat) : (s.msix p vec).mem = s.mem := by
  unfold State.msix
  dsimp only
  split <;> rfl

/-- The port of a refused write holds the refusal; of the rest only the pending bits may change. -/
theorem State.port_refuse (s : State) {p : Nat} (off reason : Nat) (hp : p < 2) :
    ∃ bits, (s.refuse p off reason).port p = { s.port p with
      refused := true, reason := reason, refOffset := off
      refuseCount := min 65535 ((s.port p).refuseCount + 1), pbits := bits } := by
  unfold State.refuse
  dsimp only
  split
  · exact ⟨(s.port p).pbits, State.port_setPort_same s _ hp⟩
  · obtain ⟨bits, h⟩ := State.port_msix (s.setPort p { s.port p with
      refused := true, reason := reason, refOffset := off
      refuseCount := min 65535 ((s.port p).refuseCount + 1) }) 519 hp
    exact ⟨bits, by rw [h, State.port_setPort_same s _ hp]⟩

@[simp] theorem State.refuse_mem (s : State) (p off reason : Nat) : (s.refuse p off reason).mem = s.mem := by
  unfold State.refuse
  dsimp only
  split
  · rfl
  · rw [State.msix_mem]; rfl

/-- A refusal where REFUSED stands already signals nothing. -/
theorem State.refuse_of_refused (s : State) (p off reason : Nat) (h : (s.port p).refused = true) :
    s.refuse p off reason = s.setPort p { s.port p with
      reason := reason, refOffset := off, refuseCount := min 65535 ((s.port p).refuseCount + 1) } := by
  unfold State.refuse
  dsimp only
  rw [if_pos h]
  congr 2
  exact h.symm

/-! ### Set-up registers (R56) -/

theorem exec_setupRegisterWrite_of_reaches {s : State} {p : Nat} (hp : p < 2) (hr : s.reaches (s.port p) = true)
    (off size : Nat) (v : W) :
    exec (.setupRegisterWrite p off size v) s = .next (s.writeSetup p off size v (s.port p)) :=
  (exec_setupRegisterWrite p off size v s).trans (onBar_of_reaches hp hr _)

theorem unmapped_eq_true (off : Nat) : unmapped off = true ↔
    (0x58 ≤ off ∧ off < 0x1000) ∨ (0x1008 ≤ off ∧ off < 0x10000) ∨ (0x12100 ≤ off ∧ off < 0x18000) ∨
      (0x18048 ≤ off ∧ off < 0x1000000) := by
  simp [unmapped, or_assoc]

theorem ownRow_eq_true (off size : Nat) : ownRow off size = true ↔
    ((off = 0x08 ∨ off = 0x10 ∨ off = 0x1000) ∧ size = 8) ∨ (off = 0x1000 ∧ size = 4) ∨ 0x10000 ≤ off := by
  simp [ownRow, or_assoc]

theorem unmapped_eq_false {off : Nat} (h : ¬((0x58 ≤ off ∧ off < 0x1000) ∨ (0x1008 ≤ off ∧ off < 0x10000) ∨
    (0x12100 ≤ off ∧ off < 0x18000) ∨ (0x18048 ≤ off ∧ off < 0x1000000))) : unmapped off = false :=
  Bool.eq_false_iff.2 fun hu => h ((unmapped_eq_true off).1 hu)

theorem ownRow_eq_false {off size : Nat} (h : ¬(((off = 0x08 ∨ off = 0x10 ∨ off = 0x1000) ∧ size = 8) ∨
    (off = 0x1000 ∧ size = 4) ∨ 0x10000 ≤ off)) : ownRow off size = false :=
  Bool.eq_false_iff.2 fun ho => h ((ownRow_eq_true off size).1 ho)

theorem State.writeSetup_unmapped (s : State) {p off : Nat} (size : Nat) (v : W) (x : Port)
    (h : (0x58 ≤ off ∧ off < 0x1000) ∨ (0x1008 ≤ off ∧ off < 0x10000) ∨ (0x12100 ≤ off ∧ off < 0x18000) ∨
      (0x18048 ≤ off ∧ off < 0x1000000)) : s.writeSetup p off size v x = s.refuse p off 8 :=
  if_pos ((unmapped_eq_true off).2 h)

/-- Nothing happens at DEVICE_ID and at an offset and size that have a row of their own. -/
theorem State.writeSetup_elsewhere (s : State) {p off size : Nat} (v : W) (x : Port) (hm : unmapped off = false)
    (h : off < 8 ∨ ownRow off size = true) : s.writeSetup p off size v x = s := by
  simp [State.writeSetup, hm, h]

/-- A mapped register is accessed as 8 aligned bytes (R12). -/
theorem State.writeSetup_accessSize (s : State) {p off size : Nat} (v : W) (x : Port) (hm : unmapped off = false)
    (h8 : 8 ≤ off) (ho : ownRow off size = false) (h : off % 8 ≠ 0 ∨ size ≠ 8) :
    s.writeSetup p off size v x = s.refuse p off 4 := by
  have hlt : ¬ off < 8 := by omega
  simp [State.writeSetup, hm, hlt, ho, h]

/-- The checks that remain for a register written as 8 aligned bytes: RESERVED_BIT, LOCKED, ILLEGAL_VALUE. -/
theorem State.writeSetup_register (s : State) {p off : Nat} (v : W) (x : Port) (hlo : 0x18 ≤ off) (hhi : off < 0x58)
    (ha : off % 8 = 0) :
    s.writeSetup p off 8 v x =
      if v &&& setupReserved off ≠ 0 then s.refuse p off 1
      else if off ≠ 0x50 ∧ x.committed then s.refuse p off 3
      else if !setupLegal off v then s.refuse p off 2
      else s.storeSetup p off v := by
  have hm : unmapped off = false := unmapped_eq_false (by omega)
  have ho : ownRow off 8 = false := ownRow_eq_false (by omega)
  have hlt : ¬ off < 8 := by omega
  simp [State.writeSetup, hm, ho, hlt, ha]

/-- The registers that SETUP_REGISTER_WRITE stores, each with its reserved bits. -/
def setupMasks : List (Nat × W) :=
  [(0x18, 0x3F), (0x20, 0x1F), (0x28, 0xFFFFFFFFFFFFF0F0), (0x30, 0x7), (0x38, 0x7), (0x40, 0xFFF),
    (0x48, 0xFFF), (0x50, 0xFFFFFFFF0000F000)]

/-- A register of the list lies at an aligned offset, and the model refuses the bits that the list gives. -/
theorem setupReserved_of_mem {off : Nat} {mask : W} (h : (off, mask) ∈ setupMasks) :
    0x18 ≤ off ∧ off < 0x58 ∧ off % 8 = 0 ∧ setupReserved off = mask := by
  have hall : ∀ e ∈ setupMasks, 0x18 ≤ e.1 ∧ e.1 < 0x58 ∧ e.1 % 8 = 0 ∧ setupReserved e.1 = e.2 := by decide
  exact hall _ h

/-- A size of the admin rings is legal where both fields are 4 to 12. -/
theorem setupLegal_ringSize (v : W) : setupLegal 0x28 v = true ↔
    4 ≤ v.toNat % 16 ∧ v.toNat % 16 ≤ 12 ∧ 4 ≤ v.toNat / 256 % 16 ∧ v.toNat / 256 % 16 ≤ 12 := by
  simp [setupLegal, legalLog2_eq_true, nbits_eq_div_mod, and_assoc]

theorem setupLegal_pollPeriod (v : W) : setupLegal 0x50 v = true ↔ v.toNat % 2 ^ 12 ≠ 0 := by
  simp [setupLegal, nbits_eq_div_mod]

/-- Every value is legal for the other registers. -/
theorem setupLegal_of_ne {off : Nat} (v : W) (h : off ≠ 0x28 ∧ off ≠ 0x50) : setupLegal off v = true := by
  unfold setupLegal
  split
  · exact absurd rfl h.1
  · exact absurd rfl h.2
  · rfl

/-- Past the reserved bits and the lock, a legal value is stored and any other refused. -/
theorem State.writeSetup_unlocked (s : State) {p off : Nat} {mask v : W} {x : Port} (h : (off, mask) ∈ setupMasks)
    (hv : v &&& mask = 0) (hc : off = 0x50 ∨ x.committed = false) :
    s.writeSetup p off 8 v x = if !setupLegal off v then s.refuse p off 2 else s.storeSetup p off v := by
  obtain ⟨hlo, hhi, ha, hmask⟩ := setupReserved_of_mem h
  have hopen : ¬(off ≠ 0x50 ∧ x.committed = true) := by
    rintro ⟨hoff, hcom⟩
    rcases hc with hc | hc
    · exact hoff hc
    · exact Bool.false_ne_true (hc.symm.trans hcom)
  rw [s.writeSetup_register v x hlo hhi ha, hmask, if_neg (fun hne => hne hv), if_neg hopen]

theorem State.writeSetup_stores (s : State) {p off : Nat} {mask v : W} {x : Port} (h : (off, mask) ∈ setupMasks)
    (hv : v &&& mask = 0) (hc : off = 0x50 ∨ x.committed = false) (hl : setupLegal off v = true) :
    s.writeSetup p off 8 v x = s.storeSetup p off v := by
  rw [s.writeSetup_unlocked h hv hc, hl]; rfl

theorem State.writeSetup_illegal (s : State) {p off : Nat} {mask v : W} {x : Port} (h : (off, mask) ∈ setupMasks)
    (hv : v &&& mask = 0) (hc : off = 0x50 ∨ x.committed = false) (hl : setupLegal off v ≠ true) :
    s.writeSetup p off 8 v x = s.refuse p off 2 := by
  rw [s.writeSetup_unlocked h hv hc, Bool.eq_false_iff.2 hl]; rfl

/-- After commit a register other than POLL_PERIOD's is locked. -/
theorem State.writeSetup_locked (s : State) {p off : Nat} {mask v : W} {x : Port} (h : (off, mask) ∈ setupMasks)
    (hv : v &&& mask = 0) (hoff : off ≠ 0x50) (hc : x.committed = true) :
    s.writeSetup p off 8 v x = s.refuse p off 3 := by
  obtain ⟨hlo, hhi, ha, hmask⟩ := setupReserved_of_mem h
  rw [s.writeSetup_register v x hlo hhi ha, hmask]
  simp [hv, hoff, hc]

theorem State.writeSetup_reserved (s : State) {p off : Nat} {mask v : W} {x : Port} (h : (off, mask) ∈ setupMasks)
    (hv : v &&& mask ≠ 0) : s.writeSetup p off 8 v x = s.refuse p off 1 := by
  obtain ⟨hlo, hhi, ha, hmask⟩ := setupReserved_of_mem h
  rw [s.writeSetup_register v x hlo hhi ha, hmask, if_pos hv]

/-! ### SETUP_STATUS and commit (R12, R58, R59, R85) -/

theorem exec_setupStatusClear_of_reaches {s : State} {p : Nat} (hp : p < 2) (hr : s.reaches (s.port p) = true)
    (size : Nat) (v : W) :
    exec (.setupStatusClear p size v) s = .next (
      if size ≠ 8 then s.refuse p 0x10 4
      else if v &&& 0x0000F000000000F0 ≠ 0 then s.refuse p 0x10 1
      else s.setPort p { s.port p with
        refused := (s.port p).refused && !nbit v.toNat 2
        refuseCount := if nbits v.toNat 48 16 = 0 then (s.port p).refuseCount else 0 }) :=
  (exec_setupStatusClear p size v s).trans (onBar_of_reaches hp hr _)

theorem exec_setupCommit_of_reaches {s : State} {p : Nat} (hp : p < 2) (hr : s.reaches (s.port p) = true)
    (size : Nat) (v : W) (heads : List (Nat × Option W)) :
    exec (.setupCommit p size v heads) s = .next (
      if size ≠ 8 then s.refuse p 8 4
      else if v &&& 0xFFFFFFFFFFFFFFFE ≠ 0 then s.refuse p 8 1
      else if v = 0 ∨ (s.port p).committed then s
      else if !s.su.ready then s.refuse p 8 7
      else if !s.commitOk p (s.port p) then s.refuse p 8 5
      else (s.commit p heads).settle) :=
  (exec_setupCommit p size v heads s).trans (onBar_of_reaches hp hr _)

/-- A COMMIT of 1 on a port that is not committed comes to the checks of R58. -/
theorem exec_setupCommit_one {s : State} {p : Nat} (hp : p < 2) (hr : s.reaches (s.port p) = true) {v : W}
    (hv : v.toNat = 1) (hc : (s.port p).committed = false) (heads : List (Nat × Option W)) :
    exec (.setupCommit p 8 v heads) s = .next (
      if !s.su.ready then s.refuse p 8 7
      else if !s.commitOk p (s.port p) then s.refuse p 8 5
      else (s.commit p heads).settle) := by
  have hv1 : v = 1 := BitVec.eq_of_toNat_eq hv
  rw [exec_setupCommit_of_reaches hp hr]
  subst hv1
  simp [hc]

/-- Conditions 2 to 4 of R58, spelled out. -/
theorem State.commitOk_eq_true (s : State) (p : Nat) (x : Port) : s.commitOk p x = true ↔
    x.sqBase ≠ 0 ∧ x.cqBase ≠ 0 ∧ x.sqTailAddr ≠ 0 ∧ x.cqHeadAddr ≠ 0 ∧ x.doorbellBase ≠ 0 ∧ x.armBase ≠ 0 ∧
      (4 ≤ x.ringSize.toNat % 16 ∧ x.ringSize.toNat % 16 ≤ 12 ∧
        4 ≤ x.ringSize.toNat / 256 % 16 ∧ x.ringSize.toNat / 256 % 16 ≤ 12) ∧
      ((s.port (1 - p)).committed = true →
        (s.port (1 - p)).doorbellBase = x.doorbellBase ∧ (s.port (1 - p)).armBase = x.armBase) := by
  simp [State.commitOk, legalLog2_eq_true, nbits_eq_div_mod, and_assoc, ← Bool.not_eq_true, Decidable.imp_iff_not_or]

/-- With no channel and no ring, a commit sets the port up and, at the first one, makes every group live. -/
theorem State.commit_of_no_rings (s : State) (p : Nat) (heads : List (Nat × Option W)) (hch : s.chans = [])
    (hri : s.rings = []) :
    let done : Port := { s.port p with
      committed := true, asqHead := 0, asqTail := 0, acqTail := 0, acqHead := 0, acur := none, aheld := none, adone := none }
    s.commit p heads =
      if (s.port (1 - p)).committed = true then s.setPort p done else (s.setPort p done).allLive p := by
  simp only [State.commit, State.modPort_eq_setPort]
  by_cases hc : (s.port (1 - p)).committed = true
  · simp [hc, hch, hri]
  · simp [hc, hch, hri]

/-! ### KICK (R56, R57, R63) -/

/-- The reason a KICK is refused, in the order of R56. -/
theorem kickReason_eq (x : Port) (size : Nat) (v : W) :
    let k := if size = 4 then v.toNat % 2 ^ 32 else v.toNat
    kickReason x size v =
      if size ≠ 8 ∧ size ≠ 4 then some 4
      else if 2 ^ 16 ≤ k then some 1
      else if ¬(k < 64 ∨ k = 0x100) then some 2
      else if !x.committed then some 6
      else none := by
  simp only [kickReason, toNat_kickValue]

/-- A KICK that is refused is refused alike for a group and for the admin ring. -/
theorem exec_kick_refused {s : State} {p : Nat} (hp : p < 2) (hr : s.reaches (s.port p) = true) {size : Nat} {v : W}
    {reason : Nat} (h : kickReason (s.port p) size v = some reason) (rd : GroupRead) (tail : Option W) (entry : Option W512) :
    exec (.kickDoorbellGroup p size v rd) s = .next (s.refuse p 0x1000 reason) ∧
      exec (.kickAdminRing p size v tail entry) s = .next (s.refuse p 0x1000 reason) := by
  constructor
  · refine ((exec_kickDoorbellGroup p size v rd s).trans (onBar_of_reaches hp hr _)).trans ?_
    simp only [h]
  · refine ((exec_kickAdminRing p size v tail entry s).trans (onBar_of_reaches hp hr _)).trans ?_
    simp only [h]

theorem exec_kickDoorbellGroup_accepted {s : State} {p : Nat} (hp : p < 2) (hr : s.reaches (s.port p) = true) {size : Nat}
    {v : W} (h : kickReason (s.port p) size v = none) (rd : GroupRead) :
    exec (.kickDoorbellGroup p size v rd) s = .next (
      if (kickValue size v).toNat < 64 && s.polls then s.kickGroup (kickValue size v).toNat rd else s) := by
  refine ((exec_kickDoorbellGroup p size v rd s).trans (onBar_of_reaches hp hr _)).trans ?_
  simp only [h]

theorem exec_kickAdminRing_accepted {s : State} {p : Nat} (hp : p < 2) (hr : s.reaches (s.port p) = true) {size : Nat}
    {v : W} (h : kickReason (s.port p) size v = none) (tail : Option W) (entry : Option W512) :
    exec (.kickAdminRing p size v tail entry) s = .next (
      if (kickValue size v).toNat = 0x100 && (s.port p).masters then s.seeTail p tail entry else s) := by
  refine ((exec_kickAdminRing p size v tail entry s).trans (onBar_of_reaches hp hr _)).trans ?_
  simp only [h]

/-! ### The admin tail and the entry fetched (R62 to R66) -/

theorem State.seeTail_none (s : State) (p : Nat) (entry : Option W512) :
    s.seeTail p none entry =
      ((s.setPort p { s.port p with asqTail := (s.port p).asqHead }).readFails p).logErr 2 13 p 0 := rfl

/-- A tail word more than a ring's length ahead is logged, and nothing is fetched. -/
theorem State.seeTail_far (s : State) (p : Nat) {w : W} (entry : Option W512)
    (h : (s.port p).asqSize < (w.setWidth 32 - (s.port p).asqHead).toNat) :
    s.seeTail p (some w) entry = (s.setPort p { s.port p with asqTail := (s.port p).asqHead }).logErr 2 13 p 0 := if_pos h

theorem State.seeTail_near (s : State) (p : Nat) {w : W} (entry : Option W512)
    (h : (w.setWidth 32 - (s.port p).asqHead).toNat ≤ (s.port p).asqSize) :
    s.seeTail p (some w) entry = (s.setPort p { s.port p with asqTail := w.setWidth 32 }).fetchAdmin p entry :=
  if_neg (Nat.not_lt.2 h)

/-- A port whose admin ring may fetch, with its tail moved: the read of the entry at the head fails. -/
theorem State.fetchAdmin_setPort_none (s : State) {p : Nat} {y : Port} (hp : p < 2) (hy : y.mayFetchAdmin = true) :
    (s.setPort p y).fetchAdmin p none = ((s.setPort p { y with asqTail := y.asqHead }).readFails p).logErr 2 13 p 0 := by
  simp [State.fetchAdmin, State.port_setPort_same s y hp, State.setPort_setPort, hy]

theorem State.fetchAdmin_setPort_some (s : State) {p : Nat} {y : Port} (e : W512) (hp : p < 2) (hy : y.mayFetchAdmin = true) :
    (s.setPort p y).fetchAdmin p (some e) = s.setPort p (y.takeEntry e) := by
  simp [State.fetchAdmin, State.port_setPort_same s y hp, State.setPort_setPort, hy]

/-- The admin ring may fetch where no command is in hand, the completion ring has room and an entry waits (R64, R66). -/
theorem Port.mayFetchAdmin_of {x : Port} (h1 : x.acur = none) (h2 : x.aheld = none) (h3 : x.adone = none)
    (hroom : (x.acqTail - x.acqHead).toNat < x.acqSize) (hm : x.masters = true) (hc : x.committed = true)
    (hne : x.asqHead ≠ x.asqTail) : x.mayFetchAdmin = true := by
  have hused : x.acqUsed < x.acqSize := hroom
  simp [Port.mayFetchAdmin, h1, h2, h3, hused, hm, hc, hne]

theorem Port.takeEntry_assigned (x : Port) {e : W512} (h : opcodeAssigned (W512.fld e 0 1) = true) :
    x.takeEntry e = { x with asqHead := x.asqHead + 1, acur := some e } := if_pos h

/-- A reserved opcode is completed at once with ADMIN_OPCODE (R69). -/
theorem Port.takeEntry_reserved (x : Port) {e : W512} (h : opcodeAssigned (W512.fld e 0 1) = false) :
    x.takeEntry e = { x with asqHead := x.asqHead + 1, adone := some ⟨W512.fld e 2 2, 0x0601, 0, 0⟩ } :=
  if_neg (by simp [h])

/-! ### The obligation -/

/-- Settles O32: each write follows from the chain of checks of R56 and, past them, from what the row stores, commits or
fetches. -/
theorem setupRegistersAndKicks : Obligations.SetupRegistersAndKicks := by
  unfold Obligations.SetupRegistersAndKicks
  refine ⟨?refusal, ?registers, ?status, ?commit, ?live, ?kicks, ?elsewhere⟩
  case refusal =>
    intro s p off reason hp
    obtain ⟨bits, h⟩ := s.port_refuse off reason hp
    exact ⟨by rw [h], by rw [h], by rw [h], by rw [h], by rw [h], by rw [h], by rw [h], s.refuse_mem p off reason,
      s.refuse_of_refused p off reason⟩
  case registers =>
    intro s p off size v hp hr
    simp only [exec_setupRegisterWrite_of_reaches hp hr, Host.Outcome.next.injEq]
    refine ⟨?unmapped, ?deviceId, ?accessSize, ?kickSize, ?own, ?register⟩
    case unmapped =>
      intro h
      exact s.writeSetup_unmapped size v _ h
    case deviceId =>
      intro h
      exact s.writeSetup_elsewhere v _ (unmapped_eq_false (by omega)) (.inl h)
    case accessSize =>
      intro hlo hhi h
      exact s.writeSetup_accessSize v _ (unmapped_eq_false (by omega)) hlo (ownRow_eq_false (by omega)) h
    case kickSize =>
      intro hlo hhi h
      exact s.writeSetup_accessSize v _ (unmapped_eq_false (by omega)) (by omega) (ownRow_eq_false (by omega)) (by omega)
    case own =>
      intro h
      exact s.writeSetup_elsewhere v _ (unmapped_eq_false (by omega)) (.inr ((ownRow_eq_true off size).2 (by omega)))
    case register =>
      rintro mask hmem rfl
      refine ⟨s.writeSetup_reserved hmem, fun hv hoff hc => s.writeSetup_locked hmem hv hoff hc, ?_, ?_, ?_, ?_, ?_⟩
      · rintro hv rfl hz
        exact s.writeSetup_illegal hmem hv (.inl rfl) (fun hl => (setupLegal_pollPeriod v).1 hl hz)
      · rintro hv rfl hc hbad
        exact s.writeSetup_illegal hmem hv (.inr hc) (fun hl => hbad ((setupLegal_ringSize v).1 hl))
      · rintro hv rfl hz
        rw [s.writeSetup_stores hmem hv (.inl rfl) ((setupLegal_pollPeriod v).2 hz)]
        simp only [State.storeSetup, nbits_eq_div_mod, Nat.pow_zero, Nat.div_one]
      · rintro hv rfl hc hok
        exact s.writeSetup_stores hmem hv (.inr hc) ((setupLegal_ringSize v).2 hok)
      · intro hv hc
        have hst := fun hl => s.writeSetup_stores (p := p) hmem hv (.inr hc) (setupLegal_of_ne (off := off) v hl)
        refine ⟨?_, ?_, ?_, ?_, ?_, ?_⟩ <;>
          (rintro rfl; exact hst (by decide))
  case status =>
    intro s p size v hp hr
    simp only [exec_setupStatusClear_of_reaches hp hr, Host.Outcome.next.injEq]
    refine ⟨fun h => if_pos h, ?_, ?_⟩
    · rintro rfl hv
      rw [if_neg (by simp), if_pos hv]
    · rintro rfl hv
      rw [if_neg (by simp), if_neg (by simpa using hv)]
      have hcount : nbits v.toNat 48 16 = v.toNat / 2 ^ 48 := by
        have := v.isLt
        rw [nbits_eq_div_mod]; omega
      rw [hcount]
      rfl
  case commit =>
    intro s p size v heads hp hr
    refine ⟨?ctrlSize, ?ctrlReserved, ?one⟩
    case ctrlSize =>
      intro h
      rw [exec_setupCommit_of_reaches hp hr, if_pos h]
    case ctrlReserved =>
      rintro rfl hv
      have hres : v &&& 0xFFFFFFFFFFFFFFFE ≠ 0 := fun h => absurd ((and_allButBitZero_eq_zero v).1 h) (by omega)
      rw [exec_setupCommit_of_reaches hp hr, if_neg (by simp), if_pos hres]
    case one =>
      rintro rfl hv hc
      rw [exec_setupCommit_one hp hr hv hc, ← State.commitOk_eq_true]
      refine ⟨fun h => by simp [h], fun h hok => by simp [h, hok], fun h hok => ⟨by simp [h, hok], ?_⟩⟩
      exact s.commit_of_no_rings p heads
  case live =>
    intro s p g hg
    exact ⟨s.group_allLive p hg, s.allLive_mem p⟩
  case kicks =>
    intro s p size v rd tail entry hp hr x k group admin both
    have hk : (kickValue size v).toNat = k := toNat_kickValue size v
    have hkick := kickReason_eq x size v
    refine ⟨?kickWidth, ?kickReserved, ?value, ?uncommitted, ?accepted⟩
    case kickWidth =>
      intro h8 h4
      exact exec_kick_refused hp hr (by rw [hkick, if_pos ⟨h8, h4⟩]) rd tail entry
    case kickReserved =>
      intro hsz h
      exact exec_kick_refused hp hr (by rw [hkick, if_neg (by omega), if_pos h]) rd tail entry
    case value =>
      intro hsz hlt h
      exact exec_kick_refused hp hr (by rw [hkick, if_neg (by omega), if_neg (by omega), if_pos h]) rd tail entry
    case uncommitted =>
      intro hsz h hc
      have hreason : kickReason x size v = some 6 := by
        rw [hkick, if_neg (by omega), if_neg (by omega), if_neg (by omega), hc]; rfl
      exact exec_kick_refused hp hr hreason rd tail entry
    case accepted =>
      intro hsz hc
      have hok : k < 64 ∨ k = 0x100 → kickReason x size v = none := fun h => by
        rw [hkick, if_neg (by omega), if_neg (by omega), if_neg (by omega), hc]; rfl
      have hadmin : k = 0x100 → admin = .next (if x.masters then s.seeTail p tail entry else s) := fun h => by
        have := exec_kickAdminRing_accepted hp hr (hok (.inr h)) tail entry
        simpa [hk, h] using this
      refine ⟨?group, ?dropped, ?taken⟩
      case group =>
        intro hlt hpoll
        have := exec_kickDoorbellGroup_accepted hp hr (hok (.inl hlt)) rd
        simpa [hk, hlt, hpoll] using this
      case dropped =>
        intro h hm
        rw [hadmin h, hm]; rfl
      case taken =>
        intro h hm
        have htaken : admin = .next (s.seeTail p tail entry) := by rw [hadmin h, if_pos hm]
        refine ⟨?noTail, ?far, ?near⟩
        case noTail =>
          rintro rfl
          exact htaken
        case far =>
          rintro w rfl hfar
          rw [htaken, s.seeTail_far p entry hfar]
        case near =>
          rintro w e rfl hnear h1 h2 h3 hroom hne
          have hmay : ({ x with asqTail := w.setWidth 32 } : Port).mayFetchAdmin = true :=
            Port.mayFetchAdmin_of h1 h2 h3 hroom hm hc hne
          rw [htaken, s.seeTail_near p entry hnear]
          refine ⟨?_, ?_, ?_⟩
          · rintro rfl
            rw [s.fetchAdmin_setPort_none hp hmay]
          · rintro rfl hop
            rw [s.fetchAdmin_setPort_some e hp hmay, Port.takeEntry_assigned _ hop]
          · rintro rfl hop
            rw [s.fetchAdmin_setPort_some e hp hmay, Port.takeEntry_reserved _ hop]
  case elsewhere =>
    intro s p off size v rd tail entry heads
    exact ⟨fun hp hr => ⟨(exec_setupRegisterWrite p off size v s).trans (onBar_of_not_reaches hp hr _),
        (exec_setupStatusClear p size v s).trans (onBar_of_not_reaches hp hr _),
        (exec_setupCommit p size v heads s).trans (onBar_of_not_reaches hp hr _),
        (exec_kickDoorbellGroup p size v rd s).trans (onBar_of_not_reaches hp hr _),
        (exec_kickAdminRing p size v tail entry s).trans (onBar_of_not_reaches hp hr _)⟩,
      fun hp => ⟨(exec_setupRegisterWrite p off size v s).trans (onBar_of_le hp s _),
        (exec_setupStatusClear p size v s).trans (onBar_of_le hp s _),
        (exec_setupCommit p size v heads s).trans (onBar_of_le hp s _),
        (exec_kickDoorbellGroup p size v rd s).trans (onBar_of_le hp s _),
        (exec_kickAdminRing p size v tail entry s).trans (onBar_of_le hp s _)⟩⟩

end Sys2Proof.Machine
end

section
/-!
PROOFS. The management interface and JTAG.
-/

namespace Sys2Proof.Machine

/-! ### Lengths of byte strings -/

theorem length_leBytes (n v : Nat) : (leBytes n v).length = n := by
  induction n generalizing v with
  | zero => rfl
  | succ n ih => rw [leBytes, List.length_cons, ih]

theorem length_padTo (n : Nat) (bs : Bytes) : (padTo n bs).length = n := by
  rw [padTo, List.length_take, List.length_append, List.length_replicate]
  omega

theorem State.length_freeBytes (s : State) (n : Nat) : (s.freeBytes n).length = n := by
  simp [State.freeBytes]

/-- An error-log entry is 64 bytes (R506). -/
theorem LogEntry.length_bytes (e : LogEntry) : e.bytes.length = 64 := by
  simp [LogEntry.bytes, length_leBytes]

/-! ### The management interface (R495, R510, R514, R526) -/

theorem mgmtRow_of_runs {s : State} (h : s.mgmtRuns = true) (f : State → State) : mgmtRow s f = .next (f s) := by
  rw [mgmtRow, if_pos h]

theorem mgmtRow_of_not_runs {s : State} (h : s.mgmtRuns = false) (f : State → State) : mgmtRow s f = .next s := by
  rw [mgmtRow, h, if_neg Bool.false_ne_true]

theorem State.mgmtRuns_eq_true (s : State) : s.mgmtRuns = true ↔
    1 ≤ s.su.step ∧ s.su.halted = false ∧ s.su.sysResetLow = false ∧ s.su.testEn = false := by
  simp [State.mgmtRuns, and_assoc]

/-- The eight commands of the management interface. -/
def mgmtRows (v : Byte) (w : W) : List Instr :=
  [.mgmtIdentity, .mgmtSetupStatus, .mgmtThermal, .mgmtAlertCause, .mgmtNewestEntry, .mgmtSelectedEntry, .mgmtAlertClear v,
    .mgmtSeqSelect w]

/-- Each of them asks first whether the interface runs. -/
theorem exec_eq_mgmtRow {v : Byte} {w : W} {row : Instr} (h : row ∈ mgmtRows v w) :
    ∃ f : State → State, ∀ s, exec row s = mgmtRow s f := by
  simp only [mgmtRows, List.mem_cons, List.not_mem_nil, or_false] at h
  rcases h with rfl | rfl | rfl | rfl | rfl | rfl | rfl | rfl <;>
    exact ⟨_, fun _ => rfl⟩

theorem exec_mgmtIdentity (s : State) : exec .mgmtIdentity s = execMgmtIdentity s := rfl
theorem exec_mgmtSetupStatus (s : State) : exec .mgmtSetupStatus s = execMgmtSetupStatus s := rfl
theorem exec_mgmtThermal (s : State) : exec .mgmtThermal s = execMgmtThermal s := rfl
theorem exec_mgmtAlertCause (s : State) : exec .mgmtAlertCause s = execMgmtAlertCause s := rfl
theorem exec_mgmtNewestEntry (s : State) : exec .mgmtNewestEntry s = execMgmtNewestEntry s := rfl
theorem exec_mgmtSelectedEntry (s : State) : exec .mgmtSelectedEntry s = execMgmtSelectedEntry s := rfl
theorem exec_mgmtAlertClear (v : Byte) (s : State) : exec (.mgmtAlertClear v) s = execMgmtAlertClear v s := rfl
theorem exec_mgmtSeqSelect (v : W) (s : State) : exec (.mgmtSeqSelect v) s = execMgmtSeqSelect v s := rfl

theorem exec_mgmtNewestEntry_of_runs {s : State} (h : s.mgmtRuns = true) :
    exec .mgmtNewestEntry s = .next (s.mgmtEntry s.elog.head?) := (exec_mgmtNewestEntry s).trans (mgmtRow_of_runs h _)

theorem exec_mgmtSelectedEntry_of_runs {s : State} (h : s.mgmtRuns = true) :
    exec .mgmtSelectedEntry s = .next (s.mgmtEntry (s.elog.find? (fun e => e.seq == s.mgmtSeq.toNat))) :=
  (exec_mgmtSelectedEntry s).trans (mgmtRow_of_runs h _)

theorem exec_mgmtAlertClear_of_runs {s : State} (h : s.mgmtRuns = true) (v : Byte) :
    exec (.mgmtAlertClear v) s =
      .next (({ s with alert := s.alert &&& ~~~(v.setWidth 4) } : State).alertFrom s.alertN) :=
  (exec_mgmtAlertClear v s).trans (mgmtRow_of_runs h _)

/-- With no entry, 64 free bytes are returned. -/
theorem State.mgmtEntry_none (s : State) : ∃ bytes : Bytes, bytes.length = 64 ∧
    s.mgmtEntry none = { s.mgmtBlock bytes with free := s.free + 8 } :=
  ⟨s.freeBytes 64, s.length_freeBytes 64, rfl⟩

/-- The entry selected is the one with the number, where only one has it. -/
theorem find?_seq_of_unique {l : List LogEntry} {e : LogEntry} {n : Nat} (he : e ∈ l) (hn : e.seq = n)
    (huniq : ∀ x ∈ l, x.seq = e.seq → x = e) : l.find? (fun x => x.seq == n) = some e := by
  obtain ⟨y, hy⟩ := Option.isSome_iff_exists.1
    (List.find?_isSome.2 ⟨e, he, beq_iff_eq.2 hn⟩ : (l.find? (fun x => x.seq == n)).isSome = true)
  have hseq : y.seq = n := by simpa using List.find?_some hy
  rw [hy, huniq y (List.mem_of_find?_eq_some hy) (hseq.trans hn.symm)]

/-- ALERT_N following its causes changes the outputs alone. -/
theorem State.alertFrom_out_only (s : State) (was : Bool) : s.alertFrom was = { s with out := (s.alertFrom was).out } := by
  unfold State.alertFrom
  split <;> rfl

theorem State.alertFrom_same {s : State} {was : Bool} (h : s.alertN = was) : s.alertFrom was = s := if_pos h

theorem State.alertFrom_changed {s : State} {was : Bool} (h : s.alertN ≠ was) :
    s.alertFrom was = s.emitOut (.pin "ALERT_N" s.alertN) := if_neg h

/-- ALERT_N is released where the last cause goes and no warning stands (R510). -/
theorem State.alertFrom_released {s : State} {a : BitVec 4} (h : s.alert ≠ 0) (ha : a = 0) (hw : s.therm.warning = false) :
    (({ s with alert := a } : State).alertFrom s.alertN).out = .pin "ALERT_N" false :: s.out := by
  have hnow : ({ s with alert := a } : State).alertN = false := by simp [State.alertN, ha, hw]
  have hwas : s.alertN = true := by rw [State.alertN, bne_iff_ne.2 h, Bool.true_or]
  rw [State.alertFrom_changed (by rw [hnow, hwas]; decide), State.emitOut_out, hnow]

/-- ALERT_N stays as it is where no cause stood before, one is left, or the warning stands. -/
theorem State.alertFrom_unmoved {s : State} {a : BitVec 4} (hle : s.alert = 0 → a = 0)
    (h : s.alert = 0 ∨ a ≠ 0 ∨ s.therm.warning = true) :
    (({ s with alert := a } : State).alertFrom s.alertN).out = s.out := by
  have hsame : ({ s with alert := a } : State).alertN = s.alertN := by
    rcases h with h | h | h
    · simp [State.alertN, h, hle h]
    · have hs : s.alert ≠ 0 := fun h0 => h (hle h0)
      simp only [State.alertN, bne_iff_ne.2 h, bne_iff_ne.2 hs, Bool.true_or]
    · simp [State.alertN, h]
  rw [State.alertFrom_same hsame]

/-- The alert bits that a clear leaves. -/
theorem getLsbD_alertCleared (a : BitVec 4) (v : Byte) {i : Nat} (hi : i < 4) :
    (a &&& ~~~(v.setWidth 4)).getLsbD i = (a.getLsbD i && !v.getLsbD i) := by
  simp [hi]

/-! ### JTAG (R514, R525) -/

/-- The instruction that takes effect for instruction `n`. -/
def State.jtagEffective (s : State) (n : Nat) : Nat :=
  if (3 ≤ n ∧ !s.su.sysResetLow) ∨ (2 ≤ n ∧ s.su.testEn) then 0 else n

theorem State.jtag_eq (s : State) (n : Nat) : s.jtag n = .next { s with
    su := { s.su with jtagIr := s.jtagEffective n }
    out := Out.jtag (s.jtagEffective n) (if s.jtagEffective n = 1 then some 0x19600A3F else none) :: s.out } := rfl

/-- BYPASS and IDCODE always act. -/
theorem State.jtagEffective_le_one (s : State) {n : Nat} (h : n ≤ 1) : s.jtagEffective n = n := by
  rw [State.jtagEffective, if_neg (by omega)]

theorem State.jtagEffective_two (s : State) : s.jtagEffective 2 = if s.su.testEn then 0 else 2 := by
  simp [State.jtagEffective]

/-- EXTEST, CLAMP and HIGHZ act while SYS_RESET_N and TEST_EN are low. -/
theorem State.jtagEffective_of_three_le (s : State) {n : Nat} (h : 3 ≤ n) :
    s.jtagEffective n = if s.su.sysResetLow && !s.su.testEn then n else 0 := by
  have h2 : 2 ≤ n := by omega
  cases hr : s.su.sysResetLow <;> cases ht : s.su.testEn <;> simp [State.jtagEffective, h, h2, hr, ht]

/-- The JTAG instructions by number. -/
def jtagRows : List (Nat × Instr) :=
  [(0, .jtagBypass), (1, .jtagIdcode), (2, .jtagSamplePreload), (3, .jtagExtest), (4, .jtagClamp), (5, .jtagHighz)]

theorem exec_eq_jtag {n : Nat} {row : Instr} (h : (n, row) ∈ jtagRows) (s : State) : exec row s = s.jtag n := by
  simp only [jtagRows, List.mem_cons, Prod.mk.injEq, List.not_mem_nil, or_false] at h
  rcases h with ⟨rfl, rfl⟩ | ⟨rfl, rfl⟩ | ⟨rfl, rfl⟩ | ⟨rfl, rfl⟩ | ⟨rfl, rfl⟩ | ⟨rfl, rfl⟩ <;> rfl

/-- Settles O50: each management command is its effect behind one check, and each JTAG instruction the one step that
selects what takes effect. -/
theorem managementAndJtag : Obligations.ManagementAndJtag := by
  unfold Obligations.ManagementAndJtag
  refine ⟨State.mgmtRuns_eq_true, ?idle, ?reads, LogEntry.length_bytes, ?clear, ?select, ?jtag⟩
  case idle =>
    intro s v w row hrow hs
    obtain ⟨f, hf⟩ := exec_eq_mgmtRow hrow
    rw [hf, mgmtRow_of_not_runs hs]
  case reads =>
    intro s hs
    refine ⟨⟨_, length_padTo 16 _, (exec_mgmtIdentity s).trans (mgmtRow_of_runs hs _)⟩,
      ⟨_, length_padTo 8 _, (exec_mgmtSetupStatus s).trans (mgmtRow_of_runs hs _)⟩,
      ⟨_, length_padTo 16 _, (exec_mgmtThermal s).trans (mgmtRow_of_runs hs _)⟩,
      (exec_mgmtAlertCause s).trans (mgmtRow_of_runs hs _), ?newest, ?selected, ?noNewest, ?noSelected⟩
    case newest =>
      intro e rest h
      have hhead : s.elog.head? = some e := by rw [h]; rfl
      rw [exec_mgmtNewestEntry_of_runs hs, hhead]; rfl
    case selected =>
      intro e he hseq huniq
      rw [exec_mgmtSelectedEntry_of_runs hs, find?_seq_of_unique he hseq huniq]; rfl
    case noNewest =>
      intro h
      obtain ⟨bytes, hlen, hb⟩ := s.mgmtEntry_none
      refine ⟨bytes, hlen, ?_⟩
      rw [exec_mgmtNewestEntry_of_runs hs, List.head?_eq_none_iff.2 h, hb]; rfl
    case noSelected =>
      intro h
      obtain ⟨bytes, hlen, hb⟩ := s.mgmtEntry_none
      have hnone : s.elog.find? (fun e => e.seq == s.mgmtSeq.toNat) = none :=
        List.find?_eq_none.2 fun x hx => by simpa using h x hx
      refine ⟨bytes, hlen, ?_⟩
      rw [exec_mgmtSelectedEntry_of_runs hs, hnone, hb]; rfl
  case clear =>
    intro s v hs
    refine ⟨_, exec_mgmtAlertClear_of_runs hs v, ?_⟩
    rw [State.alertFrom_out_only]
    refine ⟨fun i hi => getLsbD_alertCleared s.alert v hi, rfl, State.alertFrom_released, State.alertFrom_unmoved fun h => ?_⟩
    change s.alert &&& ~~~(v.setWidth 4) = 0
    rw [h]
    exact BitVec.zero_and
  case select =>
    intro s v hs
    exact (exec_mgmtSeqSelect v s).trans (mgmtRow_of_runs hs _)
  case jtag =>
    intro s n row hrow
    refine ⟨s.jtagEffective n, ?_, s.jtagEffective_le_one, ?_, s.jtagEffective_of_three_le⟩
    · rw [exec_eq_jtag hrow, State.jtag_eq]
    · rintro rfl
      exact s.jtagEffective_two

end Sys2Proof.Machine
end
